-- ==== Sys2Proof/Word.lean ====
section
/-! DEFINITION. The word types of the LE340's records, registers and clock (R185, R193, R194). -/

namespace Sys2Proof

/-- One byte of the rig area or of a key port frame (R194, R200). -/
abbrev Byte := BitVec 8

/-- A 32-bit register, rig area field or microsecond stamp (R185, R193, R194). -/
abbrev Word := BitVec 32

end Sys2Proof
end

