-- ==== Sys2Proof/Syntax.lean ====
section
/-! DEFINITION. The commands of the part: one constructor of `Instr` for each row of spec/opcode_table.json. -/

namespace Sys2Proof

/-- What the shared bus does at one access of the memory port (R168): the bytes that the host stored since
the access before, in order and at 32-bit bus addresses; whether the access fails; and, for a write that
fails, how many of its bytes reached the memory first (R163). -/
structure BusAccess where
  hostWrites : List (Word × Byte)
  fails : Bool
  landed : Nat
  deriving DecidableEq, Repr

/-- The bus as one operation of the memory port meets it, access by access in the operation's order (R168).
An access beyond the list meets a bus on which the host wrote nothing and which does not fail. -/
abbrev Bus := List BusAccess

/-- A write on the register bus: the word offered and the byte lanes written, lane n for bits 8n to 8n + 7 (R202). -/
structure RegWrite where
  value : Word
  lanes : BitVec 4
  deriving DecidableEq, Repr

/-- How far the operations of the memory port had come when a device reset cut them short (R168, R193): for each, the
accesses that were made before it, on the bus they met. They are those of the state page rewrite, of the oldest
completion of a slot, of a slot's retry, and of the taking of the oldest journal entry (R155, R177, R179, R181). -/
structure ResetCut where
  page : Bus
  slots : List (Fin 8 × Bus)
  retries : List (Fin 8 × Bus)
  journal : Bus
  deriving DecidableEq, Repr

/-- The commands, one for each row of spec/opcode_table.json, in the table's order. -/
inductive Instr where
  /-- KEY_BYTE_ARRIVAL (R21): `byte` arrives on K`port`; `stopBit` says whether its stop bit was received. -/
  | keyByteArrival (port : Fin 4) (byte : Byte) (stopBit : Bool)
  /-- KEY_DOWN (R34): the routing unit takes the KEY_DOWN that K`port` handed on. -/
  | keyDown (port : Fin 4)
  /-- KEY_UP (R36): the routing unit takes the KEY_UP, or the KEY_DOWN of velocity 0, that K`port` handed on. -/
  | keyUp (port : Fin 4)
  /-- DAMPER_ARRIVAL (R37). -/
  | damperArrival (port : Fin 4)
  /-- CONTROL_ARRIVAL (R39). -/
  | controlArrival (port : Fin 4)
  /-- PROGRAM_ARRIVAL (R40). -/
  | programArrival (port : Fin 4)
  /-- MAIN_FRAME_COMPLETION (R54). -/
  | mainFrameCompletion (port : Fin 6)
  /-- LANE_FRAME_COMPLETION (R53). -/
  | laneFrameCompletion (port : Fin 6)
  /-- OWED_RELEASE_RETRY (R30). -/
  | owedReleaseRetry (port : Fin 6)
  /-- BACKLOG_MOVE (R54). -/
  | backlogMove (port : Fin 6)
  /-- DEFERRAL_RELEASE_ENDING (R135) of the deferral for a module port and channel. -/
  | deferralReleaseEnding (port : Fin 6) (channel : BitVec 4)
  /-- DEFER_DEADLINE (R136) of the deferral for a module port and channel. -/
  | deferDeadline (port : Fin 6) (channel : BitVec 4)
  /-- TICK (R63). -/
  | tick
  /-- CLICK_WIDTH_EXPIRY (R108) of C`line`. -/
  | clickWidthExpiry (line : Fin 4)
  /-- ATTN_PULSE_END (R191). -/
  | attnPulseEnd
  /-- PEDAL_INPUT_CHANGE (R144): F`pedal` changes to `high`. -/
  | pedalInputChange (pedal : Fin 8) (high : Bool)
  /-- DEBOUNCE_EXPIRY (R144) of F`pedal`. -/
  | debounceExpiry (pedal : Fin 8)
  /-- TAP_LAPSE (R86). -/
  | tapLapse
  /-- SYNC_EDGE (R93): SYNC changes from low to high. -/
  | syncEdge
  /-- SYNC_LOST (R97): the loss timer expires. -/
  | syncLost
  /-- SET_LIST_READ_COMPLETION (R12). -/
  | setListReadCompletion (bus : Bus)
  /-- SCENE_READ_COMPLETION (R14). -/
  | sceneReadCompletion (bus : Bus)
  /-- SCENE_READ_RETRY (R15). -/
  | sceneReadRetry
  /-- NOTICE (R174): a write of any value to NOTICE. -/
  | notice (w : RegWrite)
  /-- SCAN_BEGIN (R174). -/
  | scanBegin
  /-- SLOT_VISIT (R175). -/
  | slotVisit (bus : Bus)
  /-- CUE_SCENE (R116). The operands of a request stand in the slot that the scan has taken (R175). -/
  | cueScene
  /-- CUE_POSITION (R116). -/
  | cuePosition
  /-- GO (R121). -/
  | go
  /-- HOLD (R123). -/
  | hold
  /-- RESUME (R124). -/
  | resume
  /-- CANCEL (R125). -/
  | cancel
  /-- UNLOCK_ZONES (R138). -/
  | unlockZones
  /-- START (R66). -/
  | start
  /-- STOP (R68). -/
  | stop
  /-- LOCATE (R69). -/
  | locate
  /-- SET_TEMPO (R78). -/
  | setTempo
  /-- APPLY_SYNC (R78). -/
  | applySync
  /-- RELEASE_ALL (R41). -/
  | releaseAll
  /-- RELOAD (R172), with the bus that its header reads meet. -/
  | reload (bus : Bus)
  /-- UNKNOWN_REQUEST (R176). -/
  | unknownRequest
  /-- SLOT_COMPLETION (R177). -/
  | slotCompletion (slot : Fin 8) (bus : Bus)
  /-- COMPLETION_RETRY (R179). -/
  | completionRetry (slot : Fin 8) (bus : Bus)
  /-- STATE_PAGE_REWRITE (R181). -/
  | statePageRewrite (bus : Bus)
  /-- STATE_PAGE_RETRY (R182). -/
  | statePageRetry
  /-- JOURNAL_WRITE_COMPLETION (R155). -/
  | journalWriteCompletion (bus : Bus)
  /-- CONTROL_ENABLE_SET (R187): a CONTROL write with the enable set. -/
  | controlEnableSet (w : RegWrite)
  /-- CONTROL_ENABLE_CLEAR (R187): a CONTROL write with the enable clear. -/
  | controlEnableClear (w : RegWrite)
  /-- ATTENTION_MODE (R191): a CONTROL write for its attention mode. -/
  | attentionMode (w : RegWrite)
  /-- CAUSE_ENABLE (R186): a CONTROL write for its cause enables. -/
  | causeEnable (w : RegWrite)
  /-- CONTROL_RESET (R193): a CONTROL write with the reset bit set. -/
  | controlReset (w : RegWrite) (cut : ResetCut)
  /-- AREA (R185). -/
  | area (w : RegWrite)
  /-- ACK (R192). -/
  | ack (w : RegWrite)
  /-- IGNORED_REGISTER_WRITE (R202): a write to ID, STATUS or an address beyond the registers. -/
  | ignoredRegisterWrite (addr : Word) (w : RegWrite)
  /-- HEADER_READ_COMPLETION (R170). -/
  | headerReadCompletion (bus : Bus)
  /-- DRAIN_END (R189). -/
  | drainEnd
  /-- DRAIN_LIMIT (R189). -/
  | drainLimit
  /-- POWER_ON (R193). -/
  | powerOn (cut : ResetCut)
  /-- RESET_PIN_ASSERT (R193). -/
  | resetPinAssert (cut : ResetCut)
  /-- RESET_PIN_RELEASE (R193). -/
  | resetPinRelease
  deriving DecidableEq, Repr

end Sys2Proof
end

