-- ==== Sys2Proof/Config.lean ====
section
/-! DEFINITION. The numbers the manual fixes for the part, each under the rule that gives it, and the one free value: the
bus that a drain's last journal entries meet. The manual leaves no arithmetic result undefined. -/

namespace Sys2Proof.Config

/-- Messages a main queue holds (R46, R47). -/
def mainCap : Nat := 32

/-- Occupancy plus backlog below which a non-release message is admitted (R48). -/
def nonReleaseLimit : Nat := 24

/-- Entry messages a backlog holds (R49). -/
def backlogCap : Nat := 16

/-- Click messages a click lane holds (R50). -/
def laneCap : Nat := 8

/-- Microseconds a module port frame occupies the line (R52). -/
def frameTime : Nat := 160

/-- Microseconds of one bit at 250,000 bit/s (R52). -/
def bitTime : Nat := 4

/-- Zones the active zone set holds (R128). -/
def maxZones : Nat := 8

/-- Ticks of one beat (R64). -/
def ticksPerBeat : Nat := 240

/-- Tick length in microseconds times the tempo (R63). -/
def tickDividend : Nat := 25000000

/-- Twice the beat length in microseconds times the tempo, for rounding half up (R87, R95). -/
def doubledBeatDividend : Nat := 12000000000

/-- The lowest tempo in hundredths of a BPM (R62). -/
def tempoMin : Nat := 2000

/-- The highest tempo in hundredths of a BPM (R62). -/
def tempoMax : Nat := 30000

/-- The last bar number; bar 1 follows it (R64). -/
def maxBar : Nat := 9999

/-- The shortest tap interval in range (R85). -/
def tapMin : Nat := 150000

/-- The longest tap interval in range (R85). -/
def tapMax : Nat := 2000000

/-- Intervals the tap ring holds (R84). -/
def tapRingCap : Nat := 4

/-- An edge sooner than this after the last accepted edge is a glitch (R93). -/
def glitchTime : Nat := 100

/-- The loss timer of GATHERING (R97). -/
def gatherLossTime : Nat := 2000000

/-- Reads of a scene record that one copy makes at most (R15). -/
def maxReads : Nat := 4

/-- The wait before a further scene read, completion attempt or page rewrite (R15, R179, R182). -/
def retryTime : Nat := 1000

/-- The drain limit (R188). -/
def drainTime : Nat := 250000

/-- The length of an ATTN pulse (R191). -/
def pulseTime : Nat := 2

/-- Bytes of a scene record (R1). -/
def sceneBytes : Nat := 384

/-- Bytes of the setup header (R169). -/
def headerBytes : Nat := 256

/-- Bytes of the state page (R180). -/
def pageBytes : Nat := 64

/-- Bytes of a request slot (R169). -/
def slotBytes : Nat := 32

/-- Bytes of a journal entry slot (R154). -/
def entryBytes : Nat := 32

/-- The longest loss run that is counted (R159). -/
def lossCap : Nat := 65535

/-- The setup header magic (R195). -/
def headerMagic : Nat := 0x52494731

/-- The state page magic (R198). -/
def pageMagic : Nat := 0x53544131

/-- The product code and silicon revision that ID reads as (R185, R201). -/
def idValue : BitVec 32 := 0x03400001#32

/-- FREE VALUE (log 8). What the journal writer's accesses meet when a drain ends with entries still to be taken, for the
drain of a number: which fail, and what the host stores around them. Nothing constrains it (R157, R163, R189). -/
opaque drainBus : Nat → Sys2Proof.Bus

end Sys2Proof.Config
end

