-- ==== Sys2Proof/Machine/State.lean ====
section
/-! DEFINITION. The state of the part as plain data, block by block, and the state after reset.
Each type names the rule that lists its parts; INVENTORY.md lists every field with its reset value. -/

namespace Sys2Proof.Machine

/-! ## Messages, destinations and positions -/

/-- The five message kinds of a key port frame; a module port carries all but DAMPER (R200, R46). -/
inductive FrameKind where
  | keyDown | keyUp | damper | control | program
  deriving DecidableEq, Repr

/-- A message: kind, channel 0-15, data1 and data2 0-127 (R46, R200). -/
structure Message where
  kind : FrameKind
  channel : BitVec 4
  data1 : BitVec 7
  data2 : BitVec 7
  deriving DecidableEq, Repr

/-- A destination: a module port and a channel (00, Conventions). -/
structure Dest where
  port : Fin 6
  channel : BitVec 4
  deriving DecidableEq, Repr

/-- A destination key: a module port, a channel and a key (00, Conventions). -/
structure DestKey where
  dest : Dest
  key : BitVec 7
  deriving DecidableEq, Repr

/-- A position in the music as a stamp shows it: bar 0 during a count-in (R64, R81). -/
structure Position where
  bar : Nat
  beat : Nat
  tick : Nat
  deriving DecidableEq, Repr

/-- A stamp: the microsecond clock and the position at an event (R81). -/
structure Stamp where
  clock : Word
  pos : Position
  deriving DecidableEq, Repr

/-! ## Scenes (R2, R5, R8, R17) -/

/-- When a go takes effect (R2). -/
inductive Boundary where
  | now | beat | bar
  deriving DecidableEq, Repr

/-- Whether the tempo is set by the writers or follows the sync estimate (R62). -/
inductive TempoSource where
  | manual | follow
  deriving DecidableEq, Repr

/-- The treatment of old voices on touched destinations (R2). -/
inductive SpillMode where
  | keep | cut | defer
  deriving DecidableEq, Repr

/-- The kind of a velocity curve (R5). -/
inductive CurveKind where
  | scale | fixed
  deriving DecidableEq, Repr

/-- A zone as the copy keeps it (R5, R6). The curve fields of the other kind stand as written. -/
structure Zone where
  ports : BitVec 4
  channel : Option (BitVec 4)
  keyLow : BitVec 7
  keyHigh : BitVec 7
  velLow : BitVec 7
  velHigh : BitVec 7
  transpose : Int
  curve : CurveKind
  gain : Nat
  offset : Int
  fixedValue : Nat
  dest : Dest
  passControls : Bool
  lock : Bool
  deriving DecidableEq, Repr

/-- An entry message with the module port it goes to (R8). -/
structure EntryMessage where
  port : Fin 6
  msg : Message
  deriving DecidableEq, Repr

/-- A scene copy: the pending copy or the active scene (R17). A tempo of 0 is KEEP. -/
structure SceneCopy where
  number : BitVec 7
  position : Option Nat
  headCount : Word
  clamps : Nat
  name : List Byte
  meter : Nat
  tempo : Nat
  glideBeats : Nat
  boundary : Boundary
  countInBars : Nat
  startTransport : Bool
  source : TempoSource
  spill : SpillMode
  deferLimit : Nat
  accents : BitVec 16
  subdivisions : Vector Nat 4
  zones : List Zone
  entryMessages : List EntryMessage
  deriving DecidableEq, Repr

/-! ## Key ports (R21) -/

/-- The states of a frame assembler (R21). -/
inductive AsmState where
  | seeking | waiting | collecting
  deriving DecidableEq, Repr

/-- A complete frame on its way to the routing unit, stamped at its fourth byte (R21). -/
structure Arrival where
  msg : Message
  clock : Word
  deriving DecidableEq, Repr

/-- A key port: its frame assembler and the frames it has handed on. -/
structure KeyPort where
  asm : AsmState
  held : List Byte
  handed : List Arrival
  deriving DecidableEq, Repr

/-! ## Routing unit (R27, R37) -/

/-- Where a voice entry came from (R27). -/
structure Source where
  port : Fin 4
  channel : BitVec 4
  key : BitVec 7
  deriving DecidableEq, Repr

/-- The states of a voice entry (R27). -/
inductive VoiceState where
  | sounding | sustained | releasing
  deriving DecidableEq, Repr

/-- The release flag of a destination record (R27). -/
inductive ReleaseFlag where
  | pending | owed | done
  deriving DecidableEq, Repr

/-- A destination record of a voice entry (R27). -/
structure DestRecord where
  key : DestKey
  flag : ReleaseFlag
  deriving DecidableEq, Repr

/-- A voice entry (R27). -/
structure Voice where
  source : Source
  velIn : BitVec 7
  state : VoiceState
  dests : List DestRecord
  deriving DecidableEq, Repr

/-! ## Module ports (R46) -/

/-- The idle polarity of a line (R57, R102). -/
inductive Polarity where
  | normal | inverted
  deriving DecidableEq, Repr

/-- The transmitter of a module port; a frame on the line carries the moment of its completion (R46, R52). -/
inductive Transmitter where
  | idle
  | sendingMain (endsAt : Word)
  | sendingLane (endsAt : Word)
  deriving DecidableEq, Repr

/-- A module port (R46). -/
structure ModulePort where
  main : List Message
  backlog : List Message
  lane : List Message
  tx : Transmitter
  polarity : Polarity
  pendingPolarity : Option Polarity
  deriving DecidableEq, Repr

/-- A deferral (R134). -/
structure Deferral where
  dest : Dest
  messages : List Message
  deadline : Word
  activation : BitVec 16
  deriving DecidableEq, Repr

/-! ## Tempo generator (R62, R64, R65, R67) -/

/-- The transport states (section 4.4). -/
inductive Transport where
  | stopped | countIn | playing
  deriving DecidableEq, Repr

/-- What made T change or set up a glide, as a TEMPO entry says it (R71, R80). -/
inductive TempoCause where
  | scene | request | tap | sync | follow | glide
  deriving DecidableEq, Repr

/-- A glide (R62, R72): `up` is the sign of E - S. -/
structure Glide where
  target : Nat
  remaining : Nat
  length : Nat
  stepSize : Nat
  remainder : Nat
  acc : Nat
  up : Bool
  deriving DecidableEq, Repr

/-- The count-in counter with the number of count-in bars to run (R67). -/
structure CountIn where
  bars : Nat
  bar : Nat
  beat : Nat
  tick : Nat
  deriving DecidableEq, Repr

/-- The tempo record, the meter, the transport and the position (R62, R64, R65, R67). -/
structure Tempo where
  t : Nat
  acc : Nat
  pending : Option (Nat × TempoCause)
  glide : Option Glide
  source : TempoSource
  meter : Nat
  pendingMeter : Option Nat
  transport : Transport
  bar : Nat
  beat : Nat
  tick : Nat
  countIn : Option CountIn
  tickAt : Option Word
  deriving DecidableEq, Repr

/-! ## Click unit (R101, R103) -/

/-- The click line modes (R101). -/
inductive ClickMode where
  | always | countInOnly | muted
  deriving DecidableEq, Repr

/-- The setup of a click line (R101). -/
structure ClickSetup where
  enable : Bool
  polarity : Polarity
  mode : ClickMode
  accentWidth : Nat
  normalWidth : Nat
  route : Option (Fin 6)
  channel : BitVec 4
  accentKey : BitVec 7
  normalKey : BitVec 7
  accentVelocity : BitVec 7
  normalVelocity : BitVec 7
  deriving DecidableEq, Repr

/-- A click line (R103). It is ACTIVE exactly while `endsAt`, its width timer, is present. -/
structure ClickLine where
  setup : ClickSetup
  endsAt : Option Word
  sounding : Option DestKey
  subdivision : Nat
  accents : BitVec 16
  pendingSet : Option (Nat × BitVec 16)
  deriving DecidableEq, Repr

/-- The click unit: four lines and the global mute (R103). -/
structure ClickUnit where
  lines : Vector ClickLine 4
  mute : Bool
  deriving DecidableEq, Repr

/-! ## Change unit (R115) -/

/-- The change states (R115). -/
inductive ChangeState where
  | idle | loading | cued | armed | held
  deriving DecidableEq, Repr

/-- The origin of a cue (R115). -/
inductive CueOrigin where
  | cueScene (slot : Fin 8) (tag : Word)
  | cuePosition (slot : Fin 8) (tag : Word)
  | next
  | prev
  | programSelect
  deriving DecidableEq, Repr

/-- The origin of a go (R115). -/
inductive GoOrigin where
  | request (slot : Fin 8) (tag : Word)
  | goPedal
  | next
  | prev
  | programSelect
  deriving DecidableEq, Repr

/-- The cue in progress with its load buffer (R14 to R19, R115): the scene is absent until the set list entry
of a cue by position has been read; `reads` counts the scene reads completed; `headRead` is the head edit count
read last, or 0. -/
structure Load where
  origin : CueOrigin
  position : Option Nat
  scene : Option (BitVec 7)
  reads : Nat
  headRead : Word
  retryAt : Option Word
  deriving DecidableEq, Repr

/-- What a read of the change unit reads (R12, R14). -/
inductive CopyTarget where
  | setListEntry (position : Nat)
  | sceneRecord (number : BitVec 7)
  deriving DecidableEq, Repr

/-- A read of the change unit under way on the memory port (R14, R19). -/
structure CopyRead where
  target : CopyTarget
  abandoned : Bool
  deriving DecidableEq, Repr

/-- The go in flight (R115). -/
structure GoFlight where
  origin : GoOrigin
  waiting : Bool
  deriving DecidableEq, Repr

/-- The armed boundary with the moment it was counted from (R115, R122). -/
structure Armed where
  boundary : Boundary
  since : Word
  deriving DecidableEq, Repr

/-- The change unit (R115), with its reads on the memory port. The deferral list stands in `Stage`. -/
structure ChangeUnit where
  state : ChangeState
  loadingFlag : Bool
  copy : Option SceneCopy
  load : Option Load
  go : Option GoFlight
  armed : Option Armed
  active : Option SceneCopy
  zones : List Zone
  setPosition : Option Nat
  activation : BitVec 16
  reads : List CopyRead
  deriving DecidableEq, Repr

/-! ## Pedals (R142, R143) -/

/-- The pedal functions (R142). -/
inductive PedalFunction where
  | next | prev | go | hold | tap | lockOverride | damper | clickMute | panic | notify
  deriving DecidableEq, Repr

/-- The setup of a pedal input (R142); the debounce is in ms. -/
structure PedalSetup where
  function : PedalFunction
  polarity : Polarity
  debounce : Nat
  mask : BitVec 4
  deriving DecidableEq, Repr

/-- A pedal input (R143). -/
structure Pedal where
  high : Bool
  pressed : Bool
  timer : Option Word
  setup : PedalSetup
  deriving DecidableEq, Repr

/-! ## Tap capture and sync follower (R84, R92) -/

/-- Tap capture: the tap ring, oldest interval first, and the last tap time (R84). -/
structure TapCapture where
  ring : List Nat
  last : Option Word
  deriving DecidableEq, Repr

/-- The sync follower states (R92). -/
inductive SyncState where
  | off | absent | gathering | locked | lost
  deriving DecidableEq, Repr

/-- The sync follower (R91, R92); the deadband is the one the tempo generator reads (R77). `lossLeft` is what the loss
timer still has to run, in microseconds: it may outrun the clock's range (R97). -/
structure SyncFollower where
  division : Nat
  window : Nat
  deadband : Nat
  state : SyncState
  ring : List Nat
  lastEdge : Option Word
  estimate : Option Nat
  average : Option Nat
  clampNoted : Bool
  lossLeft : Option Nat
  deriving DecidableEq, Repr

/-! ## Journal entries (R165) -/

/-- Why a frame or byte was discarded (R22). -/
inductive LineReason where
  | cutShort | stray | badStop | badKind | badChannel
  deriving DecidableEq, Repr

/-- What became of a KEY_UP (R42). -/
inductive KeyUpOutcome where
  | sustained | releasing | notFound
  deriving DecidableEq, Repr

/-- The result codes (R177). -/
inductive ResultCode where
  | ok | busy | notReady | badArg | badScene | torn | following | noSync | cancelled | offline | memory | unknown
  deriving DecidableEq, Repr

/-- How the moment of a switch came (R139). -/
inductive Moment where
  | now | beat | bar | stopped | transportStop
  deriving DecidableEq, Repr

/-- A request with its slot, or a pedal with its number (R139, R199). -/
inductive Sender where
  | request (slot : Fin 8)
  | pedal (number : Fin 8)
  deriving DecidableEq, Repr

/-- The direction of a NEXT or PREV (R139). -/
inductive Direction where
  | next | prev
  deriving DecidableEq, Repr

/-- The cause of a TRANSPORT entry (R80). -/
inductive TransportCause where
  | request | scene | countInEnd | drain
  deriving DecidableEq, Repr

/-- A press or a release (R144). -/
inductive PedalEdge where
  | press | release
  deriving DecidableEq, Repr

/-- The cause of a PEDAL entry (R151). -/
inductive PedalCause where
  | input | reload
  deriving DecidableEq, Repr

/-- The outcome of a PEDAL entry (R151). -/
inductive PedalOutcome where
  | acted | ignored | setEnd | draining | none
  deriving DecidableEq, Repr

/-- The kind of a TAP press (R89). -/
inductive TapKind where
  | first | restart | added | ignored
  deriving DecidableEq, Repr

/-- The admission class a DROP entry names (R56). -/
inductive DropClass where
  | nonRelease | entry
  deriving DecidableEq, Repr

/-- The reason of a DROP entry (R56). -/
inductive DropReason where
  | limit | backlog
  deriving DecidableEq, Repr

/-- The user of the memory port that a MEMORY entry names (R165, R199). -/
inductive MemoryUser where
  | sceneCopy | setListRead | statePage | requestSlot | header
  deriving DecidableEq, Repr

/-- The classes of journal entry (R156). -/
inductive EntryClass where
  | play | rig | fault
  deriving DecidableEq, Repr

/-- The sticky faults, in their bit order (R190, R201). -/
inductive StickyFault where
  | header | memory | journal | drain | line | sync
  deriving DecidableEq, Repr

/-- The attention causes, in their bit order (R190, R201). -/
inductive Cause where
  | slotDone | journalLevel | fault
  deriving DecidableEq, Repr

/-- A journal entry before its stamp and sequence, kind by kind, with the details of R165.
GAP stands apart: the journal writer makes it from its loss run (R160). -/
inductive Entry where
  | keyDownIn (source : Source) (velocity : BitVec 7) (index : Option (Fin 128)) (records : Nat) (retrigger : Bool)
  | keyUpIn (source : Source) (velocity : BitVec 7) (index : Option (Fin 128)) (outcome : KeyUpOutcome)
      (velIn : BitVec 7)
  | damperIn (port : Fin 4) (channel : BitVec 4) (down : Bool)
  | cueTaken (headCount : Word) (code : ResultCode) (value : Nat) (origin : CueOrigin)
      (scene : Option (BitVec 7)) (position : Option Nat)
  | sceneChanged (scene : BitVec 7) (activation : BitVec 16) (setPosition : Option Nat) (moment : Moment)
      (origin : GoOrigin) (carried deferrals : Nat) (override : Bool) (spill : SpillMode)
  | changeHeld (scene : BitVec 7) (sender : Sender)
  | changeResumed (scene : BitVec 7) (boundary : Boundary) (sender : Sender)
  | changeCancelled (scene : Option (BitVec 7)) (state : ChangeState) (loadingFlag : Bool)
  | setEnd (direction : Direction) (position : Option Nat)
  | transport (before after : Transport) (cause : TransportCause) (bars : Nat)
  | tempo (before after : Nat) (cause : TempoCause) (length : Nat)
  | glideEnd (target length : Nat)
  | glideCancelled (t target remaining : Nat)
  | pedal (number : Fin 8) (function : PedalFunction) (edge : PedalEdge) (cause : PedalCause)
      (outcome : PedalOutcome) (main second : Word)
  | pedalIgnored (number : Fin 8) (function : PedalFunction) (state : ChangeState) (loadingFlag : Bool)
  | syncLocked (average estimate division window : Nat)
  | syncLost (estimate : Option Nat) (state : SyncState) (intervals : Nat)
  | drop (port : Fin 6) (msg : Message) (cls : DropClass) (reason : DropReason) (level : Nat)
  | voiceFull (source : Source) (velocity : BitVec 7)
  | clickDrop (port : Fin 6) (line : Fin 4) (msg : Message) (level : Nat)
  | carryConflict (place : Nat) (dest : Dest) (scene : BitVec 7)
  | carryDropped (place : Nat) (dest : Dest) (scene : BitVec 7)
  | deferDiscarded (dest : Dest) (messages : Nat) (activation : BitVec 16)
  | lineFault (port : Fin 4) (reason : LineReason) (bytes : Nat)
  | tempoIgnored (scene : BitVec 7) (tempo : Nat)
  | tapIgnored (tTap estimate : Nat)
  | syncClamped (unclamped estimate division average : Nat)
  | memory (offset : Nat) (user : MemoryUser)
  deriving DecidableEq, Repr

/-! ## The stage: routing unit, module ports and deferral list -/

/-- What the routing unit and the module ports hold, with the deferral list that the releases settle and the
microsecond clock that times the frames (R27, R37, R46, R134). `entries` are the journal entries handed in the
event under way, oldest first; it is empty between events. -/
structure Stage where
  clock : Word
  voices : Vector (Option Voice) 128
  dampers : Vector (Vector Bool 16) 4
  ports : Vector ModulePort 6
  deferrals : List Deferral
  entries : List Entry
  deriving DecidableEq, Repr

/-! ## Request unit, state page, journal writer, register window, engine -/

/-- A request as the scan took it from its slot (R175). -/
structure Request where
  slot : Fin 8
  kind : Byte
  tag : Word
  arg1 : Word
  arg2 : Word
  arg3 : Word
  deriving DecidableEq, Repr

/-- What a running scan is doing at its slot (R175). -/
inductive ScanPhase where
  /-- the slot is to be visited next, or the scan waits for the completions it gave -/
  | visiting
  /-- the request taken from the slot waits for its owner -/
  | handed (r : Request)
  /-- the owner is at work on the request (only within that event) -/
  | working
  deriving DecidableEq, Repr

/-- A running scan: the slot it has reached (8 past the last) and what it does there (R173, R175). -/
structure Scan where
  slot : Nat
  phase : ScanPhase
  deriving DecidableEq, Repr

/-- A completion whose writes are under way or to be retried (R177, R179, R185): the slot's bus address and rig
area offset are those in force when the completion was made; `inScan` marks one given by a scan's own request. -/
structure Completion where
  slot : Fin 8
  addr : Nat
  offset : Nat
  code : ResultCode
  value : Word
  tag : Word
  stamp : Stamp
  inScan : Bool
  deriving DecidableEq, Repr

/-- An entry of the completion retry list with the moment of its next attempt (R179). -/
structure Retry where
  completion : Completion
  dueAt : Word
  deriving DecidableEq, Repr

/-- The request unit (R173). Its in-flight records are the change unit's `load` and `go` of a request origin. -/
structure RequestUnit where
  notice : Bool
  scan : Option Scan
  completions : List Completion
  retries : List Retry
  failRun : Vector Bool 8
  deriving DecidableEq, Repr

/-- The state page writer (R181, R182): `running` is the image of the rewrite under way. -/
structure PageWriter where
  editCount : Word
  running : Option (List Byte)
  owed : Bool
  retryAt : Option Word
  failRun : Bool
  deriving DecidableEq, Repr

/-- The journal modes (R154). -/
inductive JournalMode where
  | stop | overwrite
  deriving DecidableEq, Repr

/-- The loss run (R159). -/
structure LossRun where
  count : Nat
  first : Option Word
  classes : BitVec 3
  memory : Bool
  deriving DecidableEq, Repr

/-- An entry that waits to be taken, with the settings in force when it was handed; `rearm` marks the first one
handed after a RELOAD of the JOURNAL section (R157, R166). -/
structure Handed where
  entry : Entry
  stamp : Stamp
  mode : JournalMode
  watermark : Nat
  mask : BitVec 3
  rearm : Bool
  deriving DecidableEq, Repr

/-- The journal writer (R154, R155, R159, R164); offset and capacity stand in `Layout`. `rearm` notes a RELOAD of the
JOURNAL section until the next entry is handed (R166). -/
structure JournalWriter where
  mode : JournalMode
  watermark : Nat
  mask : BitVec 3
  written : Word
  loss : LossRun
  armed : Bool
  rearm : Bool
  queue : List Handed
  deriving DecidableEq, Repr

/-- The register window's own state (R185, R190, R191). -/
structure Registers where
  control : Word
  area : Word
  causes : BitVec 3
  faults : BitVec 6
  fieldCode : BitVec 3
  attnPulse : Option Word
  deriving DecidableEq, Repr

/-- The engine states (R187). -/
inductive EngineState where
  | offline | loading | online | draining | faulted
  deriving DecidableEq, Repr

/-- The engine (R187 to R189): `abandonedLoads` counts header reads of abandoned LOADINGs still under way. -/
structure Engine where
  state : EngineState
  restart : Bool
  drainAt : Option Word
  abandonedLoads : Nat
  deriving DecidableEq, Repr

/-- The map of the rig area read at LOADING (R169): region offsets, set list length, journal capacity. -/
structure Layout where
  sceneTable : Nat
  setList : Nat
  slotArea : Nat
  statePage : Nat
  journal : Nat
  setListLength : Nat
  capacity : Nat
  deriving DecidableEq, Repr

/-- The section that the setup clamps belong to (R171, R172). -/
inductive Section where
  | all | click | pedals | sync | ports | journal
  deriving DecidableEq, Repr

/-- Everything inside the part. `eventStamp` is the stamp of the event taken last; `pageCause` notes, within an
event, a rewrite cause other than a changed field (R181). -/
structure Device where
  regs : Registers
  engine : Engine
  layout : Layout
  progSelect : Option (Fin 4 × BitVec 4)
  clampCount : Nat
  clampSection : Section
  keyPorts : Vector KeyPort 4
  stage : Stage
  tempo : Tempo
  click : ClickUnit
  change : ChangeUnit
  pedals : Vector Pedal 8
  tap : TapCapture
  sync : SyncFollower
  req : RequestUnit
  page : PageWriter
  jw : JournalWriter
  eventStamp : Stamp
  pageCause : Bool
  deriving DecidableEq, Repr

/-- The shared memory: the bytes that differ from what an unlisted address reads as, addresses strictly rising. -/
abbrev Mem := List Host.Cell

end Sys2Proof.Machine

namespace Sys2Proof.Machine

/-- The whole machine: the part, the RESET pin, the shared memory that holds the rig area, and the queue of
commands that wait, first in first out. `drains` is the model's own: the drains ended so far, which picks the free bus
of the next one's end (`Config.drainBus`, log 8). -/
structure State where
  dev : Device
  resetLow : Bool
  mem : Mem
  pending : List Instr
  drains : Nat
  deriving DecidableEq, Repr

/-- What stops the machine: nothing. The manual gives every command of the part an effect in every state, and
reports failures in registers, slots and the journal (00, "Three kinds of report"), so there is no constructor. -/
inductive Fault where
  deriving DecidableEq, Repr

/-- Why a command has no meaning here. -/
inductive Refusal where
  /-- Raised by an arm of `exec` for a row that has no meaning yet; safe. No arm raises it now. -/
  | notModelled (mnemonic : String)
  deriving DecidableEq, Repr

/-! ## Reset (R193) -/

/-- A key port after reset (R43). -/
def KeyPort.reset : KeyPort := { asm := .seeking, held := [], handed := [] }

/-- A module port after reset (R58). -/
def ModulePort.reset : ModulePort :=
  { main := [], backlog := [], lane := [], tx := .idle, polarity := .normal, pendingPolarity := none }

/-- The stage after reset: no voices, every damper up, every port empty, no deferrals (R43, R58, R140). -/
def Stage.reset : Stage :=
  { clock := 0
    voices := Vector.replicate 128 none
    dampers := Vector.replicate 4 (Vector.replicate 16 false)
    ports := Vector.replicate 6 ModulePort.reset
    deferrals := []
    entries := [] }

/-- The tempo generator after reset (R82). -/
def Tempo.reset : Tempo :=
  { t := 12000, acc := 0, pending := none, glide := none, source := .manual, meter := 4, pendingMeter := none
    transport := .stopped, bar := 1, beat := 1, tick := 0, countIn := none, tickAt := none }

/-- A click line setup after reset (R114): enable clear. DESIGN CHOICE (log 23) for the other fields. -/
def ClickSetup.reset : ClickSetup :=
  { enable := false, polarity := .normal, mode := .always, accentWidth := 1000, normalWidth := 1000, route := none
    channel := 0, accentKey := 0, normalKey := 0, accentVelocity := 1, normalVelocity := 1 }

/-- A click line after reset (R114): IDLE, subdivision 1, accent set of beat 1. -/
def ClickLine.reset : ClickLine :=
  { setup := ClickSetup.reset, endsAt := none, sounding := none, subdivision := 1, accents := 1, pendingSet := none }

/-- The click unit after reset (R114). -/
def ClickUnit.reset : ClickUnit := { lines := Vector.replicate 4 ClickLine.reset, mute := false }

/-- The change unit after reset and at ONLINE entry (R140). -/
def ChangeUnit.reset : ChangeUnit :=
  { state := .idle, loadingFlag := false, copy := none, load := none, go := none, armed := none, active := none
    zones := [], setPosition := none, activation := 0, reads := [] }

/-- A pedal setup after reset (R153). -/
def PedalSetup.reset : PedalSetup := { function := .notify, polarity := .normal, debounce := 50, mask := 0 }

/-- A pedal input after power-on (R153). DESIGN CHOICE (log 23): its pin stands high, by the pull-up of 11.6. -/
def Pedal.reset : Pedal := { high := true, pressed := false, timer := none, setup := PedalSetup.reset }

/-- Tap capture after reset (R90). -/
def TapCapture.reset : TapCapture := { ring := [], last := none }

/-- The sync follower after reset (R100). DESIGN CHOICE (log 23): the settings are 0. -/
def SyncFollower.reset : SyncFollower :=
  { division := 0, window := 0, deadband := 0, state := .off, ring := [], lastEdge := none, estimate := none
    average := none, clampNoted := false, lossLeft := none }

/-- The request unit after reset (R183). -/
def RequestUnit.reset : RequestUnit :=
  { notice := false, scan := none, completions := [], retries := [], failRun := Vector.replicate 8 false }

/-- The state page writer after reset (R182, R193). DESIGN CHOICE (log 23): the edit count is 0 until LOADING. -/
def PageWriter.reset : PageWriter :=
  { editCount := 0, running := none, owed := false, retryAt := none, failRun := false }

/-- The loss run when it is clear (R159). -/
def LossRun.clear : LossRun := { count := 0, first := none, classes := 0, memory := false }

/-- The journal writer after reset (R167). DESIGN CHOICE (log 23): the level armed flag is clear until ONLINE entry. -/
def JournalWriter.reset : JournalWriter :=
  { mode := .stop, watermark := 1, mask := 0, written := 0, loss := LossRun.clear, armed := false, rearm := false
    queue := [] }

/-- The registers after reset (R193). -/
def Registers.reset : Registers :=
  { control := 0, area := 0, causes := 0, faults := 0, fieldCode := 0, attnPulse := none }

/-- The engine after reset (R193). -/
def Engine.reset : Engine := { state := .offline, restart := false, drainAt := none, abandonedLoads := 0 }

/-- The map before any LOADING. DESIGN CHOICE (log 23): all 0. -/
def Layout.reset : Layout :=
  { sceneTable := 0, setList := 0, slotArea := 0, statePage := 0, journal := 0, setListLength := 0, capacity := 0 }

/-- The part after power-on (R193). -/
def Device.reset : Device :=
  { regs := Registers.reset
    engine := Engine.reset
    layout := Layout.reset
    progSelect := none
    clampCount := 0
    clampSection := .all
    keyPorts := Vector.replicate 4 KeyPort.reset
    stage := Stage.reset
    tempo := Tempo.reset
    click := ClickUnit.reset
    change := ChangeUnit.reset
    pedals := Vector.replicate 8 Pedal.reset
    tap := TapCapture.reset
    sync := SyncFollower.reset
    req := RequestUnit.reset
    page := PageWriter.reset
    jw := JournalWriter.reset
    eventStamp := { clock := 0, pos := { bar := 1, beat := 1, tick := 0 } }
    pageCause := false }

/-- The machine right after power-on: the part in its reset state, the RESET pin high, nothing listed in the
shared memory and no command waiting (R193; log 5 and log 23). DESIGN CHOICE (log 8): no drain has ended. -/
def State.reset : State := { dev := Device.reset, resetLow := false, mem := [], pending := [], drains := 0 }

end Sys2Proof.Machine
end

