-- ==== Sys2Proof/Machine/Operands.lean ====
section
/-! DEFINITION. The operand forms: register bus words (R201, R202), frames on the lines (R52, R200), little-endian
fields (R194) and the codes of every enumeration (R195 to R199). -/

namespace Sys2Proof.Machine

/-! ## Register bus words -/

/-- The word that a register write puts in place: a byte that is not written is written as 0 (R202). -/
def regWord (w : RegWrite) : Word :=
  (if w.lanes.getLsbD 0 then w.value &&& 0x000000FF#32 else 0) |||
  (if w.lanes.getLsbD 1 then w.value &&& 0x0000FF00#32 else 0) |||
  (if w.lanes.getLsbD 2 then w.value &&& 0x00FF0000#32 else 0) |||
  (if w.lanes.getLsbD 3 then w.value &&& 0xFF000000#32 else 0)

/-- The address of the whole word that an access falls in (R202). -/
def wordAddress (addr : Word) : Nat := addr.toNat / 4 * 4

/-- The registers that take writes: CONTROL, AREA, NOTICE and ACK (R185, R201). -/
def isWritableRegister (addr : Word) : Bool :=
  wordAddress addr == 0x04 || wordAddress addr == 0x08 || wordAddress addr == 0x0C || wordAddress addr == 0x14

/-! ## Little-endian fields (R194) -/

/-- A byte of value `n` modulo 256. -/
def byteOf (n : Nat) : Byte := BitVec.ofNat 8 n

/-- The `k` bytes of `n`, least significant first. -/
def bytesOf : Nat → Nat → List Byte
  | 0, _ => []
  | k + 1, n => byteOf n :: bytesOf k (n / 256)

/-- The number that bytes spell, least significant first. -/
def natOf : List Byte → Nat
  | [] => 0
  | b :: bs => b.toNat + 256 * natOf bs

/-- The unsigned field of `k` bytes at offset `off` of a record. -/
def fieldAt (rec : List Byte) (off k : Nat) : Nat := natOf ((rec.drop off).take k)

/-- The signed one-byte field at offset `off` of a record, two's complement. -/
def signedByteAt (rec : List Byte) (off : Nat) : Int := (byteOf (fieldAt rec off 1)).toInt

/-- A signed number as a field of 32 bits, two's complement. -/
def signedWord (n : Int) : Word := BitVec.ofInt 32 n

/-- The value of a position field that may be none, in 16 bits: -1 as all ones (R198, R199). -/
def position16 : Option Nat → Nat
  | none => 0xFFFF
  | some p => p

/-- The value of a position field that may be none, in 32 bits: -1 as all ones (R199). -/
def position32 : Option Nat → Word
  | none => signedWord (-1)
  | some p => BitVec.ofNat 32 p

/-- A detail word from its four bytes, bits 0-7 first (R199). -/
def word4 (b0 b1 b2 b3 : Nat) : Word :=
  BitVec.ofNat 32 (b0 % 256 + 256 * (b1 % 256) + 65536 * (b2 % 256) + 16777216 * (b3 % 256))

/-- A detail word from its two halves, bits 0-15 first (R199). -/
def word2 (lo hi : Nat) : Word := BitVec.ofNat 32 (lo % 65536 + 65536 * (hi % 65536))

/-- A flag as a code: 0 clear or up, 1 set or down (R199). -/
def flagCode (b : Bool) : Nat := if b then 1 else 0

/-! ## Frames (R200) -/

/-- Byte 0 of a frame of a kind (R200). -/
def FrameKind.code : FrameKind → Nat
  | .keyDown => 0x81
  | .keyUp => 0x82
  | .damper => 0x83
  | .control => 0x84
  | .program => 0x85

/-- The kind that a byte 0 stands for, if any (R200). -/
def frameKindOf (b : Byte) : Option FrameKind :=
  if b = 0x81#8 then some .keyDown
  else if b = 0x82#8 then some .keyUp
  else if b = 0x83#8 then some .damper
  else if b = 0x84#8 then some .control
  else if b = 0x85#8 then some .program
  else none

/-- The check of a complete frame: a bad kind before a bad channel (R22, R200). -/
def checkFrame (b0 b1 b2 b3 : Byte) : Except LineReason Message :=
  match frameKindOf b0 with
  | none => .error .badKind
  | some kind =>
    if 15 < b1.toNat then .error .badChannel
    else .ok { kind := kind, channel := b1.setWidth 4, data1 := b2.setWidth 7, data2 := b3.setWidth 7 }

/-- The four bytes of a message on a line, in the order sent (R52, R200). -/
def frameBytes (m : Message) : List Byte :=
  [byteOf m.kind.code, m.channel.setWidth 8, m.data1.setWidth 8, m.data2.setWidth 8]

/-- The ten bits of a byte on a line of polarity NORMAL: start bit low, data least significant first, stop bit
high (R52, R57). -/
def byteBits (b : Byte) : List Bool :=
  false :: ((List.range 8).map fun n => b.getLsbD n) ++ [true]

/-- The forty bits of a frame (R52). -/
def frameBits (m : Message) : List Bool := (frameBytes m).flatMap byteBits

/-- A start byte has its high bit set (R21). -/
def isStartByte (b : Byte) : Bool := b.getLsbD 7

/-! ## Codes of the enumerations -/

/-- The request kinds with a meaning have codes 1-14 (R196). -/
def isRequestKind (k : Byte) : Bool := decide (1 ≤ k.toNat ∧ k.toNat ≤ 14)

/-- Result codes (R196). -/
def ResultCode.code : ResultCode → Nat
  | .ok => 0
  | .busy => 1
  | .notReady => 2
  | .badArg => 3
  | .badScene => 4
  | .torn => 5
  | .following => 6
  | .noSync => 7
  | .cancelled => 8
  | .offline => 9
  | .memory => 10
  | .unknown => 11

/-- The section that a RELOAD argument names (R196). -/
def sectionOf (n : Nat) : Option Section :=
  if n = 1 then some .click
  else if n = 2 then some .pedals
  else if n = 3 then some .sync
  else if n = 4 then some .ports
  else if n = 5 then some .journal
  else none

/-- Section codes of the state page (R198). -/
def Section.code : Section → Nat
  | .all => 0
  | .click => 1
  | .pedals => 2
  | .sync => 3
  | .ports => 4
  | .journal => 5

/-- Engine state codes of STATUS (R201). -/
def EngineState.code : EngineState → Nat
  | .offline => 0
  | .loading => 1
  | .online => 2
  | .draining => 3
  | .faulted => 4

/-- Change state codes without the loading flag (R198). -/
def ChangeState.code : ChangeState → Nat
  | .idle => 0
  | .loading => 1
  | .cued => 2
  | .armed => 3
  | .held => 4

/-- The change state byte: bits 0-2 the state, bit 7 the loading flag (R198, R199). -/
def changeStateByte (c : ChangeState) (flag : Bool) : Nat := c.code + 128 * flagCode flag

/-- Transport state codes (R198). -/
def Transport.code : Transport → Nat
  | .stopped => 0
  | .countIn => 1
  | .playing => 2

/-- Tempo source codes (R197, R198). -/
def TempoSource.code : TempoSource → Nat
  | .manual => 0
  | .follow => 1

/-- Sync state codes (R198). -/
def SyncState.code : SyncState → Nat
  | .off => 0
  | .absent => 1
  | .gathering => 2
  | .locked => 3
  | .lost => 4

/-- Spill mode codes (R197). -/
def SpillMode.code : SpillMode → Nat
  | .keep => 0
  | .cut => 1
  | .defer => 2

/-- Boundary codes (R197). -/
def Boundary.code : Boundary → Nat
  | .now => 0
  | .beat => 1
  | .bar => 2

/-- Pedal function codes (R195). -/
def PedalFunction.code : PedalFunction → Nat
  | .next => 0
  | .prev => 1
  | .go => 2
  | .hold => 3
  | .tap => 4
  | .lockOverride => 5
  | .damper => 6
  | .clickMute => 7
  | .panic => 8
  | .notify => 9

/-- LINE_FAULT reason codes (R199). -/
def LineReason.code : LineReason → Nat
  | .cutShort => 0
  | .stray => 1
  | .badStop => 2
  | .badKind => 3
  | .badChannel => 4

/-- KEY_IN outcome codes (R199). -/
def KeyUpOutcome.code : KeyUpOutcome → Nat
  | .sustained => 0
  | .releasing => 1
  | .notFound => 2

/-- Cue origin codes (R199). -/
def CueOrigin.code : CueOrigin → Nat
  | .cueScene _ _ => 0
  | .cuePosition _ _ => 1
  | .next => 2
  | .prev => 3
  | .programSelect => 4

/-- The slot of a cue that came from a request (R173, R199). -/
def CueOrigin.slot? : CueOrigin → Option (Fin 8)
  | .cueScene n _ => some n
  | .cuePosition n _ => some n
  | .next => none
  | .prev => none
  | .programSelect => none

/-- Go origin codes (R199). -/
def GoOrigin.code : GoOrigin → Nat
  | .request _ _ => 0
  | .goPedal => 1
  | .next => 2
  | .prev => 3
  | .programSelect => 4

/-- The slot of a go that came from a request (R173). -/
def GoOrigin.slot? : GoOrigin → Option (Fin 8)
  | .request n _ => some n
  | .goPedal => none
  | .next => none
  | .prev => none
  | .programSelect => none

/-- Moment codes (R199). -/
def Moment.code : Moment → Nat
  | .now => 0
  | .beat => 1
  | .bar => 2
  | .stopped => 3
  | .transportStop => 4

/-- Request or pedal, with its number (R199). -/
def Sender.code : Sender → Nat × Nat
  | .request n => (0, n.val)
  | .pedal n => (1, n.val)

/-- Direction codes (R199). -/
def Direction.code : Direction → Nat
  | .next => 0
  | .prev => 1

/-- TRANSPORT cause codes (R199). -/
def TransportCause.code : TransportCause → Nat
  | .request => 0
  | .scene => 1
  | .countInEnd => 2
  | .drain => 3

/-- TEMPO cause codes (R199). -/
def TempoCause.code : TempoCause → Nat
  | .scene => 0
  | .request => 1
  | .tap => 2
  | .sync => 3
  | .follow => 4
  | .glide => 5

/-- Edge codes (R199). -/
def PedalEdge.code : PedalEdge → Nat
  | .press => 0
  | .release => 1

/-- Pedal cause codes (R199). -/
def PedalCause.code : PedalCause → Nat
  | .input => 0
  | .reload => 1

/-- Pedal outcome codes (R199). -/
def PedalOutcome.code : PedalOutcome → Nat
  | .acted => 0
  | .ignored => 1
  | .setEnd => 2
  | .draining => 3
  | .none => 4

/-- Kinds of tap press (R199). -/
def TapKind.code : TapKind → Nat
  | .first => 0
  | .restart => 1
  | .added => 2
  | .ignored => 3

/-- Admission class codes (R199). -/
def DropClass.code : DropClass → Nat
  | .nonRelease => 0
  | .entry => 1

/-- DROP reason codes (R199). -/
def DropReason.code : DropReason → Nat
  | .limit => 0
  | .backlog => 1

/-- MEMORY user codes (R199). -/
def MemoryUser.code : MemoryUser → Nat
  | .sceneCopy => 0
  | .setListRead => 1
  | .statePage => 2
  | .requestSlot => 3
  | .header => 4

/-- The bit of a class in the class mask and in a GAP (R195, R199). -/
def EntryClass.index : EntryClass → Nat
  | .play => 0
  | .rig => 1
  | .fault => 2

/-- The bit of a class as a set of classes. -/
def EntryClass.mask (c : EntryClass) : BitVec 3 := 1#3 <<< c.index

/-- The bit of a sticky fault among the six, from bit 8 of STATUS on (R201). -/
def StickyFault.index : StickyFault → Nat
  | .header => 0
  | .memory => 1
  | .journal => 2
  | .drain => 3
  | .line => 4
  | .sync => 5

/-- The bit of a cause among the three, from bit 4 of STATUS on (R201). -/
def Cause.index : Cause → Nat
  | .slotDone => 0
  | .journalLevel => 1
  | .fault => 2

end Sys2Proof.Machine
end

