-- ==== Sys2Proof/Machine/Flags.lean ====
section
/-! DEFINITION. The register window's flags: CONTROL's fields, latched causes, sticky faults, the ATTN line and
what each register reads as (R185, R186, R190 to R192, R201, R202). -/

namespace Sys2Proof.Machine

/-! ## CONTROL (R186, R201) -/

/-- The named bits of CONTROL that are kept: enable, mode, three cause enables; the reset bit reads as 0 (R186, R202). -/
def controlMask : Word := 0x00000073#32

/-- The enable (R201). -/
def Registers.enable (r : Registers) : Bool := r.control.getLsbD 0

/-- Whether the attention mode is PULSE (R201). -/
def Registers.pulseMode (r : Registers) : Bool := r.control.getLsbD 1

/-- Whether a cause is enabled (R201). -/
def Registers.causeEnabled (r : Registers) (c : Cause) : Bool := r.control.getLsbD (4 + c.index)

/-- Whether a cause is latched (R190). -/
def Registers.latched (r : Registers) (c : Cause) : Bool := r.causes.getLsbD c.index

/-- Whether a sticky fault is set (R190). -/
def Registers.faultSet (r : Registers) (f : StickyFault) : Bool := r.faults.getLsbD f.index

/-! ## Latching and clearing -/

/-- A moment `n` microseconds after another, on the wrapping clock. -/
def after (now : Word) (n : Nat) : Word := now + BitVec.ofNat 32 n

/-- Whether the clock has come to a moment, counted within half the clock's wrap. DESIGN CHOICE (log 34). -/
def reached (now moment : Word) : Bool := decide ((now - moment).toNat < 2147483648)

/-- Whether a timer runs and its moment has come. -/
def timerDue (now : Word) : Option Word → Bool
  | none => false
  | some moment => reached now moment

/-- Latching a cause, enabled or not; in PULSE mode a latching of an enabled cause drives ATTN low for 2 µs from
now, also when the cause was latched already (R190, R191). -/
def Registers.latch (r : Registers) (now : Word) (c : Cause) : Registers :=
  { r with
    causes := r.causes ||| (1#3 <<< c.index)
    attnPulse := if r.pulseMode && r.causeEnabled c then some (after now Config.pulseTime) else r.attnPulse }

/-- Setting a sticky fault: one that was clear also latches FAULT; one already set changes nothing (R190). -/
def Registers.setFault (r : Registers) (now : Word) (f : StickyFault) : Registers :=
  if r.faultSet f then r
  else { r with faults := r.faults ||| (1#6 <<< f.index) }.latch now .fault

/-- An ACK clears the causes and faults whose bits are one; clearing HEADER returns the field code to 0
(R185, R192, R201). -/
def Registers.acknowledge (r : Registers) (w : Word) : Registers :=
  { r with
    causes := r.causes &&& ~~~(w.extractLsb' 4 3)
    faults := r.faults &&& ~~~(w.extractLsb' 8 6)
    fieldCode := if w.getLsbD 8 then 0 else r.fieldCode }

/-- A CONTROL write replaces the enable, the mode and the cause enables; a change from PULSE to LEVEL ends a pulse
in progress, and in LEVEL mode there is none (R186, R191). -/
def Registers.writeControl (r : Registers) (w : Word) : Registers :=
  { r with
    control := w &&& controlMask
    attnPulse := if w.getLsbD 1 then r.attnPulse else none }

/-! ## The ATTN line (R191) -/

/-- Whether ATTN is high, that is not driven: in LEVEL mode low while a cause is latched and enabled, in PULSE mode
low during a pulse (R191). -/
def Registers.attnHigh (r : Registers) : Bool :=
  if r.pulseMode then r.attnPulse.isNone
  else decide (r.causes &&& r.control.extractLsb' 4 3 = 0)

/-! ## What the registers read as (R185, R201, R202) -/

/-- STATUS (R201). -/
def statusWord (r : Registers) (e : EngineState) : Word :=
  BitVec.ofNat 32 e.code ||| (r.causes.setWidth 32 <<< 4) ||| (r.faults.setWidth 32 <<< 8) |||
    (r.fieldCode.setWidth 32 <<< 16)

/-- A read of the register bus: write-only registers and addresses beyond the six read as 0 (R185, R202). -/
def readRegisterAt (r : Registers) (e : EngineState) (addr : Word) : Word :=
  let a := wordAddress addr
  if a = 0x00 then Config.idValue
  else if a = 0x04 then r.control
  else if a = 0x08 then r.area
  else if a = 0x10 then statusWord r e
  else 0

/-- A read of the register bus while the RESET pin may be held: it then returns the reset values (R193). -/
def readRegister (s : State) (addr : Word) : Word :=
  if s.resetLow then readRegisterAt Registers.reset .offline addr
  else readRegisterAt s.dev.regs s.dev.engine.state addr

/-- The ATTN line; it is high in reset (R191, R193). -/
def attnHigh (s : State) : Bool := s.resetLow || s.dev.regs.attnHigh

end Sys2Proof.Machine
end

