-- ==== Sys2Proof/Machine/Ops.lean ====
section
/-! DEFINITION. The operations that many commands share: the shared memory and the accesses of the memory port
(R168, R194), handing over journal entries (R156), stamps (R81), sticky faults (R190), request completions (R177). -/

namespace Sys2Proof.Machine

/-! ## The shared memory -/

/-- What an address reads as that nothing has written. DESIGN CHOICE (log 5), unsafe: the manual does not say. -/
def unlistedByte : Byte := 0

/-- The byte at an address. -/
def memRead : Mem → Nat → Byte
  | [], _ => unlistedByte
  | (k, b) :: m, a => if a = k then b else memRead m a

/-- Storing one byte: the list stays in its canonical form, so storing what an unlisted address reads as removes
the entry. -/
def memWrite : Mem → Nat → Byte → Mem
  | [], a, v => if v = unlistedByte then [] else [(a, v)]
  | (k, b) :: m, a, v =>
    if a < k then (if v = unlistedByte then (k, b) :: m else (a, v) :: (k, b) :: m)
    else if a = k then (if v = unlistedByte then m else (k, v) :: m)
    else (k, b) :: memWrite m a v

/-- The canonical form: addresses strictly rising, and no entry equal to what an unlisted address reads as. -/
def Mem.wf : Mem → Bool
  | [] => true
  | (a, b) :: m => (b != unlistedByte) && m.all (fun c => decide (a < c.1)) && Mem.wf m

/-- A bus address: 32 bits, so sums wrap. DESIGN CHOICE (log 7): the manual does not say what lies beyond. -/
def busAddress (n : Nat) : Nat := n % 4294967296

/-- Reading `n` bytes from an address on. -/
def memReadBytes (m : Mem) (a n : Nat) : List Byte :=
  (List.range n).map fun k => memRead m (busAddress (a + k))

/-- Storing bytes from an address on. -/
def memWriteBytes : Mem → Nat → List Byte → Mem
  | m, _, [] => m
  | m, a, b :: bs => memWriteBytes (memWrite m (busAddress a) b) (a + 1) bs

/-- The host's stores before an access (R168). -/
def memHostWrites : Mem → List (Word × Byte) → Mem
  | m, [] => m
  | m, (a, b) :: ws => memHostWrites (memWrite m a.toNat b) ws

/-! ## Accesses of the memory port (R168) -/

/-- The memory and the bus that the accesses still to come will meet. -/
structure PortRun where
  mem : Mem
  bus : Bus
  deriving DecidableEq, Repr

/-- A bus on which the host stores nothing and the access does not fail. -/
def quietAccess : BusAccess := { hostWrites := [], fails := false, landed := 0 }

/-- The bus at the next access. -/
def busHead : Bus → BusAccess
  | [] => quietAccess
  | b :: _ => b

/-- One read access: the host's stores come first; a failed read gives nothing (R168). -/
def portRead (r : PortRun) (addr n : Nat) : Option (List Byte) × PortRun :=
  let b := busHead r.bus
  let m := memHostWrites r.mem b.hostWrites
  (if b.fails then none else some (memReadBytes m addr n), { mem := m, bus := r.bus.tail })

/-- One write access: the host's stores come first; a failed write may leave its first bytes behind (R163, R168).
The answer says whether the access was accepted. -/
def portWrite (r : PortRun) (addr : Nat) (bytes : List Byte) : Bool × PortRun :=
  let b := busHead r.bus
  let m := memHostWrites r.mem b.hostWrites
  (!b.fails, { mem := memWriteBytes m addr (if b.fails then bytes.take b.landed else bytes), bus := r.bus.tail })

/-- One write access of which a failure leaves nothing behind (R179). -/
def portWriteWhole (r : PortRun) (addr : Nat) (bytes : List Byte) : Bool × PortRun :=
  portWrite { r with bus := { busHead r.bus with landed := 0 } :: r.bus.tail } addr bytes

/-- The write accesses of an operation in order, up to the first that fails; the answer says whether all were
accepted (R168). -/
def portWriteAll : PortRun → List (Nat × List Byte) → Bool × PortRun
  | r, [] => (true, r)
  | r, (a, bs) :: ws =>
    let (ok, r') := portWrite r a bs
    if ok then portWriteAll r' ws else (false, r')

/-- The bus address of a rig area offset (R185). -/
def rigAddress (d : Device) (off : Nat) : Nat := busAddress (d.regs.area.toNat + off)

/-! ## Stamps and journal entries -/

/-- The position that a stamp shows: bar 0 with the counter's beat and tick during a count-in (R81). -/
def Tempo.stampPosition (t : Tempo) : Position :=
  match t.countIn with
  | some c => { bar := 0, beat := c.beat, tick := c.tick }
  | none => { bar := t.bar, beat := t.beat, tick := t.tick }

/-- The microsecond clock. -/
def Device.now (d : Device) : Word := d.stage.clock

/-- The stamp of this moment (R81). -/
def Device.stampNow (d : Device) : Stamp := { clock := d.now, pos := d.tempo.stampPosition }

/-- The event begins: its stamp is taken (log 9). -/
def Device.beginEvent (d : Device) : Device := { d with eventStamp := d.stampNow }

/-- The stamp of what happens in the event under way: its clock, and the position as it stands by now (R81; log 9). -/
def Device.stampHere (d : Device) : Stamp := { clock := d.eventStamp.clock, pos := d.tempo.stampPosition }

/-- The event bears the position that it has brought about: that of the boundary it begins, or the one a LOCATE set
(R81; log 9). -/
def Device.restamp (d : Device) : Device := { d with eventStamp := d.stampHere }

/-- Handing an entry to the journal writer (R157). -/
def Stage.emit (st : Stage) (e : Entry) : Stage := { st with entries := st.entries ++ [e] }

/-- Handing an entry to the journal writer (R157). -/
def Device.emit (d : Device) (e : Entry) : Device := { d with stage := d.stage.emit e }

/-! ## Sticky faults and causes -/

/-- Latching an attention cause (R190). -/
def Device.latch (d : Device) (c : Cause) : Device := { d with regs := d.regs.latch d.now c }

/-- Setting a sticky fault (R190). -/
def Device.setFault (d : Device) (f : StickyFault) : Device := { d with regs := d.regs.setFault d.now f }

/-- An access failure that is reported by the MEMORY sticky fault and a MEMORY journal entry (R16, R172, R179, R182). -/
def Device.memoryFailure (d : Device) (off : Nat) (user : MemoryUser) : Device :=
  (d.setFault .memory).emit (.memory off user)

/-- A cause of a state page rewrite other than a changed field (R181). -/
def Device.causePage (d : Device) : Device := { d with pageCause := true }

/-! ## Request completions (R177) -/

/-- The rig area offset of a request slot (R196). -/
def slotOffset (d : Device) (slot : Fin 8) : Nat := d.layout.slotArea + slot.val * Config.slotBytes

/-- Whether a scan's own request is being carried out. -/
def RequestUnit.working (q : RequestUnit) : Bool :=
  match q.scan with
  | some { slot := _, phase := .working } => true
  | _ => false

/-- A completion: its result, tag and stamp are fixed now, with the position at the completion; its writes follow
(R173, R177, R185). -/
def Device.complete (d : Device) (slot : Fin 8) (tag : Word) (code : ResultCode) (value : Word) : Device :=
  let c : Completion :=
    { slot := slot, addr := rigAddress d (slotOffset d slot), offset := slotOffset d slot, code := code
      value := value, tag := tag, stamp := d.stampHere, inScan := d.req.working }
  { d with req := { d.req with completions := d.req.completions ++ [c] } }

/-- The write accesses of a completion: result code, result value, tag, stamp and last DONE (R177, R196). -/
def completionWrites (c : Completion) : List (Nat × List Byte) :=
  [ (c.addr + 2, bytesOf 1 c.code.code)
  , (c.addr + 20, bytesOf 4 c.value.toNat)
  , (c.addr + 4, bytesOf 4 c.tag.toNat)
  , (c.addr + 24, bytesOf 4 c.stamp.clock.toNat ++ bytesOf 2 c.stamp.pos.bar ++ bytesOf 1 c.stamp.pos.beat
      ++ bytesOf 1 c.stamp.pos.tick)
  , (c.addr, [3#8]) ]

/-! ## Lists by index -/

/-- Changing the element of a vector at an index. -/
def vecModify {α : Type} {n : Nat} (v : Vector α n) (k : Fin n) (f : α → α) : Vector α n := v.set k (f v[k])

end Sys2Proof.Machine
end

