-- ==== Sys2Proof/Machine/Ports.lean ====
section
/-! DEFINITION. Module ports: admission by class (R47 to R50), the transmitter (R51 to R53), polarity (R57), drop
reports (R56), and the level of a line (R52, R57). -/

namespace Sys2Proof.Machine

/-- Changing one module port. -/
def Stage.modifyPort (st : Stage) (p : Fin 6) (f : ModulePort → ModulePort) : Stage :=
  { st with ports := vecModify st.ports p f }

/-- The moment a frame that starts now completes (R52). -/
def frameEnd (now : Word) : Word := after now Config.frameTime

/-- Admission to the tail of the main queue; an idle transmitter starts the frame at once (R51). -/
def ModulePort.admitMain (mp : ModulePort) (now : Word) (m : Message) : ModulePort :=
  { mp with
    main := mp.main ++ [m]
    tx := match mp.tx with
      | .idle => .sendingMain (frameEnd now)
      | busy => busy }

/-- Admission to the tail of the click lane; an idle transmitter starts the frame at once (R51). -/
def ModulePort.admitLane (mp : ModulePort) (now : Word) (m : Message) : ModulePort :=
  { mp with
    lane := mp.lane ++ [m]
    tx := match mp.tx with
      | .idle => .sendingLane (frameEnd now)
      | busy => busy }

/-- Occupancy plus backlog, the level that R48 tests and a DROP entry shows (R48, R56). -/
def ModulePort.level (mp : ModulePort) : Nat := mp.main.length + mp.backlog.length

/-- A port whose three lists hold no message (R60). -/
def ModulePort.isEmpty (mp : ModulePort) : Bool := mp.main.isEmpty && mp.backlog.isEmpty && mp.lane.isEmpty

/-! ## Offers (R47 to R50) -/

/-- The KEY_UP of a destination key, with release velocity 0 (R29). -/
def keyUpMessage (k : DestKey) : Message := { kind := .keyUp, channel := k.dest.channel, data1 := k.key, data2 := 0 }

/-- Whether a release offered to a port is admitted (R47). -/
def Stage.releaseAdmitted (st : Stage) (p : Fin 6) : Bool := decide (st.ports[p].main.length < Config.mainCap)

/-- Offering a release: admitted below occupancy 32, otherwise refused without a report (R47). -/
def Stage.offerRelease (st : Stage) (p : Fin 6) (m : Message) : Stage :=
  if st.releaseAdmitted p then st.modifyPort p (·.admitMain st.clock m) else st

/-- Whether a non-release message offered to a port is admitted (R48). -/
def Stage.nonReleaseAdmitted (st : Stage) (p : Fin 6) : Bool := decide (st.ports[p].level < Config.nonReleaseLimit)

/-- Offering a non-release message: admitted below level 24, otherwise dropped with DROP LIMIT (R48, R56). -/
def Stage.offerNonRelease (st : Stage) (p : Fin 6) (m : Message) : Stage :=
  if st.nonReleaseAdmitted p then st.modifyPort p (·.admitMain st.clock m)
  else st.emit (.drop p m .nonRelease .limit st.ports[p].level)

/-- Offering an entry message: to the main queue, else to the backlog, else dropped with DROP BACKLOG (R49, R56). -/
def Stage.offerEntry (st : Stage) (p : Fin 6) (m : Message) : Stage :=
  if st.ports[p].main.length < Config.mainCap then st.modifyPort p (·.admitMain st.clock m)
  else if st.ports[p].backlog.length < Config.backlogCap then
    st.modifyPort p fun mp => { mp with backlog := mp.backlog ++ [m] }
  else st.emit (.drop p m .entry .backlog st.ports[p].level)

/-- Offering entry messages in order (R131, R135). -/
def Stage.offerEntries (st : Stage) (p : Fin 6) (ms : List Message) : Stage :=
  ms.foldl (fun st m => st.offerEntry p m) st

/-- Whether a click message offered to a port is admitted (R50). -/
def Stage.clickAdmitted (st : Stage) (p : Fin 6) : Bool := decide (st.ports[p].lane.length < Config.laneCap)

/-- Offering a click message: admitted below lane occupancy 8, otherwise dropped with CLICK_DROP (R50, R56). -/
def Stage.offerClick (st : Stage) (p : Fin 6) (line : Fin 4) (m : Message) : Stage :=
  if st.clickAdmitted p then st.modifyPort p (·.admitLane st.clock m)
  else st.emit (.clickDrop p line m st.ports[p].lane.length)

/-! ## The transmitter (R53, R54) and the polarity (R57) -/

/-- Applying a pending polarity (R57). -/
def ModulePort.applyPolarity (mp : ModulePort) : ModulePort :=
  { mp with polarity := mp.pendingPolarity.getD mp.polarity, pendingPolarity := none }

/-- Picking the next frame: the lane's head, else the main queue's head, else IDLE (R53, R54). A pending polarity
is applied before the picked frame starts (R57). -/
def ModulePort.pickFrame (mp : ModulePort) (now : Word) : ModulePort :=
  { mp.applyPolarity with
    tx := if mp.lane.isEmpty then (if mp.main.isEmpty then .idle else .sendingMain (frameEnd now))
      else .sendingLane (frameEnd now) }

/-- Step 2 of R54: while the main queue has room, the backlog's head moves to its tail. The moves are no offers.
Each move shortens the backlog, so its length bounds them. -/
def backlogMoves : Nat → List Message → List Message → List Message × List Message
  | 0, main, backlog => (main, backlog)
  | n + 1, main, backlog =>
    match backlog with
    | [] => (main, [])
    | m :: rest => if main.length < Config.mainCap then backlogMoves n (main ++ [m]) rest else (main, m :: rest)

/-- Step 2 of R54 at a port. An idle transmitter that finds a message moved in starts its frame (R51). -/
def ModulePort.moveBacklog (mp : ModulePort) (now : Word) : ModulePort :=
  let moved := backlogMoves mp.backlog.length mp.main mp.backlog
  { mp with
    main := moved.1
    backlog := moved.2
    tx := match mp.tx with
      | .idle => if moved.1.isEmpty then .idle else .sendingMain (frameEnd now)
      | busy => busy }

/-- A polarity setting read at RELOAD: at once on an idle port, else pending; one the port already has sets none
(R57). -/
def ModulePort.reloadPolarity (mp : ModulePort) (pol : Polarity) : ModulePort :=
  match mp.tx with
  | .idle => { mp with polarity := pol, pendingPolarity := none }
  | _ => { mp with pendingPolarity := if mp.polarity = pol then none else some pol }

/-- The drain limit at a port: only the message whose frame is on the line is kept until it completes (R61). -/
def ModulePort.discard (mp : ModulePort) : ModulePort :=
  match mp.tx with
  | .idle => { mp with main := [], backlog := [], lane := [] }
  | .sendingMain _ => { mp with main := mp.main.take 1, backlog := [], lane := [] }
  | .sendingLane _ => { mp with main := [], backlog := [], lane := mp.lane.take 1 }

/-- Whether the frame on the line is a main-queue frame that has come to its completion (R52). -/
def ModulePort.mainFrameDue (mp : ModulePort) (now : Word) : Bool :=
  match mp.tx with
  | .sendingMain e => reached now e
  | _ => false

/-- Whether the frame on the line is a click-lane frame that has come to its completion (R52). -/
def ModulePort.laneFrameDue (mp : ModulePort) (now : Word) : Bool :=
  match mp.tx with
  | .sendingLane e => reached now e
  | _ => false

/-! ## The level of a module line (R52, R57) -/

/-- The bits of a frame that starts now, and the bit on the line at a moment before its end (R52). -/
def frameBitAt (m : Message) (now endsAt : Word) : Bool :=
  (frameBits m).getD ((Config.frameTime - (endsAt - now).toNat) / Config.bitTime) true

/-- Whether a module port's line is high: the idle level while IDLE, else the bit of the head message's frame; the
opposite under INVERTED (R52, R57). -/
def ModulePort.lineHigh (mp : ModulePort) (now : Word) : Bool :=
  let bit := match mp.tx with
    | .idle => true
    | .sendingMain e => match mp.main with
      | m :: _ => frameBitAt m now e
      | [] => true
    | .sendingLane e => match mp.lane with
      | m :: _ => frameBitAt m now e
      | [] => true
  bit != decide (mp.polarity = .inverted)

end Sys2Proof.Machine
end

