-- ==== Sys2Proof/Machine/Records.lean ====
section
/-! DEFINITION. The records of the rig area: scene records with their check and clamps (R2 to R10, R17, R197), the
setup header with its layout faults and settings (R169 to R171, R195), and the journal entry (R156, R165, R199). -/

namespace Sys2Proof.Machine

/-! ## Clamping -/

/-- A number clamped to a range (00, "Clamp or refuse"). -/
def clampNat (lo hi n : Nat) : Nat := if n < lo then lo else if hi < n then hi else n

/-- A signed number clamped to a range. -/
def clampInt (lo hi n : Int) : Int := if n < lo then lo else if hi < n then hi else n

/-- Counts a field that clamping changed. -/
def changed {α : Type} [DecidableEq α] (a b : α) : Nat := if a = b then 0 else 1

/-! ## Scene records (R197) -/

/-- The boundary a code stands for (R197). -/
def boundaryOf (n : Nat) : Boundary := if n = 0 then .now else if n = 1 then .beat else .bar

/-- The spill mode a code stands for (R197). -/
def spillOf (n : Nat) : SpillMode := if n = 0 then .keep else if n = 1 then .cut else .defer

/-- The bytes of zone place `k` of a record (R197). -/
def zoneBytes (rec : List Byte) (k : Nat) : List Byte := (rec.drop (40 + 32 * k)).take 32

/-- The bytes of entry message place `k` of a record (R197). -/
def entryMessageBytes (rec : List Byte) (k : Nat) : List Byte := (rec.drop (296 + 5 * k)).take 5

/-- The record-level checks in field code order (R2, R10): whether each field is in error, with its code. -/
def recordErrors (rec : List Byte) : List (Bool × Nat) :=
  [ (decide (8 < fieldAt rec 29 1), 1)
  , (decide (16 < fieldAt rec 34 1), 2)
  , (decide (2 < fieldAt rec 21 1), 3)
  , (decide (1 < fieldAt rec 27 1), 4)
  , (decide (2 < fieldAt rec 28 1), 5) ]

/-- The checks of a zone in field code order (R5, R10). -/
def zoneErrors (z : List Byte) : List (Bool × Nat) :=
  let ch := fieldAt z 1 1
  [ (decide (fieldAt z 0 1 = 0), 10)
  , (decide (15 < fieldAt z 0 1), 11)
  , (decide (15 < ch ∧ ch ≠ 255), 12)
  , (decide (127 < fieldAt z 2 1 ∨ 127 < fieldAt z 3 1), 13)
  , (decide (fieldAt z 3 1 < fieldAt z 2 1), 14)
  , (decide (fieldAt z 5 1 < fieldAt z 4 1), 15)
  , (decide (1 < fieldAt z 7 1), 16)
  , (decide (5 < fieldAt z 11 1), 17)
  , (decide (15 < fieldAt z 12 1), 18) ]

/-- The checks of an entry message in field code order (R8, R10). -/
def entryMessageErrors (e : List Byte) : List (Bool × Nat) :=
  [ (decide (5 < fieldAt e 0 1), 20)
  , (decide (15 < fieldAt e 1 1), 21)
  , (decide (1 < fieldAt e 2 1), 22)
  , (decide (127 < fieldAt e 3 1 ∨ 127 < fieldAt e 4 1), 23) ]

/-- The first failing check of a list, as item × 256 + field code (R10). -/
def firstError (item : Nat) (checks : List (Bool × Nat)) : Option Nat :=
  (checks.find? (·.1)).map fun c => item * 256 + c.2

/-- The structural check of a scene record: the first error in the order of R10, as a BAD_SCENE result value. -/
def sceneError (rec : List Byte) : Option Nat :=
  (firstError 0 (recordErrors rec)).or
    (((List.range (fieldAt rec 29 1)).findSome? fun k => firstError (k + 1) (zoneErrors (zoneBytes rec k))).or
      ((List.range (fieldAt rec 34 1)).findSome? fun k =>
        firstError (k + 9) (entryMessageErrors (entryMessageBytes rec k))))

/-- The zone that 32 bytes spell, after clamping (R5, R6). It is used for records that pass the check. -/
def zoneOf (z : List Byte) : Zone :=
  let kind : CurveKind := if fieldAt z 7 1 = 0 then .scale else .fixed
  { ports := BitVec.ofNat 4 (fieldAt z 0 1)
    channel := if fieldAt z 1 1 = 255 then none else some (BitVec.ofNat 4 (fieldAt z 1 1))
    keyLow := BitVec.ofNat 7 (fieldAt z 2 1)
    keyHigh := BitVec.ofNat 7 (fieldAt z 3 1)
    velLow := BitVec.ofNat 7 (clampNat 1 127 (fieldAt z 4 1))
    velHigh := BitVec.ofNat 7 (clampNat 1 127 (fieldAt z 5 1))
    transpose := clampInt (-48) 48 (signedByteAt z 6)
    curve := kind
    gain := if kind = .scale then clampNat 16 255 (fieldAt z 8 1) else fieldAt z 8 1
    offset := if kind = .scale then clampInt (-64) 63 (signedByteAt z 9) else signedByteAt z 9
    fixedValue := if kind = .fixed then clampNat 1 127 (fieldAt z 10 1) else fieldAt z 10 1
    dest := { port := Fin.ofNat 6 (fieldAt z 11 1), channel := BitVec.ofNat 4 (fieldAt z 12 1) }
    passControls := (byteOf (fieldAt z 13 1)).getLsbD 0
    lock := (byteOf (fieldAt z 13 1)).getLsbD 1 }

/-- The fields of a zone that clamping changed (R5, R6, R17). -/
def zoneClamps (z : List Byte) : Nat :=
  let c := zoneOf z
  changed c.velLow.toNat (fieldAt z 4 1) + changed c.velHigh.toNat (fieldAt z 5 1)
    + changed c.transpose (signedByteAt z 6) + changed c.gain (fieldAt z 8 1)
    + changed c.offset (signedByteAt z 9) + changed c.fixedValue (fieldAt z 10 1)

/-- The entry message that 5 bytes spell (R8). -/
def entryMessageOf (e : List Byte) : EntryMessage :=
  { port := Fin.ofNat 6 (fieldAt e 0 1)
    msg :=
      { kind := if fieldAt e 2 1 = 0 then .program else .control
        channel := BitVec.ofNat 4 (fieldAt e 1 1)
        data1 := BitVec.ofNat 7 (fieldAt e 3 1)
        data2 := BitVec.ofNat 7 (fieldAt e 4 1) } }

/-- The copied tempo: 0 stands as KEEP, any other value is clamped (R2, R17). -/
def sceneTempo (raw : Nat) : Nat := if raw = 0 then 0 else clampNat Config.tempoMin Config.tempoMax raw

/-- The record-level fields that clamping changed (R2, R17). -/
def recordClamps (rec : List Byte) : Nat :=
  changed (clampNat 1 16 (fieldAt rec 20 1)) (fieldAt rec 20 1)
    + changed (sceneTempo (fieldAt rec 22 2)) (fieldAt rec 22 2)
    + changed (min 64 (fieldAt rec 24 1)) (fieldAt rec 24 1)
    + changed (min 4 (fieldAt rec 25 1)) (fieldAt rec 25 1)
    + changed (min 10000 (fieldAt rec 30 2)) (fieldAt rec 30 2)
    + ((List.range 4).map fun k => changed (clampNat 1 4 (fieldAt rec (36 + k) 1)) (fieldAt rec (36 + k) 1)).sum

/-- The scene copy that a record forms, every musical field clamped, with its clamp count (R9, R17, R197). -/
def sceneCopyOf (number : BitVec 7) (position : Option Nat) (rec : List Byte) : SceneCopy :=
  let zones := (List.range (fieldAt rec 29 1)).map (zoneBytes rec)
  { number := number
    position := position
    headCount := BitVec.ofNat 32 (fieldAt rec 0 4)
    clamps := recordClamps rec + (zones.map zoneClamps).sum
    name := (rec.drop 4).take 16
    meter := clampNat 1 16 (fieldAt rec 20 1)
    tempo := sceneTempo (fieldAt rec 22 2)
    glideBeats := min 64 (fieldAt rec 24 1)
    boundary := boundaryOf (fieldAt rec 21 1)
    countInBars := min 4 (fieldAt rec 25 1)
    startTransport := decide (fieldAt rec 26 1 ≠ 0)
    source := if fieldAt rec 27 1 = 0 then .manual else .follow
    spill := spillOf (fieldAt rec 28 1)
    deferLimit := min 10000 (fieldAt rec 30 2)
    accents := BitVec.ofNat 16 (fieldAt rec 32 2)
    subdivisions := Vector.ofFn fun k : Fin 4 => clampNat 1 4 (fieldAt rec (36 + k.val) 1)
    zones := zones.map zoneOf
    entryMessages := (List.range (fieldAt rec 34 1)).map fun k => entryMessageOf (entryMessageBytes rec k) }

/-! ## The setup header: layout (R169, R170, R195) -/

/-- The map that a header gives (R169, R195). -/
def layoutOf (h : List Byte) : Layout :=
  { sceneTable := fieldAt h 8 4
    setList := fieldAt h 12 4
    slotArea := fieldAt h 16 4
    statePage := fieldAt h 20 4
    journal := fieldAt h 24 4
    setListLength := fieldAt h 6 2
    capacity := fieldAt h 28 2 }

/-- The six regions with their sizes (R169). -/
def Layout.regions (l : Layout) : List (Nat × Nat) :=
  [ (0, Config.headerBytes), (l.sceneTable, 128 * Config.sceneBytes), (l.setList, 2 * l.setListLength)
  , (l.slotArea, 8 * Config.slotBytes), (l.statePage, Config.pageBytes), (l.journal, l.capacity * Config.entryBytes) ]

/-- Two regions overlap when any byte lies in both (R170). -/
def overlap (a b : Nat × Nat) : Bool := decide (a.1 < b.1 + b.2 ∧ b.1 < a.1 + a.2)

/-- Whether some two of a list of regions overlap (R170). -/
def anyOverlap : List (Nat × Nat) → Bool
  | [] => false
  | r :: rs => rs.any (overlap r) || anyOverlap rs

/-- The journal capacities (R154). -/
def isCapacity (n : Nat) : Bool := [64, 128, 256, 512, 1024, 2048, 4096].contains n

/-- The first layout fault of a header, by its field code (R170). -/
def layoutFault (h : List Byte) : Option Nat :=
  let l := layoutOf h
  let offsets := [l.sceneTable, l.setList, l.slotArea, l.statePage, l.journal]
  if fieldAt h 0 4 ≠ Config.headerMagic then some 1
  else if fieldAt h 4 2 ≠ 1 then some 2
  else if offsets.any (fun o => o % 16 != 0) then some 3
  else if !isCapacity l.capacity then some 4
  else if l.setListLength = 0 ∨ 200 < l.setListLength then some 5
  else if anyOverlap l.regions then some 6
  else none

/-! ## The setup header: settings (R171, R195), each with the count of fields that were changed -/

/-- The program-select setting of a port byte and a channel byte (R40, R171). A port byte that is neither 0-3 nor
none, and a channel byte above 15, count as changed fields. DESIGN CHOICE (log 20). -/
def progSelectOf (port channel : Nat) : Option (Fin 4 × BitVec 4) × Nat :=
  (if 3 < port ∨ 15 < channel then none else some (Fin.ofNat 4 port, BitVec.ofNat 4 channel),
    (if 3 < port ∧ port ≠ 255 then 1 else 0) + (if 15 < channel then 1 else 0))

/-- A flag bit as a polarity (R57, R101, R142). -/
def polarityOf (b : Bool) : Polarity := if b then .inverted else .normal

/-- The click line setup that 16 bytes spell (R101, R195). -/
def clickSetupOf (b : List Byte) : ClickSetup :=
  { enable := (byteOf (fieldAt b 0 1)).getLsbD 0
    polarity := polarityOf ((byteOf (fieldAt b 0 1)).getLsbD 1)
    mode := if fieldAt b 1 1 = 0 then .always else if fieldAt b 1 1 = 1 then .countInOnly else .muted
    accentWidth := clampNat 1000 50000 (fieldAt b 2 2)
    normalWidth := clampNat 1000 50000 (fieldAt b 4 2)
    route := if 5 < fieldAt b 6 1 then none else some (Fin.ofNat 6 (fieldAt b 6 1))
    channel := BitVec.ofNat 4 (min 15 (fieldAt b 7 1))
    accentKey := BitVec.ofNat 7 (min 127 (fieldAt b 8 1))
    normalKey := BitVec.ofNat 7 (min 127 (fieldAt b 9 1))
    accentVelocity := BitVec.ofNat 7 (clampNat 1 127 (fieldAt b 10 1))
    normalVelocity := BitVec.ofNat 7 (clampNat 1 127 (fieldAt b 11 1)) }

/-- The fields of a click line setup that were changed (R101). -/
def clickSetupClamps (b : List Byte) : Nat :=
  (if 2 < fieldAt b 1 1 then 1 else 0)
    + changed (clampNat 1000 50000 (fieldAt b 2 2)) (fieldAt b 2 2)
    + changed (clampNat 1000 50000 (fieldAt b 4 2)) (fieldAt b 4 2)
    + (if 5 < fieldAt b 6 1 ∧ fieldAt b 6 1 ≠ 255 then 1 else 0)
    + changed (min 15 (fieldAt b 7 1)) (fieldAt b 7 1)
    + changed (min 127 (fieldAt b 8 1)) (fieldAt b 8 1)
    + changed (min 127 (fieldAt b 9 1)) (fieldAt b 9 1)
    + changed (clampNat 1 127 (fieldAt b 10 1)) (fieldAt b 10 1)
    + changed (clampNat 1 127 (fieldAt b 11 1)) (fieldAt b 11 1)

/-- The bytes of click line setup `k` in the 64 bytes of all four (R195). -/
def clickBytes (b : List Byte) (k : Nat) : List Byte := (b.drop (16 * k)).take 16

/-- The pedal function that a code stands for; any other value is NOTIFY (R142, R195). -/
def pedalFunctionOf (n : Nat) : PedalFunction :=
  if n = 0 then .next else if n = 1 then .prev else if n = 2 then .go else if n = 3 then .hold
  else if n = 4 then .tap else if n = 5 then .lockOverride else if n = 6 then .damper
  else if n = 7 then .clickMute else if n = 8 then .panic else .notify

/-- The pedal setup that 4 bytes spell (R142, R195). -/
def pedalSetupOf (b : List Byte) : PedalSetup :=
  { function := pedalFunctionOf (fieldAt b 0 1)
    polarity := polarityOf ((byteOf (fieldAt b 1 1)).getLsbD 0)
    debounce := clampNat 1 50 (fieldAt b 2 1)
    mask := BitVec.ofNat 4 (fieldAt b 3 1) }

/-- The fields of a pedal setup that were changed (R142). -/
def pedalSetupClamps (b : List Byte) : Nat :=
  (if 9 < fieldAt b 0 1 then 1 else 0) + changed (clampNat 1 50 (fieldAt b 2 1)) (fieldAt b 2 1)
    + (if 15 < fieldAt b 3 1 then 1 else 0)

/-- The bytes of pedal setup `k` in the 32 bytes of all eight (R195). -/
def pedalBytes (b : List Byte) (k : Nat) : List Byte := (b.drop (4 * k)).take 4

/-- The sync settings of a division, window and deadband field: clamped, with the fields changed (R91). -/
def syncSettingsOf (b : List Byte) : (Nat × Nat × Nat) × Nat :=
  let d := fieldAt b 0 1
  let w := fieldAt b 1 1
  let k := fieldAt b 2 2
  ((min 96 d, min 6 w, min 500 k), changed (min 96 d) d + changed (min 6 w) w + changed (min 500 k) k)

/-- The journal mode, watermark and class mask of their three fields for a capacity (R154). -/
def journalSettingsOf (mode mask watermark capacity : Nat) : (JournalMode × Nat × BitVec 3) × Nat :=
  ((if mode = 1 then .overwrite else .stop, clampNat 1 capacity watermark, BitVec.ofNat 3 mask),
    (if 1 < mode then 1 else 0) + changed (clampNat 1 capacity watermark) watermark + (if 7 < mask then 1 else 0))

/-! ## Journal entries (R165, R199) -/

/-- The kind code of an entry (R199). -/
def Entry.kindCode : Entry → Nat
  | .keyDownIn _ _ _ _ _ => 1
  | .keyUpIn _ _ _ _ _ => 1
  | .damperIn _ _ _ => 2
  | .cueTaken _ _ _ _ _ _ => 16
  | .sceneChanged _ _ _ _ _ _ _ _ _ => 17
  | .changeHeld _ _ => 18
  | .changeResumed _ _ _ => 19
  | .changeCancelled _ _ _ => 20
  | .setEnd _ _ => 21
  | .transport _ _ _ _ => 22
  | .tempo _ _ _ _ => 23
  | .glideEnd _ _ => 24
  | .glideCancelled _ _ _ => 25
  | .pedal _ _ _ _ _ _ _ => 26
  | .pedalIgnored _ _ _ _ => 27
  | .syncLocked _ _ _ _ => 28
  | .syncLost _ _ _ => 29
  | .drop _ _ _ _ _ => 32
  | .voiceFull _ _ => 33
  | .clickDrop _ _ _ _ => 34
  | .carryConflict _ _ _ => 35
  | .carryDropped _ _ _ => 36
  | .deferDiscarded _ _ _ => 37
  | .lineFault _ _ _ => 38
  | .tempoIgnored _ _ => 39
  | .tapIgnored _ _ => 40
  | .syncClamped _ _ _ _ => 41
  | .memory _ _ => 42

/-- The kind code of GAP (R199). -/
def gapKindCode : Nat := 63

/-- The class of an entry, by the range of its kind code (R156, R199). -/
def Entry.cls (e : Entry) : EntryClass :=
  if e.kindCode < 16 then .play else if e.kindCode < 32 then .rig else .fault

/-- A scene number field of one byte, all ones for none (R199). -/
def sceneByte : Option (BitVec 7) → Nat
  | none => 255
  | some n => n.toNat

/-- The detail words A, B and C of an entry (R165, R199). -/
def Entry.details : Entry → Word × Word × Word
  | .keyDownIn src vel idx recs re =>
    (word4 src.port.val src.channel.toNat src.key.toNat vel.toNat,
      word4 FrameKind.keyDown.code (match idx with | none => 255 | some n => n.val) recs (flagCode re), 0)
  | .keyUpIn src vel idx out velIn =>
    (word4 src.port.val src.channel.toNat src.key.toNat vel.toNat,
      word4 FrameKind.keyUp.code (match idx with | none => 255 | some n => n.val) out.code 0,
      word4 velIn.toNat 0 0 0)
  | .damperIn port ch down => (word4 port.val ch.toNat 0 0, word4 (flagCode down) 0 0 0, 0)
  | .cueTaken head code value origin scene pos =>
    (head, word2 code.code value,
      word4 origin.code (match origin.slot? with | none => 255 | some n => n.val) (sceneByte scene)
        (match pos with | none => 255 | some p => p))
  | .sceneChanged scene act setPos moment origin carried defs ovr spill =>
    (word2 scene.toNat act.toNat, word2 (position16 setPos) (moment.code + 256 * origin.code),
      word4 carried defs (flagCode ovr) spill.code)
  | .changeHeld scene sender => (word4 scene.toNat 0 0 0, word4 sender.code.1 sender.code.2 0 0, 0)
  | .changeResumed scene b sender =>
    (word4 scene.toNat 0 0 0, word4 b.code 0 0 0, word4 sender.code.1 sender.code.2 0 0)
  | .changeCancelled scene st flag => (word4 (sceneByte scene) 0 0 0, word4 (changeStateByte st flag) 0 0 0, 0)
  | .setEnd dir pos => (position32 pos, word4 dir.code 0 0 0, 0)
  | .transport before aft cause bars =>
    (word4 before.code 0 0 0, word4 aft.code 0 0 0, word4 cause.code bars 0 0)
  | .tempo before aft cause len => (word2 before 0, word2 aft 0, word4 cause.code len 0 0)
  | .glideEnd target len => (word2 target 0, word4 len 0 0 0, 0)
  | .glideCancelled t target rem => (word2 t 0, word2 target 0, word4 rem 0 0 0)
  | .pedal n f edge cause out main second =>
    (main, word4 (n.val + 16 * f.code) edge.code cause.code out.code, second)
  | .pedalIgnored n f st flag => (word4 n.val f.code 0 0, word4 (changeStateByte st flag) 0 0 0, 0)
  | .syncLocked avg est div win => (BitVec.ofNat 32 avg, word2 est 0, word4 div win 0 0)
  | .syncLost est st k => (word2 (est.getD 0) 0, word4 st.code 0 0 0, word4 k 0 0 0)
  | .drop port m cls reason level =>
    (word4 m.kind.code m.channel.toNat m.data1.toNat m.data2.toNat, word4 port.val cls.code reason.code 0,
      word4 level 0 0 0)
  | .voiceFull src vel => (word4 src.port.val src.channel.toNat src.key.toNat 0, word4 vel.toNat 0 0 0, 0)
  | .clickDrop port line m level =>
    (word4 port.val line.val 0 0, word4 m.kind.code m.data1.toNat 0 0, word4 level 0 0 0)
  | .carryConflict place dest scene =>
    (word4 place 0 0 0, word4 dest.port.val dest.channel.toNat 0 0, word4 scene.toNat 0 0 0)
  | .carryDropped place dest scene =>
    (word4 place 0 0 0, word4 dest.port.val dest.channel.toNat 0 0, word4 scene.toNat 0 0 0)
  | .deferDiscarded dest k act =>
    (word4 dest.port.val dest.channel.toNat 0 0, word4 k 0 0 0, word2 act.toNat 0)
  | .lineFault port reason k => (word4 port.val 0 0 0, word4 reason.code 0 0 0, word4 k 0 0 0)
  | .tempoIgnored scene t => (word4 scene.toNat 0 0 0, word2 t 0, 0)
  | .tapIgnored t est => (word2 t 0, word2 est 0, 0)
  | .syncClamped raw est div avg =>
    (BitVec.ofNat 32 raw, word4 (est % 256) (est / 256) div 0, BitVec.ofNat 32 avg)
  | .memory off user => (BitVec.ofNat 32 off, word4 user.code 0 0 0, 0)

/-- The detail words of a GAP that closes a loss run (R160, R199). -/
def LossRun.details (l : LossRun) : Word × Word × Word :=
  (l.first.getD 0, word2 l.count 0, word2 (l.classes.toNat + 256 * flagCode l.memory) 0)

/-- The kind and position word of an entry (R199). -/
def kindAndPosition (kind : Nat) (p : Position) : Nat :=
  kind + 64 * p.tick + 16384 * (p.beat - 1) + 262144 * p.bar

/-- The body of an entry: offsets 4 to 31 of its slot, written before the sequence (R155, R199). -/
def entryBody (kind : Nat) (s : Stamp) (details : Word × Word × Word) : List Byte :=
  bytesOf 4 s.clock.toNat ++ bytesOf 4 (kindAndPosition kind s.pos) ++ bytesOf 4 details.1.toNat
    ++ bytesOf 4 details.2.1.toNat ++ bytesOf 4 details.2.2.toNat ++ bytesOf 8 0

end Sys2Proof.Machine
end

