-- ==== Sys2Proof/Machine/Tempo.lean ====
section
/-! DEFINITION. The tempo generator's operations: tick lengths (R63), position (R64), meter (R65), pending tempo (R71),
glides (R72, R73, R75), the FOLLOW read (R77) and the source (R76). Its announcements are in Click.lean and Change.lean. -/

namespace Sys2Proof.Machine

/-- Changing the tempo generator's own state. -/
def Device.onTempo (d : Device) (f : Tempo → Tempo) : Device := { d with tempo := f d.tempo }

/-- Whether the transport is STOPPED. -/
def Tempo.isStopped (t : Tempo) : Bool := decide (t.transport = .stopped)

/-! ## Making a tempo current (R62, R63) -/

/-- A tempo becomes current: clamped, and the accumulator is set to 0 exactly when T changes (R62, R63). -/
def Tempo.setCurrent (t : Tempo) (v : Nat) : Tempo :=
  let v' := clampNat Config.tempoMin Config.tempoMax v
  if v' = t.t then t else { t with t := v', acc := 0 }

/-- A tempo becomes current, with a TEMPO entry when T changes (R71, R77, R80). -/
def Device.makeCurrent (d : Device) (v : Nat) (cause : TempoCause) : Device :=
  let d' := d.onTempo (·.setCurrent v)
  if d'.tempo.t = d.tempo.t then d' else d'.emit (.tempo d.tempo.t d'.tempo.t cause 0)

/-- A pending tempo becomes current and is then absent (R71). -/
def Device.applyPendingTempo (d : Device) : Device :=
  match d.tempo.pending with
  | none => d
  | some (v, cause) => (d.onTempo fun t => { t with pending := none }).makeCurrent v cause

/-! ## Glides (R72, R73, R75) -/

/-- Cancelling a glide: T stays, and GLIDE_CANCELLED is written (R75). -/
def Device.cancelGlide (d : Device) : Device :=
  match d.tempo.glide with
  | none => d
  | some g =>
    (d.onTempo fun t => { t with glide := none }).emit (.glideCancelled d.tempo.t g.target g.remaining)

/-- Writing a pending tempo: it cancels a glide, replaces an earlier one, and becomes current at once while STOPPED
(R71, R75). -/
def Device.writePendingTempo (d : Device) (v : Nat) (cause : TempoCause) : Device :=
  let d' := d.cancelGlide.onTempo fun t => { t with pending := some (clampNat Config.tempoMin Config.tempoMax v, cause) }
  if d'.tempo.isStopped then d'.applyPendingTempo else d'

/-- The glide from S to E over G beats (R72). -/
def glideOf (s e g : Nat) : Glide :=
  let delta := if s ≤ e then e - s else s - e
  { target := e, remaining := g, length := g, stepSize := delta / g, remainder := delta % g, acc := 0
    up := decide (s ≤ e) }

/-- Setting up a glide while the transport runs; while STOPPED, or when E equals T, the write is a pending tempo
(R72). -/
def Device.writeGlide (d : Device) (e g : Nat) (cause : TempoCause) : Device :=
  if d.tempo.isStopped || decide (e = d.tempo.t) then d.writePendingTempo e cause
  else
    (d.cancelGlide.onTempo fun t => { t with pending := none, glide := some (glideOf d.tempo.t e g) }).emit
      (.tempo d.tempo.t e .glide g)

/-- Writing a tempo with a glide length of 0-64 beats: a pending tempo for 0 (R78, R79). -/
def Device.writeTempo (d : Device) (v g : Nat) (cause : TempoCause) : Device :=
  if g = 0 then d.writePendingTempo v cause else d.writeGlide v g cause

/-- The accumulator after a step's addition, and the step (R73). -/
def Glide.nextStep (g : Glide) : Nat × Nat :=
  if g.length ≤ g.acc + g.remainder then (g.acc + g.remainder - g.length, g.stepSize + 1)
  else (g.acc + g.remainder, g.stepSize)

/-- T after a step of a glide (R73). -/
def Glide.moveTempo (g : Glide) (t : Nat) : Nat := if g.up then t + g.nextStep.2 else t - g.nextStep.2

/-- A glide step at a beat boundary; the last one removes the glide and writes GLIDE_END (R73). -/
def Device.stepGlide (d : Device) (g : Glide) : Device :=
  let g' := { g with acc := g.nextStep.1, remaining := g.remaining - 1 }
  let d' := d.onTempo fun t => { t.setCurrent (g.moveTempo t.t) with glide := if g'.remaining = 0 then none else some g' }
  if g'.remaining = 0 then d'.emit (.glideEnd g.target g.length) else d'

/-! ## The source and the FOLLOW read (R76, R77) -/

/-- Setting the tempo source: a change to FOLLOW discards a pending tempo and cancels a glide (R76). -/
def Device.setSource (d : Device) (src : TempoSource) : Device :=
  if d.tempo.source = src then d
  else
    match src with
    | .manual => d.onTempo fun t => { t with source := .manual }
    | .follow => d.cancelGlide.onTempo fun t => { t with pending := none, source := .follow }

/-- The difference of two tempos. -/
def absDiff (a b : Nat) : Nat := (a - b) + (b - a)

/-- The FOLLOW read at a beat boundary: a LOCKED estimate that differs from T by the deadband or more becomes T
(R77). -/
def Device.followRead (d : Device) : Device :=
  match d.sync.state, d.sync.estimate with
  | .locked, some e => if d.sync.deadband ≤ absDiff e d.tempo.t then d.makeCurrent e .follow else d
  | _, _ => d

/-- What a beat boundary does at the tempo record: a pending tempo becomes current, a glide steps, or the estimate is
read (R64, R71, R73, R77). -/
def Device.beatWork (d : Device) : Device :=
  match d.tempo.pending, d.tempo.glide with
  | some _, _ => d.applyPendingTempo
  | none, some g => d.stepGlide g
  | none, none => if d.tempo.source = .follow then d.followRead else d

/-! ## The meter (R65) -/

/-- A pending meter becomes the meter (R65). -/
def Tempo.takeMeter (t : Tempo) : Tempo := { t with meter := t.pendingMeter.getD t.meter, pendingMeter := none }

/-- A pending meter taken while STOPPED: a held beat above the new meter moves to beat 1, tick 0 (R65). -/
def Tempo.takeMeterStopped (t : Tempo) : Tempo :=
  let t' := t.takeMeter
  if t'.meter < t'.beat then { t' with beat := 1, tick := 0 } else t'

/-- A switch hands over its meter: pending while the transport runs, taken at once while STOPPED (R65). -/
def Tempo.handMeter (t : Tempo) (m : Nat) : Tempo :=
  let t' := { t with pendingMeter := some m }
  if t'.isStopped then t'.takeMeterStopped else t'

/-! ## Ticks and position (R63, R64, R67) -/

/-- The beat of the tick in progress, of the count-in counter during a count-in (R64, R67). -/
def Tempo.beatNow (t : Tempo) : Nat :=
  match t.countIn with
  | some c => c.beat
  | none => t.beat

/-- The tick in progress, of the count-in counter during a count-in (R64, R67). -/
def Tempo.tickNow (t : Tempo) : Nat :=
  match t.countIn with
  | some c => c.tick
  | none => t.tick

/-- The tick in progress began at a beat boundary (R64). -/
def Tempo.atBeat (t : Tempo) : Bool := decide (t.tickNow = 0)

/-- The tick in progress began at a bar boundary (R64). -/
def Tempo.atBar (t : Tempo) : Bool := decide (t.tickNow = 0 ∧ t.beatNow = 1)

/-- The whole part of a tick's length at a tempo (R63). -/
def tickLength (t : Nat) : Nat := Config.tickDividend / t

/-- The remainder of a tick's length at a tempo (R63). -/
def tickRemainder (t : Nat) : Nat := Config.tickDividend % t

/-- A tick begins: its length is fixed from the accumulator (R63). -/
def Tempo.fixTick (t : Tempo) (now : Word) : Tempo :=
  let a := t.acc + tickRemainder t.t
  if t.t ≤ a then { t with acc := a - t.t, tickAt := some (after now (tickLength t.t + 1)) }
  else { t with acc := a, tickAt := some (after now (tickLength t.t)) }

/-- The next tick of the position (R64). -/
def Tempo.advancePosition (t : Tempo) : Tempo :=
  if t.tick < 239 then { t with tick := t.tick + 1 }
  else if t.beat < t.meter then { t with beat := t.beat + 1, tick := 0 }
  else { t with bar := if t.bar < Config.maxBar then t.bar + 1 else 1, beat := 1, tick := 0 }

/-- The next tick of the count-in counter; absent when the last tick of the last bar has ended (R67). -/
def CountIn.advance (c : CountIn) (meter : Nat) : Option CountIn :=
  if c.tick < 239 then some { c with tick := c.tick + 1 }
  else if c.beat < meter then some { c with beat := c.beat + 1, tick := 0 }
  else if c.bar < c.bars then some { c with bar := c.bar + 1, beat := 1, tick := 0 }
  else none

/-- A tick's length has passed: the position, or the count-in counter, moves to the next tick; the end of a count-in
is PLAYING at the held position, with its TRANSPORT entry (R64, R67, R80). DESIGN CHOICE (log 40): it comes before the
entries of the tick that then begins. -/
def Device.advanceTick (d : Device) : Device :=
  match d.tempo.countIn with
  | none => d.onTempo Tempo.advancePosition
  | some c =>
    match c.advance d.tempo.meter with
    | some c' => d.onTempo fun t => { t with countIn := some c' }
    | none =>
      (d.onTempo fun t => { t with countIn := none, transport := .playing }).emit (.transport .countIn .playing .countInEnd 0)

/-- The tempo generator's work as a tick begins: at a beat boundary the tempo record, at a bar boundary the meter, then
the tick's length; each beat boundary causes a state page rewrite (R63, R64, R65, R67, R181). -/
def Device.startTick (d : Device) : Device :=
  let d1 := if d.tempo.atBeat then d.beatWork.causePage else d
  let d2 := if d.tempo.atBar then d1.onTempo Tempo.takeMeter else d1
  d2.onTempo (·.fixTick d.now)

/-- Entry to STOPPED at the tempo generator: no further tick, the counter cleared, the position held, a pending tempo
and meter taken; nothing when already STOPPED (R65, R68, R71, R80). DESIGN CHOICE (log 40): the TRANSPORT entry comes
before the TEMPO entry of the pending tempo, which R68 does not order. -/
def Device.stopTempo (d : Device) (cause : TransportCause) : Device :=
  if d.tempo.isStopped then d
  else
    (((d.onTempo fun t => { t with transport := .stopped, countIn := none, tickAt := none }).emit
      (.transport d.tempo.transport .stopped cause 0)).applyPendingTempo).onTempo Tempo.takeMeterStopped

end Sys2Proof.Machine
end

