-- ==== Sys2Proof/Machine/Click.lean ====
section
/-! DEFINITION. The click unit's operations: click points (R104), accents (R105), pending settings (R106), pulses
(R107 to R109), click messages (R110), mute, stop and reload (R111 to R113), line levels (R102); and the start of the
transport, whose first tick is announced to the click unit (R66, R67, R70). -/

namespace Sys2Proof.Machine

/-- A click line with the stage that takes its messages. -/
def Device.onLine (d : Device) (n : Fin 4) (f : ClickLine → Stage → ClickLine × Stage) : Device :=
  let r := f d.click.lines[n] d.stage
  { d with click := { d.click with lines := d.click.lines.set n r.1 }, stage := r.2 }

/-- Every click line in line order. -/
def Device.onLines (d : Device) (f : Fin 4 → ClickLine → Stage → ClickLine × Stage) : Device :=
  (List.finRange 4).foldl (fun d n => d.onLine n (f n)) d

/-! ## Pulses and messages -/

/-- Ending a click note: the KEY_UP of the sounding key is offered, and the sounding key becomes absent (R110). -/
def endNote (n : Fin 4) (l : ClickLine) (st : Stage) : ClickLine × Stage :=
  match l.sounding with
  | none => (l, st)
  | some k => ({ l with sounding := none }, st.offerClick k.dest.port n (keyUpMessage k))

/-- Ending a pulse: the line goes IDLE, and its click note ends (R108). -/
def endPulse (n : Fin 4) (l : ClickLine) (st : Stage) : ClickLine × Stage :=
  endNote n { l with endsAt := none } st

/-- Ending the pulse of a line that is ACTIVE (R111, R112). -/
def endActive (n : Fin 4) (l : ClickLine) (st : Stage) : ClickLine × Stage :=
  if l.endsAt.isSome then endPulse n l st else (l, st)

/-- The click note of a setup: key and velocity of an accent or a normal click (R105, R110). -/
def ClickSetup.note (c : ClickSetup) (accent : Bool) : Message :=
  { kind := .keyDown, channel := c.channel, data1 := if accent then c.accentKey else c.normalKey
    data2 := if accent then c.accentVelocity else c.normalVelocity }

/-- The width of a pulse (R105). -/
def ClickSetup.width (c : ClickSetup) (accent : Bool) : Nat := if accent then c.accentWidth else c.normalWidth

/-- Offering the KEY_DOWN of a click on the line's route; an admitted one becomes the sounding key (R110). -/
def beginNote (n : Fin 4) (accent : Bool) (l : ClickLine) (st : Stage) : ClickLine × Stage :=
  match l.setup.route with
  | none => (l, st)
  | some p =>
    let m := l.setup.note accent
    (if st.clickAdmitted p then
        { l with sounding := some { dest := { port := p, channel := m.channel }, key := m.data1 } }
      else l,
      st.offerClick p n m)

/-- A click that sounds: the pulse starts, or is retriggered with its earlier note ended first (R107, R109). -/
def soundClick (n : Fin 4) (accent : Bool) (l : ClickLine) (st : Stage) : ClickLine × Stage :=
  let r := endNote n l st
  beginNote n accent { r.1 with endsAt := some (after st.clock (l.setup.width accent)) } r.2

/-! ## Click points (R104 to R106) -/

/-- Whether a tick of a beat is a click point of a subdivision (R104). -/
def isClickPoint (subdivision tick : Nat) : Bool := tick % (Config.ticksPerBeat / subdivision) == 0

/-- Whether a line may sound now: its enable, the mute, its mode in the transport state (R104). -/
def ClickSetup.maySound (c : ClickSetup) (mute : Bool) (tr : Transport) : Bool :=
  c.enable && !mute &&
    match tr, c.mode with
    | .countIn, .always => true
    | .countIn, .countInOnly => true
    | .playing, .always => true
    | _, _ => false

/-- Whether a click point is an accent: beat 1 of a count-in bar, or a beat of the accent set (R105). -/
def isAccent (tr : Transport) (accents : BitVec 16) (beat tick : Nat) : Bool :=
  decide (tick = 0) && if tr = .countIn then decide (beat = 1) else accents.getLsbD (beat - 1)

/-- Applying pending settings at a click point of the subdivision still in force (R106). -/
def ClickLine.applySettings (l : ClickLine) (tick : Nat) : ClickLine :=
  match l.pendingSet with
  | none => l
  | some (s, a) =>
    if isClickPoint l.subdivision tick then { l with subdivision := s, accents := a, pendingSet := none } else l

/-- A line takes a tick (R104, R105, R106). -/
def takeClickTick (mute : Bool) (tr : Transport) (beat tick : Nat) (n : Fin 4) (l : ClickLine) (st : Stage) :
    ClickLine × Stage :=
  let l' := l.applySettings tick
  if isClickPoint l'.subdivision tick && l'.setup.maySound mute tr then
    soundClick n (isAccent tr l'.accents beat tick) l' st
  else (l', st)

/-- The click unit takes a tick that the tempo generator announces (R104). DESIGN CHOICE (log 36): no rule orders the
lines at a tick; the model takes C0 to C3, so that is the order of their offers to a shared click lane. -/
def Device.clickTick (d : Device) : Device :=
  d.onLines (takeClickTick d.click.mute d.tempo.transport d.tempo.beatNow d.tempo.tickNow)

/-- The click unit takes the transport's entry to STOPPED (R112). -/
def Device.clickStop (d : Device) : Device := d.onLines endActive

/-- A CLICK_MUTE press toggles the mute; turning it on ends the pulses in progress (R111). -/
def Device.toggleMute (d : Device) : Device :=
  let d' := { d with click := { d.click with mute := !d.click.mute } }
  if d'.click.mute then d'.clickStop else d'

/-- A switch hands a line its subdivision and accent set as pending settings (R106). -/
def Device.handClick (d : Device) (subdivisions : Vector Nat 4) (accents : BitVec 16) : Device :=
  d.onLines fun n l st => ({ l with pendingSet := some (subdivisions[n], accents) }, st)

/-- A setup read at RELOAD: a line that is ACTIVE and may no longer sound ends its pulse at once (R113). -/
def reloadLine (setup : ClickSetup) (n : Fin 4) (l : ClickLine) (st : Stage) : ClickLine × Stage :=
  let r := if !setup.enable || decide (setup.mode = .muted) then endActive n l st else (l, st)
  ({ r.1 with setup := setup }, r.2)

/-- Whether a click line's pin is high (R102). -/
def ClickLine.isHigh (l : ClickLine) : Bool :=
  (l.setup.enable && l.endsAt.isSome) != decide (l.setup.polarity = .inverted)

/-! ## The tempo generator's announcements and the start (R64, R66, R67, R70) -/

/-- A tick begins: the tempo generator's work, then the click unit's (R64). -/
def Device.beginTick (d : Device) : Device := d.startTick.clickTick

/-- Starting the transport with a number of count-in bars: PLAYING at the held position, or COUNT_IN at beat 1, tick 0
of the held bar; the first tick begins at once (R66, R67, R70, R80). DESIGN CHOICE (log 40): the TRANSPORT entry comes
before the entries of the first tick's beat work and click points, which R66 does not order. -/
def Device.startTransport (d : Device) (bars : Nat) (cause : TransportCause) : Device :=
  if bars = 0 then
    ((d.onTempo fun t => { t with transport := .playing, countIn := none }).emit (.transport d.tempo.transport .playing cause 0)).beginTick
  else
    ((d.onTempo fun t =>
      { t with
        transport := .countIn, beat := 1, tick := 0
        countIn := some { bars := bars, bar := 1, beat := 1, tick := 0 } }).emit
      (.transport d.tempo.transport .countIn cause bars)).beginTick

end Sys2Proof.Machine
end

