-- ==== Sys2Proof/Machine/Routing.lean ====
section
/-! DEFINITION. The routing unit's operations over the stage: voice entries and their release (R27 to R32), cuts
(R31), the deferral check (R135 to R137), matching and candidates (R24 to R26), key down and up (R33 to R36), dampers
(R37, R38) and RELEASE_ALL (R41). -/

namespace Sys2Proof.Machine

/-! ## The voice table -/

/-- A destination record holds its destination key while PENDING or OWED (R27). -/
def DestRecord.holds (r : DestRecord) : Bool := decide (r.flag ≠ .done)

/-- The destination records of a place of the voice table. -/
def Stage.destsAt (st : Stage) (k : Fin 128) : List DestRecord :=
  match st.voices[k] with
  | none => []
  | some v => v.dests

/-- The number of entries in the table (R28). -/
def Stage.voiceCount (st : Stage) : Nat := ((List.finRange 128).filter fun k => st.voices[k].isSome).length

/-- Whether any voice entry holds a destination (R27, R32). -/
def Stage.holdsDest (st : Stage) (d : Dest) : Bool :=
  (List.finRange 128).any fun k => (st.destsAt k).any fun r => r.holds && decide (r.key.dest = d)

/-- Whether a record other than the one at place `k`, number `j`, holds a destination key (R29). -/
def Stage.heldElsewhere (st : Stage) (k : Fin 128) (j : Nat) (key : DestKey) : Bool :=
  (List.finRange 128).any fun k' =>
    (st.destsAt k').zipIdx.any fun rj => (decide (k' ≠ k) || decide (rj.2 ≠ j)) && rj.1.holds && decide (rj.1.key = key)

/-- The records of the table that pass a test, in index order and within each entry in list order (R28). -/
def Stage.recordsWhere (st : Stage) (f : DestRecord → Bool) : List (Fin 128 × Nat) :=
  (List.finRange 128).flatMap fun k =>
    ((st.destsAt k).zipIdx.filter fun rj => f rj.1).map fun rj => (k, rj.2)

/-- The first entry, in index order, that passes a test. -/
def Stage.findVoice (st : Stage) (f : Voice → Bool) : Option (Fin 128) :=
  (List.finRange 128).find? fun k =>
    match st.voices[k] with
    | none => false
    | some v => f v

/-- The lowest free index (R28). -/
def Stage.freeIndex (st : Stage) : Option (Fin 128) := (List.finRange 128).find? fun k => st.voices[k].isNone

/-- Writing one place of the table. -/
def Stage.setVoice (st : Stage) (k : Fin 128) (v : Option Voice) : Stage :=
  { st with voices := st.voices.set k v }

/-- Changing the entry at a place, if there is one. -/
def Stage.modifyVoice (st : Stage) (k : Fin 128) (f : Voice → Voice) : Stage :=
  st.setVoice k (st.voices[k].map f)

/-! ## The deferral check (R135) -/

/-- Ending a deferral: it leaves the list, and its entry messages are offered in order (R135, R136, R137). -/
def Stage.endDeferral (st : Stage) (df : Deferral) : Stage :=
  { st with deferrals := st.deferrals.erase df }.offerEntries df.dest.port df.messages

/-- The deferral for a destination (R134). -/
def Stage.deferralFor (st : Stage) (d : Dest) : Option Deferral := st.deferrals.find? fun df => decide (df.dest = d)

/-- The deferral check on a report that names a destination: a deferral for it ends when no entry holds it (R135). -/
def Stage.deferralCheck (st : Stage) (d : Dest) : Stage :=
  match st.deferralFor d with
  | none => st
  | some df => if st.holdsDest d then st else st.endDeferral df

/-! ## Releasing records (R29, R30, R32) -/

/-- The distinct destinations of a destination list, in list order (R32). -/
def distinctDests (rs : List DestRecord) : List Dest :=
  rs.foldl (fun ds r => if ds.contains r.key.dest then ds else ds ++ [r.key.dest]) []

/-- An entry whose records are all DONE is removed, and each distinct destination is reported (R28, R32). -/
def Stage.removeIfDone (st : Stage) (k : Fin 128) : Stage :=
  match st.voices[k] with
  | none => st
  | some v =>
    if v.dests.all fun r => !r.holds then
      (distinctDests v.dests).foldl (fun st d => st.deferralCheck d) (st.setVoice k none)
    else st

/-- Writing the release flag of one record. -/
def Stage.setFlag (st : Stage) (k : Fin 128) (j : Nat) (f : ReleaseFlag) : Stage :=
  st.modifyVoice k fun v => { v with dests := v.dests.modify j fun r => { r with flag := f } }

/-- A record becomes DONE: the release report, then the removal of an entry left with all records DONE (R28, R32,
R135). -/
def Stage.recordDone (st : Stage) (k : Fin 128) (j : Nat) (d : Dest) : Stage :=
  ((st.setFlag k j .done).deferralCheck d).removeIfDone k

/-- The release of one record (R29): without a KEY_UP while another record holds its key, else by an offered KEY_UP;
a refused one leaves the record OWED. A record that is DONE or OWED is not released again. -/
def Stage.releaseRecord (st : Stage) (k : Fin 128) (j : Nat) : Stage :=
  match (st.destsAt k)[j]? with
  | none => st
  | some r =>
    if r.flag ≠ .pending then st
    else if st.heldElsewhere k j r.key then st.recordDone k j r.key.dest
    else if st.releaseAdmitted r.key.dest.port then
      (st.offerRelease r.key.dest.port (keyUpMessage r.key)).recordDone k j r.key.dest
    else st.setFlag k j .owed

/-- Releasing records one after another. -/
def Stage.releaseRecords (st : Stage) (ps : List (Fin 128 × Nat)) : Stage :=
  ps.foldl (fun st p => st.releaseRecord p.1 p.2) st

/-- An entry becomes RELEASING and its PENDING records are released in list order (R33, R36, R38, R41). -/
def Stage.releaseVoice (st : Stage) (k : Fin 128) : Stage :=
  let st' := st.modifyVoice k fun v => { v with state := .releasing }
  st'.releaseRecords ((List.range (st.destsAt k).length).map fun j => (k, j))

/-- Releasing entries one after another. -/
def Stage.releaseVoices (st : Stage) (ks : List (Fin 128)) : Stage := ks.foldl (fun st k => st.releaseVoice k) st

/-- The walk of R30 over a port's OWED records: each is offered while the main queue has room, and the walk stops at
the first refusal. -/
def owedWalk (p : Fin 6) : List (Fin 128 × Nat) → Stage → Stage
  | [], st => st
  | (k, j) :: rest, st =>
    match (st.destsAt k)[j]? with
    | none => owedWalk p rest st
    | some r =>
      if st.releaseAdmitted p then
        owedWalk p rest ((st.offerRelease p (keyUpMessage r.key)).recordDone k j r.key.dest)
      else st

/-- The owed releases of a port (R30). -/
def Stage.retryOwed (st : Stage) (p : Fin 6) : Stage :=
  owedWalk p (st.recordsWhere fun r => decide (r.flag = .owed) && decide (r.key.dest.port = p)) st

/-! ## Cuts and the endings that cut (R31, R136, R137) -/

/-- Cutting a destination: every PENDING record on it is released, whatever the entry's state and the damper (R31). -/
def Stage.cut (st : Stage) (d : Dest) : Stage :=
  st.releaseRecords (st.recordsWhere fun r => decide (r.flag = .pending) && decide (r.key.dest = d))

/-- The deadline and new-note endings: the deferral is removed, its destination is cut, and its messages are offered
(R136, R137). -/
def Stage.endDeferralByCut (st : Stage) (df : Deferral) : Stage :=
  ({ st with deferrals := st.deferrals.erase df }.cut df.dest).offerEntries df.dest.port df.messages

/-- Ending the deferral for a destination by a cut, if there is one. -/
def Stage.endDestByCut (st : Stage) (d : Dest) : Stage :=
  match st.deferralFor d with
  | none => st
  | some df => st.endDeferralByCut df

/-! ## RELEASE_ALL (R41) -/

/-- The entries that are SOUNDING or SUSTAINED, in index order (R41). -/
def Stage.heldVoices (st : Stage) : List (Fin 128) :=
  (List.finRange 128).filter fun k =>
    match st.voices[k] with
    | none => false
    | some v => decide (v.state ≠ .releasing)

/-- The first two steps of RELEASE_ALL: every damper up, and every SOUNDING and SUSTAINED entry released (R41). The
deferrals stand aside: their endings come after these releases, so no report of a release ends one (R137; log 38). -/
def Stage.releaseHeld (st : Stage) : Stage :=
  { st with dampers := Vector.replicate 4 (Vector.replicate 16 false), deferrals := [] }.releaseVoices st.heldVoices

/-- RELEASE_ALL: the releases, and then every deferral ended as by its deadline, in list order, whatever the table holds
(R41, R137). -/
def Stage.releaseAll (st : Stage) : Stage := st.deferrals.foldl Stage.endDeferralByCut st.releaseHeld

/-! ## Matching (R24 to R26) -/

/-- A zone listens to a key port and channel (R24, R39). -/
def Zone.listens (z : Zone) (port : Fin 4) (channel : BitVec 4) : Bool :=
  z.ports.getLsbD port.val &&
    match z.channel with
    | none => true
    | some c => decide (c = channel)

/-- A zone matches a KEY_DOWN (R24). -/
def Zone.isMatch (z : Zone) (src : Source) (vel : BitVec 7) : Bool :=
  z.listens src.port src.channel
    && decide (z.keyLow ≤ src.key ∧ src.key ≤ z.keyHigh) && decide (z.velLow ≤ vel ∧ vel ≤ z.velHigh)

/-- The velocity out of a zone for a velocity in: the curve, then the clamp to 1-127 (R26). -/
def Zone.velocityOut (z : Zone) (vel : BitVec 7) : BitVec 7 :=
  match z.curve with
  | .scale => BitVec.ofNat 7 (clampInt 1 127 (((vel.toNat * z.gain + 32) / 64 : Nat) + z.offset)).toNat
  | .fixed => BitVec.ofNat 7 z.fixedValue

/-- A candidate of a KEY_DOWN: a destination key and its velocity out (R25). -/
structure Candidate where
  key : DestKey
  velocity : BitVec 7
  deriving DecidableEq, Repr

/-- The candidate of a matching zone; none when the transposed key lies outside 0-127 (R25). -/
def Zone.candidate (z : Zone) (key vel : BitVec 7) : Option Candidate :=
  let n : Int := key.toNat + z.transpose
  if 0 ≤ n ∧ n ≤ 127 then
    some { key := { dest := z.dest, key := BitVec.ofNat 7 n.toNat }, velocity := z.velocityOut vel }
  else none

/-- The candidates of a KEY_DOWN in zone order (R25). -/
def candidates (zones : List Zone) (src : Source) (vel : BitVec 7) : List Candidate :=
  (zones.filter fun z => z.isMatch src vel).filterMap fun z => z.candidate src.key vel

/-! ## Key down (R33 to R35) -/

/-- Whether a place holds the SOUNDING or SUSTAINED entry of a source (R33). -/
def Voice.isHeldFrom (src : Source) (v : Voice) : Bool := decide (v.source = src) && decide (v.state ≠ .releasing)

/-- The KEY_DOWN message of a candidate (R35). -/
def Candidate.message (c : Candidate) : Message :=
  { kind := .keyDown, channel := c.key.dest.channel, data1 := c.key.key, data2 := c.velocity }

/-- Offering one candidate of the entry at place `k`: the new-note ending, the offer, and a record if the port admits
it (R35, R137). -/
def Stage.offerCandidate (k : Fin 128) (st : Stage) (c : Candidate) : Stage :=
  let st1 := st.endDestByCut c.key.dest
  let st2 := st1.offerNonRelease c.key.dest.port c.message
  if st1.nonReleaseAdmitted c.key.dest.port then
    st2.modifyVoice k fun v => { v with dests := v.dests ++ [{ key := c.key, flag := .pending }] }
  else st2

/-- An entry that no candidate was admitted for is not kept (R28, R35). -/
def Stage.freeIfEmpty (st : Stage) (k : Fin 128) : Stage :=
  if (st.destsAt k).isEmpty then st.setVoice k none else st

/-- A KEY_DOWN with velocity 1 or more: the retrigger, the claim, the offers, and the KEY_IN entry last
(R33, R34, R35, R42). The index of an entry that is not kept is reported as none (log 18). -/
def Stage.keyDown (st : Stage) (zones : List Zone) (src : Source) (vel : BitVec 7) : Stage :=
  let old := st.findVoice (Voice.isHeldFrom src)
  let st1 := match old with
    | none => st
    | some k => st.releaseVoice k
  let re := old.isSome
  let cands := candidates zones src vel
  if cands.isEmpty then st1.emit (.keyDownIn src vel none 0 re)
  else match st1.freeIndex with
    | none => (st1.emit (.voiceFull src vel)).emit (.keyDownIn src vel none 0 re)
    | some k =>
      let claimed := st1.setVoice k (some { source := src, velIn := vel, state := .sounding, dests := [] })
      let offered := cands.foldl (Stage.offerCandidate k) claimed
      let records := (offered.destsAt k).length
      (offered.freeIfEmpty k).emit (.keyDownIn src vel (if records = 0 then none else some k) records re)

/-! ## Key up and dampers (R36 to R38) -/

/-- Whether the damper of a key port and channel is down (R37). -/
def Stage.damperDown (st : Stage) (port : Fin 4) (channel : BitVec 4) : Bool := st.dampers[port][channel.toFin]

/-- A KEY_UP, or a KEY_DOWN of velocity 0: the SOUNDING entry of the source becomes SUSTAINED or RELEASING, and the
KEY_IN entry follows (R36, R42). `vel` is the velocity as received. -/
def Stage.keyUp (st : Stage) (src : Source) (vel : BitVec 7) : Stage :=
  match st.findVoice fun v => decide (v.source = src) && decide (v.state = .sounding) with
  | none => st.emit (.keyUpIn src vel none .notFound 0)
  | some k =>
    let velIn := match st.voices[k] with
      | none => 0
      | some v => v.velIn
    if st.damperDown src.port src.channel then
      (st.modifyVoice k fun v => { v with state := .sustained }).emit (.keyUpIn src vel (some k) .sustained velIn)
    else (st.releaseVoice k).emit (.keyUpIn src vel (some k) .releasing velIn)

/-- The SUSTAINED entries of a key port and channel, in index order (R38). -/
def Stage.sustainedOf (st : Stage) (port : Fin 4) (channel : BitVec 4) : List (Fin 128) :=
  (List.finRange 128).filter fun k =>
    match st.voices[k] with
    | none => false
    | some v => decide (v.source.port = port) && decide (v.source.channel = channel) && decide (v.state = .sustained)

/-- Setting a damper level: up releases the SUSTAINED entries of that key port and channel (R37, R38). -/
def Stage.setDamper (st : Stage) (port : Fin 4) (channel : BitVec 4) (down : Bool) : Stage :=
  let st' := { st with dampers := vecModify st.dampers port fun levels => levels.set channel.toFin down }
  if down then st' else st'.releaseVoices (st.sustainedOf port channel)

/-- A damper pedal's edge: the 16 channels of each masked key port, in port and then channel order (R38). -/
def Stage.setDampers (st : Stage) (mask : BitVec 4) (down : Bool) : Stage :=
  ((List.finRange 4).filter fun p => mask.getLsbD p.val).foldl
    (fun st p => (List.finRange 16).foldl (fun st c => st.setDamper p (BitVec.ofFin c) down) st) st

/-! ## Controls (R39) -/

/-- The distinct destinations of the zones that pass a CONTROL, each at the place of its first zone (R39). -/
def controlDests (zones : List Zone) (port : Fin 4) (channel : BitVec 4) : List Dest :=
  (zones.filter fun z => z.passControls && z.listens port channel).foldl
    (fun ds z => if ds.contains z.dest then ds else ds ++ [z.dest]) []

/-- Offering a CONTROL once to each destination that passes it (R39). -/
def Stage.passControl (st : Stage) (zones : List Zone) (port : Fin 4) (m : Message) : Stage :=
  (controlDests zones port m.channel).foldl
    (fun st d => st.offerNonRelease d.port { m with kind := .control, channel := d.channel }) st

/-! ## Frame completions (R53, R54) -/

/-- A main-queue frame completes: the head leaves, the owed releases are served, the backlog moves, and the next frame
is picked (R54). -/
def Stage.mainFrameDone (st : Stage) (p : Fin 6) : Stage :=
  let st1 := st.modifyPort p fun mp => { mp with main := mp.main.tail }
  let st2 := st1.retryOwed p
  st2.modifyPort p fun mp => (mp.moveBacklog st.clock).pickFrame st.clock

/-- A click-lane frame completes: the head leaves and the next frame is picked (R53). -/
def Stage.laneFrameDone (st : Stage) (p : Fin 6) : Stage :=
  st.modifyPort p fun mp => { mp with lane := mp.lane.tail }.pickFrame st.clock

/-! ## Quiet (R60, R189) -/

/-- The voice table is empty and every module port is empty (R60, R189). -/
def Stage.isQuiet (st : Stage) : Bool :=
  (List.finRange 128).all (fun k => st.voices[k].isNone) && (List.finRange 6).all fun p => st.ports[p].isEmpty

end Sys2Proof.Machine
end

