-- ==== Sys2Proof/Machine/Change.lean ====
section
/-! DEFINITION. The change unit's operations: cueing (R116 to R120), going, holding and cancelling (R121 to R126), and
the switch in its six stages (R127 to R133, R139). -/

namespace Sys2Proof.Machine

/-- Changing the change unit's own state. -/
def Device.onChange (d : Device) (f : ChangeUnit → ChangeUnit) : Device := { d with change := f d.change }

/-- Changing the stage. -/
def Device.onStage (d : Device) (f : Stage → Stage) : Device := { d with stage := f d.stage }

/-- The override level: held while any LOCK_OVERRIDE pedal is PRESSED (R148). -/
def Device.overrideHeld (d : Device) : Bool :=
  (List.finRange 8).any fun n => d.pedals[n].pressed && decide (d.pedals[n].setup.function = .lockOverride)

/-! ## The carry (R128) -/

/-- A destination that a zone or an entry message of a scene names (R128). -/
def SceneCopy.names (sc : SceneCopy) (dest : Dest) : Bool :=
  (sc.zones.any fun z => decide (z.dest = dest)) ||
    sc.entryMessages.any fun e => decide (({ port := e.port, channel := e.msg.channel } : Dest) = dest)

/-- The carry candidates: the locked zones of the outgoing set with their places; none under the override (R128). -/
def carryCandidates (override : Bool) (outgoing : List Zone) : List (Zone × Nat) :=
  if override then [] else outgoing.zipIdx.filter fun c => c.1.lock

/-- The places left after the new scene's zones (R128). -/
def SceneCopy.room (sc : SceneCopy) : Nat := Config.maxZones - sc.zones.length

/-- The candidates that conflict with the new scene (R128). -/
def carryConflicts (sc : SceneCopy) (cs : List (Zone × Nat)) : List (Zone × Nat) :=
  cs.filter fun c => sc.names c.1.dest

/-- The candidates that do not conflict, in their old order (R128). -/
def carrySurvivors (sc : SceneCopy) (cs : List (Zone × Nat)) : List (Zone × Nat) :=
  cs.filter fun c => !sc.names c.1.dest

/-- The zones carried over a switch (R128). -/
def carriedZones (sc : SceneCopy) (override : Bool) (outgoing : List Zone) : List Zone :=
  ((carrySurvivors sc (carryCandidates override outgoing)).take sc.room).map (·.1)

/-- The entries of the carry: conflicts first, then the candidates without a place (R128, R133). -/
def carryEntries (sc : SceneCopy) (override : Bool) (outgoing : List Zone) : List Entry :=
  let cs := carryCandidates override outgoing
  (carryConflicts sc cs).map (fun c => .carryConflict c.2 c.1.dest sc.number) ++
    ((carrySurvivors sc cs).drop sc.room).map fun c => .carryDropped c.2 c.1.dest sc.number

/-- Handing entries in order. -/
def Stage.emitAll (st : Stage) (es : List Entry) : Stage := es.foldl Stage.emit st

/-! ## The spill (R129, R130) -/

/-- The destination of an entry message (R8). -/
def EntryMessage.dest (e : EntryMessage) : Dest := { port := e.port, channel := e.msg.channel }

/-- The touched destinations in order of first naming: zones, then entry messages (R129). -/
def SceneCopy.touched (sc : SceneCopy) : List Dest :=
  (sc.zones.map (·.dest) ++ sc.entryMessages.map EntryMessage.dest).foldl
    (fun ds x => if ds.contains x then ds else ds ++ [x]) []

/-- The entry messages of a scene for a destination, in scene order (R130). -/
def SceneCopy.messagesFor (sc : SceneCopy) (dest : Dest) : List Message :=
  (sc.entryMessages.filter fun e => decide (e.dest = dest)).map (·.msg)

/-- The discard of the previous activation's deferrals, with a DEFER_DISCARDED entry each (R130). -/
def Stage.discardDeferrals (st : Stage) : Stage :=
  { st with deferrals := [] }.emitAll
    (st.deferrals.map fun (df : Deferral) => Entry.deferDiscarded df.dest df.messages.length df.activation)

/-- The deferrals that a DEFER switch makes: one for each touched destination that is held and that an entry message
names (R130). -/
def Stage.newDeferrals (st : Stage) (sc : SceneCopy) (activation : BitVec 16) : List Deferral :=
  (sc.touched.filter fun x => st.holdsDest x && !(sc.messagesFor x).isEmpty).map fun x =>
    { dest := x, messages := sc.messagesFor x, deadline := after st.clock (sc.deferLimit * 1000)
      activation := activation }

/-- The spill stage of a switch (R129, R130). DEFER with a limit of 0 is carried out as CUT. -/
def Stage.spill (st : Stage) (sc : SceneCopy) (activation : BitVec 16) : Stage :=
  let st1 := st.discardDeferrals
  match sc.spill with
  | .keep => st1
  | .cut => sc.touched.foldl (fun st x => st.cut x) st1
  | .defer =>
    if sc.deferLimit = 0 then sc.touched.foldl (fun st x => st.cut x) st1
    else { st1 with deferrals := st1.newDeferrals sc activation }

/-- The entry message stage: each message whose destination this switch has not deferred is offered, in scene order
(R131). -/
def Stage.sendEntryMessages (st : Stage) (sc : SceneCopy) : Stage :=
  let free := sc.entryMessages.filter fun e => (st.deferralFor e.dest).isNone
  free.foldl (fun st e => st.offerEntry e.port e.msg) st

/-! ## Completing a cue or a go that came from a request (R117, R133) -/

/-- Completing a cue (R117, R118, R125, R141). -/
def Device.completeCue (d : Device) (o : CueOrigin) (code : ResultCode) (value : Nat) : Device :=
  match o with
  | .cueScene slot tag => d.complete slot tag code (BitVec.ofNat 32 value)
  | .cuePosition slot tag => d.complete slot tag code (BitVec.ofNat 32 value)
  | .next => d
  | .prev => d
  | .programSelect => d

/-- Completing a go (R118, R125, R133, R141). -/
def Device.completeGo (d : Device) (g : Option GoFlight) (code : ResultCode) (value : Nat) : Device :=
  match g with
  | some { origin := .request slot tag, waiting := _ } => d.complete slot tag code (BitVec.ofNat 32 value)
  | _ => d

/-! ## The switch (R127 to R133) -/

/-- The timing stage of a switch: meter, click settings, source, tempo with its glide, and the start (R132, R79). -/
def Device.handTiming (d : Device) (sc : SceneCopy) : Device :=
  let d1 := (d.onTempo (·.handMeter sc.meter)).handClick sc.subdivisions sc.accents
  let d2 := d1.setSource sc.source
  let d3 :=
    if sc.tempo = 0 then d2
    else if sc.source = .follow then d2.emit (.tempoIgnored sc.number sc.tempo)
    else d2.writeTempo sc.tempo sc.glideBeats .scene
  if d3.tempo.isStopped && sc.startTransport then d3.startTransport sc.countInBars .scene else d3

/-- The activation stage: the pending copy becomes the active scene (R127). -/
def ChangeUnit.activate (c : ChangeUnit) (sc : SceneCopy) (zones : List Zone) : ChangeUnit :=
  { c with
    active := some sc, copy := none, zones := zones, activation := c.activation + 1
    setPosition := if sc.position.isSome then sc.position else c.setPosition }

/-- The origin of the go in flight, for SCENE_CHANGED (R139). A switch is made only with a go in flight (R115). -/
def ChangeUnit.goOrigin (c : ChangeUnit) : GoOrigin :=
  match c.go with
  | some g => g.origin
  | none => .goPedal

/-- The switch of a pending copy, in its six stages (R127 to R133). -/
def Device.switchTo (d : Device) (sc : SceneCopy) (moment : Moment) : Device :=
  let override := d.overrideHeld
  let carried := carriedZones sc override d.change.zones
  let d1 := d.onChange (·.activate sc (sc.zones ++ carried))
  let d2 := d1.onStage (·.emitAll (carryEntries sc override d.change.zones))
  let d3 := d2.onStage (·.spill sc d1.change.activation)
  let d4 := d3.onStage (·.sendEntryMessages sc)
  let d5 := d4.handTiming sc
  let d6 := d5.emit (.sceneChanged sc.number d1.change.activation d1.change.setPosition moment d.change.goOrigin
    carried.length d3.stage.deferrals.length override sc.spill)
  (d6.completeGo d.change.go .ok d1.change.activation.toNat).onChange fun c =>
    { c with go := none, armed := none, state := .idle }

/-- The switch of the pending copy, if there is one. -/
def Device.makeSwitch (d : Device) (moment : Moment) : Device :=
  match d.change.copy with
  | none => d
  | some sc => d.switchTo sc moment

/-- Arming: the boundary is read from the pending copy and counted from now; NOW, or a STOPPED transport, switches
within the arming (R122). -/
def Device.arm (d : Device) : Device :=
  match d.change.copy with
  | none => d
  | some sc =>
    if sc.boundary = .now then d.switchTo sc .now
    else if d.tempo.isStopped then d.switchTo sc .stopped
    else d.onChange fun c => { c with state := .armed, armed := some { boundary := sc.boundary, since := d.now } }

/-- The change unit takes a boundary that the tempo generator announces (R122). -/
def Device.changeBoundary (d : Device) : Device :=
  match d.change.state, d.change.armed with
  | .armed, some a =>
    match a.boundary with
    | .now => if d.tempo.atBeat then d.makeSwitch .now else d
    | .beat => if d.tempo.atBeat then d.makeSwitch .beat else d
    | .bar =>
      if d.tempo.atBar || (d.tempo.atBeat && decide (d.tempo.transport = .countIn)) then d.makeSwitch .bar else d
  | _, _ => d

/-- The change unit takes the transport's entry to STOPPED: an ARMED change switches at once (R126). -/
def Device.changeStop (d : Device) : Device :=
  if d.change.state = .armed then d.makeSwitch .transportStop else d

/-! ## Cueing (R116 to R120) -/

/-- Whether a cue may begin in the present change state (R116, R119). -/
def ChangeUnit.mayCue (c : ChangeUnit) : Bool :=
  match c.state with
  | .idle => true
  | .cued => true
  | .loading => false
  | .armed => false
  | .held => !c.loadingFlag

/-- A cue begins: in IDLE and CUED the state becomes LOADING and a pending copy is discarded; in HELD the loading flag
is set (R116). -/
def ChangeUnit.beginCue (c : ChangeUnit) (o : CueOrigin) (position : Option Nat) (scene : Option (BitVec 7))
    (target : CopyTarget) : ChangeUnit :=
  let c' : ChangeUnit := { c with
    load := some { origin := o, position := position, scene := scene, reads := 0, headRead := 0, retryAt := none }
    reads := c.reads ++ [{ target := target, abandoned := false }] }
  if c.state = .held then { c' with loadingFlag := true } else { c' with state := ChangeState.loading, copy := none }

/-- A cue by scene number begins (R14, R116). -/
def ChangeUnit.cueByScene (c : ChangeUnit) (o : CueOrigin) (n : BitVec 7) : ChangeUnit :=
  c.beginCue o none (some n) (.sceneRecord n)

/-- A cue by position begins with its set list entry (R12, R116). -/
def ChangeUnit.cueByPosition (c : ChangeUnit) (o : CueOrigin) (p : Nat) : ChangeUnit :=
  c.beginCue o (some p) none (.setListEntry p)

/-- The go that a NEXT, PREV or program select carries: a waiting go, or absorbed by the one in flight in HELD
(R119, R120). -/
def ChangeUnit.carryGo (c : ChangeUnit) (o : GoOrigin) : ChangeUnit :=
  if c.state = .held then c else { c with go := some { origin := o, waiting := true } }

/-- A copy that formed a pending copy is taken by the change unit (R117). DESIGN CHOICE (log 40): its CUE_TAKEN entry, as
its completion, comes before the entries of a switch that it makes. -/
def Device.copyFormed (d : Device) (ld : Load) (sc : SceneCopy) : Device :=
  let d1 := ((d.onChange fun c => { c with load := none }).completeCue ld.origin .ok sc.clamps).emit
    (.cueTaken sc.headCount .ok sc.clamps ld.origin (some sc.number) ld.position)
  match d.change.state with
  | .loading =>
    match d.change.go with
    | none => d1.onChange fun c => { c with copy := some sc, state := .cued }
    | some g => (d1.onChange fun c => { c with copy := some sc, go := some { g with waiting := false } }).arm
  | .held => d1.onChange fun c => { c with copy := some sc, loadingFlag := false }
  | _ => d1

/-- A copy that ended in BAD_SCENE, TORN or MEMORY is taken by the change unit (R118). -/
def Device.copyFailed (d : Device) (ld : Load) (code : ResultCode) (value : Nat) : Device :=
  let d1 := ((d.onChange fun c => { c with load := none }).completeCue ld.origin code value).emit
    (.cueTaken ld.headRead code value ld.origin ld.scene ld.position)
  match d.change.state with
  | .loading => (d1.completeGo d.change.go .notReady 0).onChange fun c => { c with state := .idle, go := none }
  | .held => d1.onChange fun c => { c with loadingFlag := false }
  | _ => d1

/-- Abandoning the copy in progress: no further read or retry; a read under way runs to its completion (R19). DESIGN
CHOICE (log 35): a read that still waits on the port counts as under way, and is made. -/
def ChangeUnit.abandon (c : ChangeUnit) : ChangeUnit :=
  { c with load := none, reads := c.reads.map fun r => { r with abandoned := true } }

/-- A cue in progress is abandoned and completed with a code, with its CUE_TAKEN entry (R19, R125, R141). -/
def Device.abandonCue (d : Device) (code : ResultCode) : Device :=
  match d.change.load with
  | none => d
  | some ld =>
    ((d.onChange ChangeUnit.abandon).completeCue ld.origin code 0).emit
      (.cueTaken ld.headRead code 0 ld.origin ld.scene ld.position)

/-- The position a NEXT or PREV steps from (R119). -/
def ChangeUnit.stepFrom (c : ChangeUnit) : Option Nat :=
  match c.copy with
  | some sc =>
    if sc.position.isSome && (decide (c.state = .cued) || (decide (c.state = .held) && !c.loadingFlag)) then sc.position
    else c.setPosition
  | none => c.setPosition

/-- The target of a NEXT or PREV within a set list; none at an end of the list (R119). -/
def stepTarget (dir : Direction) (pos : Option Nat) (length : Nat) : Option Nat :=
  let target := match dir, pos with
    | .next, none => some 0
    | .next, some p => some (p + 1)
    | .prev, none => none
    | .prev, some p => if p = 0 then none else some (p - 1)
  target.filter fun t => decide (t < length)

/-! ## Going, holding, cancelling (R121 to R125) -/

/-- A go in CUED: the go in flight, then the arming (R121). -/
def Device.goCued (d : Device) (o : GoOrigin) : Device :=
  (d.onChange fun c => { c with go := some { origin := o, waiting := false } }).arm

/-- A HOLD in ARMED (R123). -/
def Device.holdArmed (d : Device) (sc : SceneCopy) (who : Sender) : Device :=
  (d.onChange fun c => { c with state := .held, armed := none }).emit (.changeHeld sc.number who)

/-- A RESUME in HELD with the loading flag clear (R124). -/
def Device.resumeHeld (d : Device) (sc : SceneCopy) (who : Sender) : Device :=
  (d.emit (.changeResumed sc.number sc.boundary who)).arm

/-- The pending scene number for a journal entry or a result. -/
def ChangeUnit.pendingNumber (c : ChangeUnit) : Option (BitVec 7) := c.copy.map (·.number)

/-- The scene that a CANCEL concerns: the pending scene, or in LOADING the scene being copied (R125). -/
def ChangeUnit.concerned (c : ChangeUnit) : Option (BitVec 7) :=
  if c.state = .loading then c.load.bind (·.scene) else c.pendingNumber

/-- The change unit goes back to IDLE with nothing in progress (R125, R141). -/
def ChangeUnit.toIdle (c : ChangeUnit) : ChangeUnit :=
  { c with state := .idle, loadingFlag := false, copy := none, load := none, go := none, armed := none }

/-- A CANCEL in any state but IDLE: the copy is abandoned, the cue and the go are completed with CANCELLED, and the
unit goes to IDLE (R125). DESIGN CHOICE (log 40): the CUE_TAKEN entry of an abandoned cue comes before CHANGE_CANCELLED.
-/
def Device.cancelChange (d : Device) : Device :=
  let d1 := (d.abandonCue .cancelled).completeGo d.change.go .cancelled 0
  (d1.onChange ChangeUnit.toIdle).emit (.changeCancelled d.change.concerned d.change.state d.change.loadingFlag)

/-- The change unit at the entry to DRAINING: as a cancel, with OFFLINE and without CHANGE_CANCELLED (R141). -/
def Device.drainChange (d : Device) : Device :=
  ((d.abandonCue .offline).completeGo d.change.go .offline 0).onChange ChangeUnit.toIdle

/-- UNLOCK_ZONES on the active zone set (R138). -/
def ChangeUnit.unlockZones (c : ChangeUnit) : ChangeUnit :=
  { c with zones := c.zones.map fun z => { z with lock := false } }

/-- The zones whose lock is set (R138). -/
def ChangeUnit.lockedCount (c : ChangeUnit) : Nat := (c.zones.filter (·.lock)).length

end Sys2Proof.Machine
end

