-- ==== Sys2Proof/Machine/Feeders.lean ====
section
/-! DEFINITION. The two tempo feeders: tap capture (R84 to R89) and the sync follower (R92 to R99). -/

namespace Sys2Proof.Machine

/-! ## Tap capture -/

/-- The interval between two stamps on the wrapping clock (R85, R93). -/
def interval (now before : Word) : Nat := (now - before).toNat

/-- A ring that keeps the newest `cap` intervals, oldest first (R85, R96). -/
def pushRing (cap : Nat) (ring : List Nat) (i : Nat) : List Nat :=
  if ring.length < cap then ring ++ [i] else ring.drop (ring.length + 1 - cap) ++ [i]

/-- 6,000,000,000 divided by a beat length in microseconds, rounded half up (R87, R95). -/
def tempoOfBeat (beat : Nat) : Nat := (Config.doubledBeatDividend + beat) / (2 * beat)

/-- T_tap of a ring of intervals (R87). -/
def tapTempo (ring : List Nat) : Nat :=
  clampNat Config.tempoMin Config.tempoMax (tempoOfBeat (ring.sum / ring.length))

/-- The tap outcome that a PEDAL entry carries (R89). -/
structure TapOutcome where
  kind : TapKind
  count : Nat
  interval : Nat
  tTap : Nat
  sourceChanged : Bool
  deriving DecidableEq, Repr

/-- What becomes of a computed T_tap: written, written after taking the source to MANUAL, or withheld with
TAP_IGNORED (R88). The answer says kind ADDED or IGNORED and whether the source changed. -/
def Device.offerTap (d : Device) (tTap : Nat) : Device × TapKind × Bool :=
  if d.tempo.source = .manual then (d.writePendingTempo tTap .tap, .added, false)
  else if d.sync.state = .locked then (d.emit (.tapIgnored tTap (d.sync.estimate.getD 0)), .ignored, false)
  else ((d.setSource .manual).writePendingTempo tTap .tap, .added, true)

/-- A TAP press at this moment (R85, R88, R89). -/
def Device.takeTap (d : Device) : Device × TapOutcome :=
  match d.tap.last with
  | none =>
    ({ d with tap := { ring := [], last := some d.now } },
      { kind := .first, count := 0, interval := 0, tTap := 0, sourceChanged := false })
  | some t =>
    let i := interval d.now t
    if i < Config.tapMin ∨ Config.tapMax < i then
      ({ d with tap := { ring := [], last := some d.now } },
        { kind := .restart, count := 0, interval := i, tTap := 0, sourceChanged := false })
    else
      let ring := pushRing Config.tapRingCap d.tap.ring i
      let d' := { d with tap := { ring := ring, last := some d.now } }
      if ring.length < 2 then
        (d', { kind := .added, count := ring.length, interval := i, tTap := 0, sourceChanged := false })
      else
        let r := d'.offerTap (tapTempo ring)
        (r.1, { kind := r.2.1, count := ring.length, interval := i, tTap := tapTempo ring, sourceChanged := r.2.2 })

/-- The moment a tap series lapses (R86). -/
def TapCapture.lapseAt (t : TapCapture) : Option Word := t.last.map fun l => after l (Config.tapMax + 1)

/-! ## Sync follower -/

/-- Intervals a full ring holds (R91). -/
def SyncFollower.ringCap (s : SyncFollower) : Nat := 2 ^ s.window

/-- Changing the sync follower. -/
def Device.onSync (d : Device) (f : SyncFollower → SyncFollower) : Device := { d with sync := f d.sync }

/-- The estimate of an average: rounded half up, then the nearer end of the tempo range; the first clamp of a lock
writes SYNC_CLAMPED (R95). -/
def Device.setEstimate (d : Device) (average : Nat) : Device :=
  let raw := tempoOfBeat (d.sync.division * average)
  let est := clampNat Config.tempoMin Config.tempoMax raw
  let d' := d.onSync fun s => { s with average := some average, estimate := some est }
  if est = raw ∨ d.sync.clampNoted = true then d'
  else
    (d'.onSync fun s => { s with clampNoted := true }).emit (.syncClamped raw est d.sync.division average)

/-- The average of a ring: its sum div the ring's size (R92). -/
def SyncFollower.ringAverage (s : SyncFollower) : Nat := s.ring.sum / s.ringCap

/-- The ring is full: the follower locks (R94). -/
def Device.syncLock (d : Device) : Device :=
  let avg := d.sync.ringAverage
  let d1 := (d.onSync fun s => { s with clampNoted := false }).setEstimate avg
  (d1.onSync fun s => { s with state := .locked, lossLeft := some (4 * avg) }).emit
    (.syncLocked avg (d1.sync.estimate.getD 0) d.sync.division d.sync.window)

/-- A gathering begins, or begins again: the ring is emptied and the loss timer runs 2,000,000 µs; the estimate is
kept (R94, R96). -/
def SyncFollower.gather (s : SyncFollower) : SyncFollower :=
  { s with state := .gathering, ring := [], average := none, lossLeft := some Config.gatherLossTime }

/-- Whether an interval is in the window of an average: between half and twice it, ends included (R96). -/
def inWindow (i average : Nat) : Bool := decide (average ≤ 2 * i ∧ i ≤ 2 * average)

/-- An accepted edge in GATHERING (R94). -/
def Device.gatherEdge (d : Device) (i : Nat) : Device :=
  let d' := d.onSync fun s =>
    { s with ring := s.ring ++ [i], lossLeft := some Config.gatherLossTime }
  if d'.sync.ringCap ≤ d'.sync.ring.length then d'.syncLock else d'

/-- An accepted edge in LOCKED (R96). -/
def Device.lockedEdge (d : Device) (i : Nat) : Device :=
  if inWindow i (d.sync.average.getD 0) then
    let d1 := d.onSync fun s => { s with ring := pushRing s.ringCap s.ring i }
    let d2 := d1.setEstimate d1.sync.ringAverage
    d2.onSync fun s => { s with lossLeft := some (4 * d1.sync.ringAverage) }
  else d.onSync SyncFollower.gather

/-- An accepted edge by the follower's state; its stamp becomes the last edge time (R93, R94, R96). -/
def Device.acceptEdge (d : Device) : Device :=
  let i := match d.sync.lastEdge with
    | none => 0
    | some t => interval d.now t
  let d' := match d.sync.state with
    | .off => d
    | .absent => d.onSync SyncFollower.gather
    | .lost => d.onSync SyncFollower.gather
    | .gathering => d.gatherEdge i
    | .locked => d.lockedEdge i
  d'.onSync fun s => { s with lastEdge := some d.now }

/-- An edge on SYNC: not taken in OFF, a glitch within 100 µs of the last accepted edge, else accepted (R93). -/
def Device.takeEdge (d : Device) : Device :=
  if d.sync.state = .off then d
  else
    match d.sync.lastEdge with
    | none => d.acceptEdge
    | some t => if interval d.now t < Config.glitchTime then d else d.acceptEdge

/-- The loss timer has run out (R97). -/
def SyncFollower.lossDue (s : SyncFollower) : Bool := decide (s.lossLeft = some 0)

/-- One microsecond of the loss timer (R97). -/
def SyncFollower.microsecond (s : SyncFollower) : SyncFollower := { s with lossLeft := s.lossLeft.map (· - 1) }

/-- The loss timer expires: LOST, with SYNC_LOST and the SYNC sticky fault (R97). -/
def Device.loseSync (d : Device) : Device :=
  ((d.onSync fun s => { s with state := .lost, average := none, lossLeft := none }).emit
    (.syncLost d.sync.estimate d.sync.state d.sync.ring.length)).setFault .sync

/-- The follower set up afresh for its settings (R99, R100). -/
def SyncFollower.setUp (s : SyncFollower) : SyncFollower :=
  { s with
    state := if s.division = 0 then .off else .absent
    ring := [], lastEdge := none, estimate := none, average := none, clampNoted := false, lossLeft := none }

/-- The follower goes to OFF at a drain, its settings kept (R100). -/
def SyncFollower.toOff (s : SyncFollower) : SyncFollower :=
  { s with
    state := .off, ring := [], lastEdge := none, estimate := none, average := none, clampNoted := false, lossLeft := none }

/-- The settings of a RELOAD: set up afresh when division or window differs (R99). -/
def SyncFollower.reload (s : SyncFollower) (division window deadband : Nat) : SyncFollower :=
  let s' := { s with division := division, window := window, deadband := deadband }
  if s.division = division ∧ s.window = window then s' else s'.setUp

end Sys2Proof.Machine
end

