-- ==== Sys2Proof/Machine/Journal.lean ====
section
/-! DEFINITION. The journal writer (R154 to R164): the loss run, the watermark, and the taking of one entry, which is
one event of its own: class test, room test, any GAP, the write and the advance of the count (R157). -/

namespace Sys2Proof.Machine

/-- Changing the journal writer. -/
def Device.onJournal (d : Device) (f : JournalWriter → JournalWriter) : Device := { d with jw := f d.jw }

/-- The address of a journal slot for a written count (R154, R155). -/
def Device.journalAddress (d : Device) (written : Word) : Nat :=
  rigAddress d (d.layout.journal + written.toNat % d.layout.capacity * Config.entryBytes)

/-- An entry that is not written joins the loss run (R159, R163). -/
def LossRun.join (l : LossRun) (h : Handed) (memory : Bool) : LossRun :=
  { count := min Config.lossCap (l.count + 1)
    first := if l.count = 0 then some h.stamp.clock else l.first
    classes := l.classes ||| h.entry.cls.mask
    memory := l.memory || memory }

/-- An entry is lost (R159). -/
def Device.loseEntry (d : Device) (h : Handed) (memory : Bool) : Device :=
  d.onJournal fun jw => { jw with loss := jw.loss.join h memory }

/-- An entry is lost to an access failure (R163). -/
def Device.loseToFailure (d : Device) (h : Handed) : Device := (d.loseEntry h true).setFault .memory

/-- The unread count for a consumed count (R158). -/
def Device.unread (d : Device) (consumed : Word) : Nat := (d.jw.written - consumed).toNat

/-- The two watermark tests of an entry that was written in STOP mode, with the unread count before it (R164). -/
def Device.watermarkTests (d : Device) (watermark unread : Nat) : Device :=
  let armed := d.jw.armed || decide (unread < watermark)
  if armed && decide (watermark ≤ unread + 1) then (d.onJournal fun jw => { jw with armed := false }).latch .journalLevel
  else d.onJournal fun jw => { jw with armed := armed }

/-- The two write accesses of a journal entry: the body, then the sequence (R155, R199). -/
def journalWrites (addr : Nat) (body : List Byte) (sequence : Word) : List (Nat × List Byte) :=
  [(addr + 4, body), (addr, bytesOf 4 sequence.toNat)]

/-- Writing a body into the slot of the written count: the count advances when both writes were accepted, and in STOP
mode the watermark is tested. `consumed` is absent in OVERWRITE mode. The answer says whether it was written
(R155, R161, R163, R164). -/
def Device.writeBody (d : Device) (h : Handed) (body : List Byte) (consumed : Option Word) (run : PortRun) :
    Bool × Device × PortRun :=
  match portWriteAll run (journalWrites (d.journalAddress d.jw.written) body d.jw.written) with
  | (false, run') => (false, d, run')
  | (true, run') =>
    let d' := d.onJournal fun jw => { jw with written := jw.written + 1 }
    (true, match consumed with
      | none => d'
      | some c => d'.watermarkTests h.watermark (d.unread c), run')

/-- The ring has room for one more entry; in OVERWRITE mode it always has (R158, R161). -/
def Device.hasRoom (d : Device) (consumed : Option Word) : Bool :=
  match consumed with
  | none => true
  | some c => decide (d.unread c < d.layout.capacity)

/-- The entry itself, after any GAP: written, or lost for want of room or to a failure (R159, R163). -/
def Device.writeOwn (d : Device) (h : Handed) (consumed : Option Word) (run : PortRun) : Device × PortRun :=
  if d.hasRoom consumed then
    match d.writeBody h (entryBody h.entry.kindCode h.stamp h.entry.details) consumed run with
    | (true, d', run') => (d', run')
    | (false, d', run') => (d'.loseToFailure h, run')
  else (d.loseEntry h false, run)

/-- An entry that has room: a GAP first when one is due, then the entry (R159, R160, R161). -/
def Device.writeEntry (d : Device) (h : Handed) (consumed : Option Word) (run : PortRun) : Device × PortRun :=
  if d.jw.loss.count = 0 then d.writeOwn h consumed run
  else
    match d.writeBody h (entryBody gapKindCode h.stamp d.jw.loss.details) consumed run with
    | (true, d', run') => (d'.onJournal fun jw => { jw with loss := LossRun.clear }).writeOwn h consumed run'
    | (false, d', run') => (d'.loseToFailure h, run')

/-- An entry of STOP mode with the consumed count read for it (R158, R159, R162). -/
def Device.roomTest (d : Device) (h : Handed) (consumed : Word) (run : PortRun) : Device × PortRun :=
  if d.layout.capacity < d.unread consumed then ((d.loseEntry h false).setFault .journal, run)
  else if d.unread consumed = d.layout.capacity then (d.loseEntry h false, run)
  else d.writeEntry h (some consumed) run

/-- The journal writer's accesses for an entry that passed the class test, by the mode in force when it was handed
(R158, R161, R163). -/
def Device.recordEntry (d : Device) (h : Handed) (run : PortRun) : Device × PortRun :=
  match h.mode with
  | .overwrite => d.writeEntry h none run
  | .stop =>
    match portRead run (rigAddress d 44) 4 with
    | (none, run') => (d.loseToFailure h, run')
    | (some bs, run') => d.roomTest h (BitVec.ofNat 32 (natOf bs)) run'

/-- The class test, by the mask in force when the entry was handed (R157, R166). -/
def Handed.selected (h : Handed) : Bool := decide (h.mask &&& h.entry.cls.mask ≠ 0)

/-- The oldest entry leaves the queue; the first one handed after a RELOAD sets the level armed flag (R164, R166). -/
def JournalWriter.pop (jw : JournalWriter) (h : Handed) : JournalWriter :=
  { jw with queue := jw.queue.tail, armed := jw.armed || h.rearm }

/-- The taking of the oldest entry, one event of the journal writer (R157): its class test, and its record. -/
def Device.takeEntry (d : Device) (h : Handed) (run : PortRun) : Device × PortRun :=
  let d' := d.onJournal (·.pop h)
  if h.selected then d'.recordEntry h run else (d', run)

/-- Entries taken one after another, each an event of the journal writer of its own (R157). -/
def Device.takeEntries (d : Device) (run : PortRun) : List Handed → Device × PortRun
  | [] => (d, run)
  | h :: hs =>
    let r := d.takeEntry h run
    r.1.takeEntries r.2 hs

/-- Every entry that waits is taken, in the order handed (R157, R167). -/
def Device.takeAll (d : Device) (run : PortRun) : Device × PortRun := d.takeEntries run d.jw.queue

/-- Entries join the queue under the stamp and settings in force; the first carries a RELOAD's mark (R156, R166). -/
def JournalWriter.hand (jw : JournalWriter) (stamp : Stamp) (es : List Entry) : List Handed :=
  es.zipIdx.map fun e =>
    { entry := e.1, stamp := stamp, mode := jw.mode, watermark := jw.watermark, mask := jw.mask
      rearm := jw.rearm && decide (e.2 = 0) }

end Sys2Proof.Machine
end

