-- ==== Sys2Proof/Machine/Page.lean ====
section
/-! DEFINITION. The state page: its fields and image (R180, R198) and the beginning of its rewrites (R181, R182). -/

namespace Sys2Proof.Machine

/-! ## The fields (R180, R198): each with its size in bytes -/

/-- The engine state that the page shows: ONLINE, DRAINING or, at the last rewrite of a drain, OFFLINE (R180, R181). -/
def pageEngineCode (e : EngineState) : Nat :=
  match e with
  | .online => 2
  | .draining => 3
  | .offline => 0
  | .loading => 0
  | .faulted => 0

/-- The head edit count of the pending copy, or 0 (R198). -/
def ChangeUnit.pendingHead (c : ChangeUnit) : Nat :=
  match c.copy with
  | none => 0
  | some sc => sc.headCount.toNat

/-- The pending tempo, or 0 (R198). -/
def Tempo.pendingField (t : Tempo) : Nat :=
  match t.pending with
  | none => 0
  | some (v, _) => v

/-- The remaining beats of a glide, or 0 (R198). -/
def Tempo.glideField (t : Tempo) : Nat :=
  match t.glide with
  | none => 0
  | some g => g.remaining

/-- The fields at offsets 8 to 21: engine, scene picture, transport and meter (R198). -/
def Device.pageHeadFields (d : Device) : List (Nat × Nat) :=
  [ (1, pageEngineCode d.engine.state)
  , (1, changeStateByte d.change.state d.change.loadingFlag)
  , (1, sceneByte (d.change.active.map (·.number)))
  , (1, sceneByte (d.change.copy.map (·.number)))
  , (2, d.change.activation.toNat)
  , (2, position16 d.change.setPosition)
  , (4, d.change.pendingHead)
  , (1, d.tempo.transport.code)
  , (1, d.tempo.meter) ]

/-- The position at offsets 22 to 25, the one field whose change causes no rewrite (R181, R198). -/
def Device.pagePosition (d : Device) : List (Nat × Nat) :=
  let p := d.tempo.stampPosition
  [(2, p.bar), (1, p.beat), (1, p.tick)]

/-- The fields at offsets 26 to 43: tempo, sync, routing, journal, faults and setup clamps (R198). -/
def Device.pageTailFields (d : Device) : List (Nat × Nat) :=
  [ (1, d.tempo.source.code)
  , (1, d.sync.state.code)
  , (2, d.tempo.t)
  , (2, d.tempo.pendingField)
  , (2, d.sync.estimate.getD 0)
  , (1, d.tempo.glideField)
  , (1, d.stage.voiceCount)
  , (4, d.jw.written.toNat)
  , (1, d.regs.faults.toNat)
  , (1, d.clampSection.code)
  , (2, d.clampCount) ]

/-- The fields whose changes cause a rewrite: all but the position (R181). -/
def Device.pageFields (d : Device) : List (Nat × Nat) := d.pageHeadFields ++ d.pageTailFields

/-- Fields as bytes, in order. -/
def encodeFields (fs : List (Nat × Nat)) : List Byte := fs.flatMap fun f => bytesOf f.1 f.2

/-- The body of the page: offsets 4 to 59 (R198). -/
def Device.pageBody (d : Device) : List Byte :=
  bytesOf 4 Config.pageMagic ++ encodeFields (d.pageHeadFields ++ d.pagePosition ++ d.pageTailFields) ++ bytesOf 16 0

/-- The whole page under an edit count: head, body and tail (R181, R198). -/
def Device.pageImage (d : Device) (count : Word) : List Byte :=
  bytesOf 4 count.toNat ++ d.pageBody ++ bytesOf 4 count.toNat

/-- The write accesses of a rewrite at the page's bus address: head, body, tail (R181). -/
def pageWrites (addr : Nat) (image : List Byte) : List (Nat × List Byte) :=
  [(addr, image.take 4), (addr + 4, (image.drop 4).take 56), (addr + 60, (image.drop 60).take 4)]

/-! ## Rewrites (R181, R182) -/

/-- Changing the state page writer. -/
def Device.onPage (d : Device) (f : PageWriter → PageWriter) : Device := { d with page := f d.page }

/-- A rewrite begins: the edit count advances, and every field is taken as it stands (R181; log 10). -/
def Device.beginRewrite (d : Device) : Device :=
  let count := d.page.editCount + 1
  d.onPage fun p =>
    { p with editCount := count, running := some (d.pageImage count), owed := false, retryAt := none }

/-- A cause of a rewrite: one begins, or one more is owed while one is under way (R181). -/
def Device.rewriteCaused (d : Device) : Device :=
  if d.page.running.isSome then d.onPage fun p => { p with owed := true } else d.beginRewrite

end Sys2Proof.Machine
end

