-- ==== Sys2Proof/Machine/Engine.lean ====
section
/-! DEFINITION. The engine (R187 to R189), ONLINE entry (R20, R23, R45, R59, R82, R90, R100, R114, R140, R145, R167,
R171, R183), what ends an event (R156, R181, R189), and device reset (R193). -/

namespace Sys2Proof.Machine

/-! ## Small helpers -/

/-- Changing the engine. -/
def Device.onEngine (d : Device) (f : Engine → Engine) : Device := { d with engine := f d.engine }

/-- Changing the request unit. -/
def Device.onReq (d : Device) (f : RequestUnit → RequestUnit) : Device := { d with req := f d.req }

/-- The engine is ONLINE or DRAINING: the state page is kept and the journal takes entries (R157, R181). -/
def EngineState.isRunning (e : EngineState) : Bool :=
  match e with
  | .online => true
  | .draining => true
  | .offline => false
  | .loading => false
  | .faulted => false

/-- No access of the memory port is under way or waiting; LOADING reads while this holds (R168; log 13). The journal
writer makes none outside ONLINE and DRAINING (R157). -/
def Device.portFree (d : Device) : Bool :=
  d.change.reads.isEmpty && d.req.scan.isNone && d.req.completions.isEmpty && d.page.running.isNone

/-! ## LOADING (R182, R185, R187) -/

/-- LOADING begins: the field code becomes 0, and a page retry still owed is abandoned (R182, R185). -/
def Device.beginLoading (d : Device) : Device :=
  { d with
    engine := { d.engine with state := .loading }
    regs := { d.regs with fieldCode := 0 }
    page := { d.page with retryAt := none, owed := d.page.owed && d.page.running.isSome } }

/-- A header read of the present LOADING is under way: the port is free of everything else (R168; log 13). -/
def Device.headerReadUnderWay (d : Device) : Bool :=
  decide (d.engine.state = .loading) && d.portFree && decide (d.engine.abandonedLoads = 0)

/-- LOADING abandoned by a cleared enable: OFFLINE; a read under way runs to its completion (R187; log 15). -/
def Device.abandonLoading (d : Device) : Device :=
  d.onEngine fun e =>
    { e with state := .offline, abandonedLoads := e.abandonedLoads + if d.headerReadUnderWay then 1 else 0 }

/-- LOADING ends in FAULTED with a sticky fault and a field code (R170). -/
def Device.loadingFailed (d : Device) (f : StickyFault) (code : Nat) : Device :=
  ({ d with engine := { d.engine with state := .faulted }
            regs := { d.regs with fieldCode := BitVec.ofNat 3 code } }).setFault f

/-! ## ONLINE entry -/

/-- The edit count and the written count that continue from the state page found at LOADING: those of a page with the
magic and equal edit counts, otherwise 0 (R167, R181). -/
def continuedCounts (page : Option (List Byte)) : Word × Word :=
  match page with
  | none => (0, 0)
  | some p =>
    if fieldAt p 4 4 = Config.pageMagic ∧ fieldAt p 0 4 = fieldAt p 60 4 then
      (BitVec.ofNat 32 (fieldAt p 0 4), BitVec.ofNat 32 (fieldAt p 36 4))
    else (0, 0)

/-- The click line setup of C`n` in a header (R195). -/
def headerClick (h : List Byte) (n : Nat) : List Byte := clickBytes ((h.drop 48).take 64) n

/-- The pedal setup of F`n` in a header (R195). -/
def headerPedal (h : List Byte) (n : Nat) : List Byte := pedalBytes ((h.drop 112).take 32) n

/-- The journal settings of a header (R154, R195). -/
def headerJournal (h : List Byte) : (JournalMode × Nat × BitVec 3) × Nat :=
  journalSettingsOf (fieldAt h 30 1) (fieldAt h 31 1) (fieldAt h 32 2) (layoutOf h).capacity

/-- The setting fields of a header that were changed, the setup clamps of LOADING (R171). -/
def headerClamps (h : List Byte) : Nat :=
  (progSelectOf (fieldAt h 34 1) (fieldAt h 35 1)).2
    + changed (clampNat Config.tempoMin Config.tempoMax (fieldAt h 36 2)) (fieldAt h 36 2)
    + changed (clampNat 1 16 (fieldAt h 38 1)) (fieldAt h 38 1)
    + (syncSettingsOf ((h.drop 40).take 4)).2
    + ((List.range 4).map fun n => clickSetupClamps (headerClick h n)).sum
    + ((List.range 8).map fun n => pedalSetupClamps (headerPedal h n)).sum
    + (headerJournal h).2

/-- The polarity of M`n` in a header's polarity byte (R57, R195). -/
def polarityBit (b n : Nat) : Polarity := polarityOf ((byteOf b).getLsbD n)

/-- The pin stands at its pressed level: low under NORMAL, high under INVERTED (R143). -/
def Pedal.atPressedLevel (p : Pedal) : Bool := p.high == decide (p.setup.polarity = .inverted)

/-- Starting a pedal's debounce timer (R144). -/
def Pedal.startTimer (p : Pedal) (now : Word) : Pedal :=
  { p with timer := some (after now (p.setup.debounce * 1000)) }

/-- A pedal under a setup just taken: RELEASED, with its timer started when it stands at the pressed level (R145,
R152). -/
def Pedal.enter (p : Pedal) (setup : PedalSetup) (now : Word) : Pedal :=
  let p' : Pedal := { p with pressed := false, timer := none, setup := setup }
  if p'.atPressedLevel then p'.startTimer now else p'

/-- The tempo generator at ONLINE entry (R82). -/
def Tempo.enter (h : List Byte) : Tempo :=
  { Tempo.reset with
    t := clampNat Config.tempoMin Config.tempoMax (fieldAt h 36 2)
    meter := clampNat 1 16 (fieldAt h 38 1) }

/-- The sync follower at ONLINE entry (R100). -/
def SyncFollower.enter (h : List Byte) : SyncFollower :=
  let s := (syncSettingsOf ((h.drop 40).take 4)).1
  { SyncFollower.reset with division := s.1, window := s.2.1, deadband := s.2.2 }.setUp

/-- The stage at ONLINE entry, under the polarities of the header (R45, R59). -/
def Stage.enter (st : Stage) (h : List Byte) : Stage :=
  { st with
    voices := Stage.reset.voices
    dampers := Stage.reset.dampers
    ports := Vector.ofFn fun n : Fin 6 => { ModulePort.reset with polarity := polarityBit (fieldAt h 39 1) n.val }
    deferrals := [] }

/-- The click unit at ONLINE entry (R114). -/
def ClickUnit.enter (h : List Byte) : ClickUnit :=
  { lines := Vector.ofFn fun n : Fin 4 => { ClickLine.reset with setup := clickSetupOf (headerClick h n.val) }
    mute := false }

/-- The journal writer at ONLINE entry (R167). -/
def JournalWriter.enter (h : List Byte) (written : Word) : JournalWriter :=
  let s := (headerJournal h).1
  { mode := s.1, watermark := s.2.1, mask := s.2.2, written := written, loss := LossRun.clear, armed := true
    rearm := false, queue := [] }

/-- ONLINE entry from a header without layout fault and the state page found (R187). The state page is written, and
the request unit keeps its retry list (R181, R183). -/
def Device.enterOnline (d : Device) (h : List Byte) (page : Option (List Byte)) : Device :=
  { d with
    engine := { d.engine with state := .online, restart := false, drainAt := none }
    layout := layoutOf h
    progSelect := (progSelectOf (fieldAt h 34 1) (fieldAt h 35 1)).1
    clampCount := headerClamps h
    clampSection := .all
    keyPorts := Vector.replicate 4 KeyPort.reset
    stage := d.stage.enter h
    tempo := Tempo.enter h
    click := ClickUnit.enter h
    change := ChangeUnit.reset
    pedals := Vector.ofFn fun n : Fin 8 => d.pedals[n].enter (pedalSetupOf (headerPedal h n.val)) d.now
    tap := TapCapture.reset
    sync := SyncFollower.enter h
    req := { d.req with notice := true, scan := none, completions := [] }
    page := { d.page with editCount := (continuedCounts page).1, running := none, owed := false, retryAt := none }
    jw := JournalWriter.enter h (continuedCounts page).2
    pageCause := true }

/-! ## DRAINING (R188, R189) -/

/-- DRAINING begins: the timer starts and the blocks are stopped in the order of R188. DESIGN CHOICE (log 40): within its
third step, whose parts R83, R112 and R188 do not order, the transport stops, then the glide is cancelled, and then the
click lines offer their KEY_UPs, so GLIDE_CANCELLED comes after TRANSPORT and TEMPO and before any CLICK_DROP. -/
def Device.beginDrain (d : Device) : Device :=
  let d0 : Device :=
    { d with
      engine := { d.engine with state := .draining, restart := false, drainAt := some (after d.now Config.drainTime) }
      keyPorts := Vector.replicate 4 KeyPort.reset }
  let d1 := d0.drainChange
  let d2 := (d1.stopTempo .drain).cancelGlide.clickStop.changeStop
  let d3 := d2.onStage Stage.releaseAll
  { d3 with sync := d3.sync.toOff, tap := TapCapture.reset }

/-- A pedal at the end of a drain: RELEASED, its timer stopped, no report (R145). -/
def Pedal.release (p : Pedal) : Pedal := { p with pressed := false, timer := none }

/-- The drain ends: OFFLINE, the timer stopped, the pedals RELEASED; a restart mark begins LOADING at once (R189). -/
def Device.endDrain (d : Device) : Device :=
  let d' : Device :=
    { d with
      engine := { d.engine with state := .offline, restart := false, drainAt := none }
      pedals := d.pedals.map Pedal.release }
  if d.engine.restart then d'.beginLoading else d'

/-- The drain limit at the stage: the entries are discarded without a KEY_UP, and each port keeps only the frame on
its line (R44, R61). -/
def Stage.drainLimit (st : Stage) : Stage :=
  { st with voices := Stage.reset.voices, deferrals := [], ports := st.ports.map ModulePort.discard }

/-- The drain timer expires first: the DRAIN fault, and everything that remains is discarded (R189). -/
def Device.drainLimit (d : Device) : Device :=
  ({ d with engine := { d.engine with drainAt := none }, stage := d.stage.drainLimit }).setFault .drain

/-! ## The enable (R187) -/

/-- The engine takes the enable being set (R187). -/
def Device.enableSet (d : Device) : Device :=
  match d.engine.state with
  | .offline => d.beginLoading
  | .draining => d.onEngine fun e => { e with restart := true }
  | .loading => d
  | .online => d
  | .faulted => d

/-- The engine takes the enable being cleared (R187). -/
def Device.enableCleared (d : Device) : Device :=
  match d.engine.state with
  | .loading => d.abandonLoading
  | .online => d.beginDrain
  | .draining => d.onEngine fun e => { e with restart := false }
  | .faulted => d.onEngine fun e => { e with state := .offline }
  | .offline => d

/-! ## What ends an event -/

/-- The entries that an event hands over, when the engine was ONLINE or DRAINING as it began, wait to be taken in the
order handed; the first carries the mark of a RELOAD (R157, R166; log 8). -/
def Device.journalSettle (d : Device) (before : EngineState) : Device :=
  let handed := if before.isRunning then d.stage.entries else []
  { d with
    jw := { d.jw with
      queue := d.jw.queue ++ d.jw.hand d.eventStamp handed
      rearm := d.jw.rearm && handed.isEmpty }
    stage := { d.stage with entries := [] } }

/-- Whether the drain is over: the voice table and every module port are empty (R60, R189). -/
def Device.drainOver (d : Device) : Bool := decide (d.engine.state = .draining) && d.stage.isQuiet

/-- Whether the page is written after an event: in ONLINE and DRAINING, and at the end of a drain (R181; log 10).
DESIGN CHOICE (log 41): in the OFFLINE after a drain a changed field, as an ACK of a fault changes it, begins no rewrite
and marks none owed, also while the failed last rewrite awaits its retry; R182 leaves open whether it is a next cause. -/
def Device.pageWritten (d : Device) (before : Device) : Bool :=
  d.engine.state.isRunning || before.engine.state.isRunning

/-- Whether the event caused a rewrite: a marked cause, the end of a drain, at its own entry too, or a changed field
(R181, R189). DESIGN CHOICE (log 10): the fields before and after the event are compared, so one that changes and returns
within it, as the voice count does at a KEY_DOWN that retriggers, is no change. -/
def Device.pageDue (d : Device) (before : Device) : Bool :=
  d.pageCause || (before.engine.state.isRunning && !d.engine.state.isRunning)
    || decide (d.pageFields ≠ before.pageFields)

/-- The state page takes the causes of the event (R181; log 10). -/
def Device.pageSettle (d : Device) (before : Device) : Device :=
  let d' : Device := { d with pageCause := false }
  if d'.pageWritten before && d.pageDue before then d'.rewriteCaused else d'

/-- What ends every event but for the state page: its stamp shows the position it brought about, its entries are handed
over, and a drain that it left over ends. The entries that wait then are taken first, in DRAINING still, as the journal
writer takes each entry as it is handed (R157, R167, R189). DESIGN CHOICE (log 8): what their accesses meet is free. -/
def State.endEvent (s : State) (d : Device) (m : Mem) (page : Device → Device) : State :=
  let h := d.restamp.journalSettle s.dev.engine.state
  if h.drainOver then
    let r := h.takeAll { mem := m, bus := Config.drainBus s.drains }
    { s with dev := page r.1.endDrain, mem := r.2.mem, drains := s.drains + 1 }
  else { s with dev := page h, mem := m }

/-- What ends an event: the state page takes its causes last (R181). -/
def State.settle (s : State) (d : Device) (m : Mem) : State := s.endEvent d m fun d => d.pageSettle s.dev

/-- A command that touches no memory: it acts when the part is out of reset and the event is due (log 3). -/
def State.event (s : State) (due : Bool) (body : Device → Device) : State :=
  if s.resetLow || !due then s else s.settle (body s.dev.beginEvent) s.mem

/-- A command that makes accesses of the memory port: the memory goes through them with the bus it meets (log 4). -/
def State.portEvent (s : State) (due : Bool) (bus : Bus) (body : Device → PortRun → Device × PortRun) : State :=
  if s.resetLow || !due then s
  else
    let r := body s.dev.beginEvent { mem := s.mem, bus := bus }
    s.settle r.1 r.2.mem

/-! ## Device reset (R193) -/

/-- The part after a device reset: every block at its reset state, the pins of the pedals as they stand, the clock as
given (R193). -/
def Device.afterReset (d : Device) (clock : Word) : Device :=
  { Device.reset with
    stage := { Stage.reset with clock := clock }
    pedals := d.pedals.map fun p => { Pedal.reset with high := p.high } }

/-- The address of the state page (R185). -/
def Device.pageAddress (d : Device) : Nat := rigAddress d d.layout.statePage

/-- The bus of an operation that a reset cuts short after the accesses given: they are made, and the one under way then
leaves nothing behind (R193; log 22). -/
def struckBus (made : Bus) : Bus :=
  made.map (fun b => { b with fails := false }) ++ [{ hostWrites := [], fails := true, landed := 0 }]

/-- The memory as an operation's accesses meet it up to the reset. -/
def struckRun (made : Bus) (m : Mem) : PortRun := { mem := m, bus := struckBus made }

/-- How many accesses an operation makes when those given and every later one are accepted; no operation makes more
than five (R155, R159, R177, R181). -/
def accessCount (op : PortRun → PortRun) (made : Bus) (m : Mem) : Nat :=
  let whole : Bus := made.map (fun b => { b with fails := false }) ++ List.replicate 5 quietAccess
  whole.length - (op { mem := m, bus := whole }).bus.length

/-- An operation cut short: it is struck at its last access at the latest, so that a sequence field, a DONE or a tail
that is written last was not written (R167, R182, R183, R193; log 22). -/
def cutOperation (op : PortRun → PortRun) (made : Bus) (m : Mem) : Mem :=
  (op (struckRun (made.take (accessCount op made m - 1)) m)).mem

/-- The write accesses of an operation cut short (R193). -/
def cutWrites (ws : List (Nat × List Byte)) (made : Bus) (m : Mem) : Mem :=
  cutOperation (fun r => (portWriteAll r ws).2) made m

/-- The rewrite cut short (R182; log 22). -/
def cutPage (d : Device) (made : Bus) (m : Mem) : Mem :=
  match d.page.running with
  | none => m
  | some image => cutWrites (pageWrites d.pageAddress image) made m

/-- The completion of a slot cut short: the oldest one that is first written (R183; log 22). -/
def cutSlot (d : Device) (m : Mem) (cut : Fin 8 × Bus) : Mem :=
  match d.req.completions.find? fun c => decide (c.slot = cut.1) with
  | none => m
  | some c => cutWrites (completionWrites c) cut.2 m

/-- The retry of a slot that has come due (R179). -/
def Device.retryDue (d : Device) (slot : Fin 8) : Option Retry :=
  d.req.retries.find? fun r => decide (r.completion.slot = slot) && reached d.now r.dueAt

/-- The retry of a completion cut short (R179, R183; log 22). -/
def cutRetry (d : Device) (m : Mem) (cut : Fin 8 × Bus) : Mem :=
  match d.retryDue cut.1 with
  | none => m
  | some r => cutWrites (completionWrites r.completion) cut.2 m

/-- The taking of the oldest journal entry cut short: what its read, any GAP and its body had done, by the room test
and the mode of that entry; the sequence that it writes last was not written (R159, R167; log 22). -/
def cutJournal (d : Device) (made : Bus) (m : Mem) : Mem :=
  match d.jw.queue with
  | [] => m
  | h :: _ => cutOperation (fun r => (d.takeEntry h r).2) made m

/-- The memory when a device reset cuts short what was under way (R168, R193). -/
def cutShort (d : Device) (cut : ResetCut) (m : Mem) : Mem :=
  cutJournal d cut.journal (cut.retries.foldl (cutRetry d) (cut.slots.foldl (cutSlot d) (cutPage d cut.page m)))

/-- A cut that finds nothing half done. -/
def ResetCut.clean : ResetCut := { page := [], slots := [], retries := [], journal := [] }

/-- A device reset of the whole machine; the clock counts on, or starts at 0 at power-on (R193). -/
def State.deviceReset (s : State) (cut : ResetCut) (clock : Word) (low : Bool) : State :=
  { s with dev := s.dev.afterReset clock, resetLow := low, mem := cutShort s.dev cut s.mem }

end Sys2Proof.Machine
end

