-- ==== Sys2Proof/Machine/CopyCommands.lean ====
section
/-! DEFINITION. The scene copy's commands: the set list entry read (R12), the scene record reads with their retries
(R14 to R17), and abandoned reads (R19). -/

namespace Sys2Proof.Machine

/-! ## Reading -/

/-- The rig area offset of a set list entry (R11, R195). -/
def setListOffset (d : Device) (p : Nat) : Nat := d.layout.setList + 2 * p

/-- The rig area offset of a scene record (R1, R197). -/
def sceneOffset (d : Device) (n : BitVec 7) : Nat := d.layout.sceneTable + n.toNat * Config.sceneBytes

/-- Reads of `(offset, size)` parts in order, up to the first that fails: the bytes read, or the rig area offset of the
failed access (R14, R16). -/
def readParts (d : Device) : List (Nat × Nat) → PortRun → Except Nat (List (List Byte)) × PortRun
  | [], r => (.ok [], r)
  | (off, n) :: parts, r =>
    match portRead r (rigAddress d off) n with
    | (none, r') => (.error off, r')
    | (some bs, r') =>
      match readParts d parts r' with
      | (.ok rest, r'') => (.ok (bs :: rest), r'')
      | (.error e, r'') => (.error e, r'')

/-- The three parts of a scene read: tail, body, head (R14). -/
def sceneParts (off : Nat) : List (Nat × Nat) := [(off + 380, 4), (off + 4, 376), (off, 4)]

/-- The whole record of a scene read's three parts, in the record's order (R197). -/
def recordOf : List (List Byte) → List Byte
  | [tail, body, head] => head ++ body ++ tail
  | _ => []

/-- The read at the front has completed and leaves the port. -/
def ChangeUnit.popRead (c : ChangeUnit) : ChangeUnit := { c with reads := c.reads.tail }

/-- The next read of the change unit on the port. DESIGN CHOICE (log 35): any waiting access may be served next (R168);
the model serves the change unit's reads in the order asked, a read of an abandoned copy before a later cue's. -/
def ChangeUnit.nextRead (c : ChangeUnit) : Option CopyRead := c.reads.head?

/-! ## The set list entry (R12) -/

/-- The set list entry of the cue in progress has been read: an entry above 127 is BAD_SCENE 30, any other begins the
scene read (R12, R14). -/
def Device.setListEntryRead (d : Device) (ld : Load) (entry : Nat) : Device :=
  if 127 < entry then d.copyFailed ld .badScene 30
  else
    let n := BitVec.ofNat 7 entry
    d.onChange fun c =>
      { c with
        load := some { ld with scene := some n }
        reads := c.reads ++ [{ target := .sceneRecord n, abandoned := false }] }

/-- A set list read completes. The data of an abandoned read are discarded, but its failure is reported
(R12, R16, R19). -/
def Device.setListRead (d : Device) (rd : CopyRead) (p : Nat) (run : PortRun) : Device × PortRun :=
  let d' := d.onChange ChangeUnit.popRead
  match readParts d [(setListOffset d p, 2)] run, d.change.load with
  | (.error off, run'), some ld =>
    let failed := d'.memoryFailure off .setListRead
    (if rd.abandoned then failed else failed.copyFailed ld .memory 0, run')
  | (.error off, run'), none => (d'.memoryFailure off .setListRead, run')
  | (.ok parts, run'), some ld => (if rd.abandoned then d' else d'.setListEntryRead ld (natOf parts.flatten), run')
  | (.ok _, run'), none => (d', run')

/-- SET_LIST_READ_COMPLETION (R12). -/
def execSetListReadCompletion (bus : Bus) (s : State) : Host.Outcome State Fault Refusal :=
  match s.dev.change.nextRead with
  | some { target := .setListEntry p, abandoned := a } =>
    .next (s.portEvent true bus fun d run => d.setListRead { target := .setListEntry p, abandoned := a } p run)
  | _ => .next s

/-! ## The scene record (R14 to R17) -/

/-- A read whose edit counts are unequal: another read is due 1,000 µs later, or the fourth refuses with TORN (R15). -/
def Device.tornRead (d : Device) (ld : Load) : Device :=
  if ld.reads + 1 < Config.maxReads then
    d.onChange fun c =>
      { c with load := some { ld with reads := ld.reads + 1, retryAt := some (after d.now Config.retryTime) } }
  else d.copyFailed ld .torn (ld.reads + 1)

/-- A whole scene read of the cue in progress: unequal counts, a structural error, or a pending copy (R14, R15, R10,
R17). -/
def Device.sceneRecordRead (d : Device) (ld : Load) (n : BitVec 7) (rec : List Byte) : Device :=
  let ld' := { ld with headRead := BitVec.ofNat 32 (fieldAt rec 0 4) }
  if fieldAt rec 0 4 ≠ fieldAt rec 380 4 then d.tornRead ld'
  else
    match sceneError rec with
    | some value => d.copyFailed ld' .badScene value
    | none => d.copyFormed ld' (sceneCopyOf n ld.position rec)

/-- A scene read completes. The data of an abandoned read are discarded, but its failure is reported
(R14, R16, R19). -/
def Device.sceneRead (d : Device) (rd : CopyRead) (n : BitVec 7) (run : PortRun) : Device × PortRun :=
  let d' := d.onChange ChangeUnit.popRead
  match readParts d (sceneParts (sceneOffset d n)) run, d.change.load with
  | (.error off, run'), some ld =>
    let failed := d'.memoryFailure off .sceneCopy
    (if rd.abandoned then failed else failed.copyFailed ld .memory 0, run')
  | (.error off, run'), none => (d'.memoryFailure off .sceneCopy, run')
  | (.ok parts, run'), some ld => (if rd.abandoned then d' else d'.sceneRecordRead ld n (recordOf parts), run')
  | (.ok _, run'), none => (d', run')

/-- SCENE_READ_COMPLETION (R14, R15, R16, R117, R118). -/
def execSceneReadCompletion (bus : Bus) (s : State) : Host.Outcome State Fault Refusal :=
  match s.dev.change.nextRead with
  | some { target := .sceneRecord n, abandoned := a } =>
    .next (s.portEvent true bus fun d run => d.sceneRead { target := .sceneRecord n, abandoned := a } n run)
  | _ => .next s

/-- A further read of the scene begins (R15). -/
def ChangeUnit.retryRead (c : ChangeUnit) : ChangeUnit :=
  match c.load with
  | some ld =>
    match ld.scene with
    | some n =>
      { c with
        load := some { ld with retryAt := none }
        reads := c.reads ++ [{ target := .sceneRecord n, abandoned := false }] }
    | none => c
  | none => c

/-- The moment of the further read that a copy waits for (R15). -/
def ChangeUnit.retryAt (c : ChangeUnit) : Option Word := c.load.bind (·.retryAt)

/-- SCENE_READ_RETRY (R15). -/
def execSceneReadRetry (s : State) : Host.Outcome State Fault Refusal :=
  .next (s.event (timerDue s.dev.now s.dev.change.retryAt) fun d => d.onChange ChangeUnit.retryRead)

end Sys2Proof.Machine
end

