-- ==== Sys2Proof/Machine/EngineCommands.lean ====
section
/-! DEFINITION. The engine's commands: the reads of LOADING (R170, R171, R187), the ends of a drain (R189), and device
reset by power-on and by the RESET pin (R193). -/

namespace Sys2Proof.Machine

/-- The header read of an abandoned LOADING completes: its data are discarded, and its failure sets MEMORY (R187; log
15). -/
def Device.abandonedRead (d : Device) (run : PortRun) : Device × PortRun :=
  let d' := d.onEngine fun e => { e with abandonedLoads := e.abandonedLoads - 1 }
  match portRead run (rigAddress d 0) Config.headerBytes with
  | (none, run') => (d'.setFault .memory, run')
  | (some _, run') => (d', run')

/-- A header without layout fault: the state page is read, and ONLINE is entered (R167, R170, R181, R187). -/
def Device.loadPage (d : Device) (h : List Byte) (run : PortRun) : Device × PortRun :=
  match portRead run (rigAddress d (layoutOf h).statePage) Config.pageBytes with
  | (none, run') => ((d.setFault .memory).enterOnline h none, run')
  | (some page, run') => (d.enterOnline h (some page), run')

/-- The header read of LOADING completes: FAULTED with MEMORY or with HEADER and the field code, or on to the page
(R170). -/
def Device.loadHeader (d : Device) (run : PortRun) : Device × PortRun :=
  match portRead run (rigAddress d 0) Config.headerBytes with
  | (none, run') => (d.loadingFailed .memory 0, run')
  | (some h, run') =>
    match layoutFault h with
    | some code => (d.loadingFailed .header code, run')
    | none => d.loadPage h run'

/-- HEADER_READ_COMPLETION (R170, R171, R187). -/
def execHeaderReadCompletion (bus : Bus) (s : State) : Host.Outcome State Fault Refusal :=
  if 0 < s.dev.engine.abandonedLoads then .next (s.portEvent true bus Device.abandonedRead)
  else .next (s.portEvent s.dev.headerReadUnderWay bus Device.loadHeader)

/-- DRAIN_END (R189): an event with no work of its own, at whose end the drain ends. The event that empties the part
makes it within itself (log 31). -/
def execDrainEnd (s : State) : Host.Outcome State Fault Refusal := .next (s.event s.dev.drainOver id)

/-- Whether the drain limit has come with something left (R189). -/
def Device.drainLimitDue (d : Device) : Bool :=
  decide (d.engine.state = .draining) && timerDue d.now d.engine.drainAt && !d.stage.isQuiet

/-- DRAIN_LIMIT (R44, R61, R189). -/
def execDrainLimit (s : State) : Host.Outcome State Fault Refusal :=
  .next (s.event s.dev.drainLimitDue Device.drainLimit)

/-- POWER_ON: a device reset; the clock starts at 0 (R193; log 30). -/
def execPowerOn (cut : ResetCut) (s : State) : Host.Outcome State Fault Refusal :=
  .next (s.deviceReset cut 0 s.resetLow)

/-- RESET_PIN_ASSERT: a device reset; the part stays in it while the pin is low, and the clock counts on (R193). -/
def execResetPinAssert (cut : ResetCut) (s : State) : Host.Outcome State Fault Refusal :=
  .next (s.deviceReset cut s.dev.now true)

/-- RESET_PIN_RELEASE: the part leaves reset, in OFFLINE (R193). -/
def execResetPinRelease (s : State) : Host.Outcome State Fault Refusal := .next { s with resetLow := false }

end Sys2Proof.Machine
end

