-- ==== Sys2Proof/Machine/KeyCommands.lean ====
section
/-! DEFINITION. The key port commands: bytes and frames (R21 to R23), and the routing unit's arrivals (R33 to R42) with
the program select (R40, R120). -/

namespace Sys2Proof.Machine

/-! ## The frame assembler (R21, R22) -/

/-- A discarded byte or frame: its reason and the bytes discarded (R22). -/
abbrev LineFaultReport := LineReason × Nat

/-- A data byte in COLLECTING: it joins the partial frame, and the fourth completes it (R21, R22). -/
def KeyPort.collect (kp : KeyPort) (now : Word) (byte : Byte) : KeyPort × Option LineFaultReport :=
  match kp.held with
  | [b0, b1, b2] =>
    let kp' : KeyPort := { kp with asm := .waiting, held := [] }
    match checkFrame b0 b1 b2 byte with
    | .error reason => (kp', some (reason, 4))
    | .ok m => ({ kp' with handed := kp.handed ++ [{ msg := m, clock := now }] }, none)
  | held => ({ kp with held := held ++ [byte] }, none)

/-- A byte at a frame assembler (R21, R22). -/
def KeyPort.takeByte (kp : KeyPort) (now : Word) (byte : Byte) (stopBit : Bool) : KeyPort × Option LineFaultReport :=
  if !stopBit then ({ kp with asm := .seeking, held := [] }, some (.badStop, kp.held.length + 1))
  else if isStartByte byte then
    ({ kp with asm := .collecting, held := [byte] },
      if kp.asm = .collecting then some (.cutShort, kp.held.length) else none)
  else
    match kp.asm with
    | .seeking => (kp, none)
    | .waiting => ({ kp with asm := .seeking, held := [] }, some (.stray, 1))
    | .collecting => kp.collect now byte

/-- The report of a line fault: its entry and the LINE sticky fault (R22). -/
def Device.reportLineFault (d : Device) (port : Fin 4) (r : Option LineFaultReport) : Device :=
  match r with
  | none => d
  | some (reason, bytes) => (d.emit (.lineFault port reason bytes)).setFault .line

/-- A byte on a key port (R21, R22). -/
def Device.keyByte (d : Device) (port : Fin 4) (byte : Byte) (stopBit : Bool) : Device :=
  let r := d.keyPorts[port].takeByte d.now byte stopBit
  { d with keyPorts := d.keyPorts.set port r.1 }.reportLineFault port r.2

/-- KEY_BYTE_ARRIVAL (R21, R22, R23). Outside ONLINE every byte is discarded without report. -/
def execKeyByteArrival (port : Fin 4) (byte : Byte) (stopBit : Bool) (s : State) :
    Host.Outcome State Fault Refusal :=
  .next (s.event (decide (s.dev.engine.state = .online)) fun d => d.keyByte port byte stopBit)

/-! ## Arrivals at the routing unit -/

/-- The arrival that a key port has handed on next (log 12). -/
def Device.nextArrival (d : Device) (port : Fin 4) : Option Arrival := d.keyPorts[port].handed.head?

/-- The arrival leaves its key port, and the event bears its stamp: the clock at its fourth byte (R21, R81). -/
def Device.takeArrival (d : Device) (port : Fin 4) (a : Arrival) : Device :=
  { d with
    keyPorts := vecModify d.keyPorts port fun kp => { kp with handed := kp.handed.tail }
    eventStamp := { d.eventStamp with clock := a.clock } }

/-- A row of the routing unit takes the next arrival of a key port when it is of the row's kind, while the engine is
ONLINE (R23, R43; log 12). -/
def State.arrival (s : State) (port : Fin 4) (fits : Message → Bool) (body : Message → Device → Device) : State :=
  match s.dev.nextArrival port with
  | none => s
  | some a =>
    s.event (decide (s.dev.engine.state = .online) && fits a.msg) fun d => body a.msg (d.takeArrival port a)

/-- The source of a message on a key port (R24). -/
def sourceOf (port : Fin 4) (m : Message) : Source := { port := port, channel := m.channel, key := m.data1 }

/-- A KEY_DOWN with velocity 1 or more (R33). -/
def isKeyDown (m : Message) : Bool := decide (m.kind = .keyDown) && decide (m.data2 ≠ 0)

/-- A KEY_UP, or a KEY_DOWN with velocity 0 (R36). -/
def isKeyUp (m : Message) : Bool := decide (m.kind = .keyUp) || (decide (m.kind = .keyDown) && decide (m.data2 = 0))

/-- KEY_DOWN (R33, R34, R35, R42). -/
def execKeyDown (port : Fin 4) (s : State) : Host.Outcome State Fault Refusal :=
  .next (s.arrival port isKeyDown fun m d =>
    d.onStage fun st => st.keyDown d.change.zones (sourceOf port m) m.data2)

/-- KEY_UP (R36, R42). -/
def execKeyUp (port : Fin 4) (s : State) : Host.Outcome State Fault Refusal :=
  .next (s.arrival port isKeyUp fun m d => d.onStage fun st => st.keyUp (sourceOf port m) m.data2)

/-- A DAMPER arrival: data1 of 0 is up, any other is down; its DAMPER_IN entry follows (R37, R38, R42). -/
def Stage.damperArrival (st : Stage) (port : Fin 4) (m : Message) : Stage :=
  let down := decide (m.data1 ≠ 0)
  (st.setDamper port m.channel down).emit (.damperIn port m.channel down)

/-- DAMPER_ARRIVAL (R37, R38, R42). -/
def execDamperArrival (port : Fin 4) (s : State) : Host.Outcome State Fault Refusal :=
  .next (s.arrival port (fun m => decide (m.kind = .damper)) fun m d => d.onStage fun st => st.damperArrival port m)

/-- CONTROL_ARRIVAL (R39). -/
def execControlArrival (port : Fin 4) (s : State) : Host.Outcome State Fault Refusal :=
  .next (s.arrival port (fun m => decide (m.kind = .control)) fun m d =>
    d.onStage fun st => st.passControl d.change.zones port m)

/-- A program select cue with its go, taken by change state or refused with CUE_TAKEN BUSY (R120; log 16). -/
def Device.programSelect (d : Device) (n : BitVec 7) : Device :=
  if d.change.mayCue then
    d.onChange fun c => (c.cueByScene .programSelect n).carryGo .programSelect
  else d.emit (.cueTaken 0 .busy 0 .programSelect (some n) none)

/-- A PROGRAM arrival: on the program-select port and channel it cues and goes; any other is discarded (R40). -/
def Device.programArrival (d : Device) (port : Fin 4) (m : Message) : Device :=
  if d.progSelect = some (port, m.channel) then d.programSelect m.data1 else d

/-- PROGRAM_ARRIVAL (R40, R120). -/
def execProgramArrival (port : Fin 4) (s : State) : Host.Outcome State Fault Refusal :=
  .next (s.arrival port (fun m => decide (m.kind = .program)) fun m d => d.programArrival port m)

end Sys2Proof.Machine
end

