-- ==== Sys2Proof/Machine/PedalCommands.lean ====
section
/-! DEFINITION. The pedal commands: level changes and debounce (R144, R145), the dispatch by function (R119, R121,
R123, R146 to R150), the PEDAL entry (R151) and the reload of the setups (R152). -/

namespace Sys2Proof.Machine

/-- Changing one pedal. -/
def Device.onPedal (d : Device) (n : Fin 8) (f : Pedal → Pedal) : Device :=
  { d with pedals := vecModify d.pedals n f }

/-! ## Input levels (R143, R144, R145) -/

/-- The pin changes to a level: while the engine runs, the timer starts toward the state opposite the debounced one,
or stops when the level is back (R144, R145). -/
def Pedal.takeLevel (p : Pedal) (high running : Bool) (now : Word) : Pedal :=
  if p.high = high then p
  else
    let p' := { p with high := high }
    if !running then p'
    else if p'.atPressedLevel = p'.pressed then { p' with timer := none }
    else p'.startTimer now

/-- PEDAL_INPUT_CHANGE (R144, R145). The pin's level stands whatever the part does, in reset too. -/
def execPedalInputChange (pedal : Fin 8) (high : Bool) (s : State) : Host.Outcome State Fault Refusal :=
  if s.resetLow then .next { s with dev := s.dev.onPedal pedal fun p => { p with high := high } }
  else .next (s.event true fun d =>
    d.onPedal pedal fun p => p.takeLevel high d.engine.state.isRunning d.now)

/-! ## Dispatch (R146 to R150) -/

/-- What a dispatch hands back for the PEDAL entry: the outcome with the main and the second detail (R147, R151). -/
structure PedalReport where
  outcome : PedalOutcome
  main : Word
  second : Word
  deriving DecidableEq, Repr

/-- A report of nothing done (R151; log 19). -/
def PedalReport.nothing (o : PedalOutcome) : PedalReport := { outcome := o, main := 0, second := 0 }

/-- An acted report with a main detail. -/
def PedalReport.acted (main : Word) : PedalReport := { outcome := .acted, main := main, second := 0 }

/-- The change state, with the loading flag, as a detail word (R151, R199). -/
def ChangeUnit.stateWord (c : ChangeUnit) : Word := BitVec.ofNat 32 (changeStateByte c.state c.loadingFlag)

/-- The entry of an ignored press (R147). -/
def Device.emitPedalIgnored (d : Device) (n : Fin 8) : Device :=
  d.emit (.pedalIgnored n d.pedals[n].setup.function d.change.state d.change.loadingFlag)

/-- The cue origin of a direction. -/
def Direction.cueOrigin : Direction → CueOrigin
  | .next => .next
  | .prev => .prev

/-- The go origin of a direction. -/
def Direction.goOrigin : Direction → GoOrigin
  | .next => .next
  | .prev => .prev

/-- A NEXT or PREV press (R119, R147): an end of the list before the change state is looked at. -/
def Device.stepPress (d : Device) (n : Fin 8) (dir : Direction) : Device × PedalReport :=
  match stepTarget dir d.change.stepFrom d.layout.setListLength with
  | none =>
    (d.emit (.setEnd dir d.change.stepFrom),
      { outcome := .setEnd, main := position32 d.change.stepFrom, second := 0 })
  | some p =>
    if d.change.mayCue then
      (d.onChange fun c => (c.cueByPosition dir.cueOrigin p).carryGo dir.goOrigin, .acted (BitVec.ofNat 32 p))
    else (d.emitPedalIgnored n, { outcome := .ignored, main := BitVec.ofNat 32 p, second := 0 })

/-- A report of a GO or HOLD press: the change state after it (R151). -/
def goReport (d : Device) (o : PedalOutcome) : Device × PedalReport :=
  (d, { outcome := o, main := d.change.stateWord, second := 0 })

/-- A GO pedal press (R121, R147). -/
def Device.goPress (d : Device) (n : Fin 8) : Device × PedalReport :=
  match d.change.state with
  | .loading =>
    if d.change.go.isNone then
      goReport (d.onChange fun c => { c with go := some { origin := .goPedal, waiting := true } }) .acted
    else goReport (d.emitPedalIgnored n) .ignored
  | .cued => goReport (d.goCued .goPedal) .acted
  | .idle => goReport (d.emitPedalIgnored n) .ignored
  | .armed => goReport (d.emitPedalIgnored n) .ignored
  | .held => goReport (d.emitPedalIgnored n) .ignored

/-- A HOLD pedal press: a HOLD in ARMED, a RESUME in HELD (R123, R124, R147). -/
def Device.holdPress (d : Device) (n : Fin 8) : Device × PedalReport :=
  match d.change.copy, d.change.state with
  | some sc, .armed => goReport (d.holdArmed sc (.pedal n)) .acted
  | some sc, .held =>
    if d.change.loadingFlag then goReport (d.emitPedalIgnored n) .ignored
    else goReport (d.resumeHeld sc (.pedal n)) .acted
  | _, _ => goReport (d.emitPedalIgnored n) .ignored

/-- A TAP press with the tap outcome (R85, R89, R150, R151). -/
def Device.tapPress (d : Device) : Device × PedalReport :=
  let r := d.takeTap
  (r.1,
    { outcome := if r.2.kind = .ignored then .ignored else .acted
      main := BitVec.ofNat 32 r.2.interval
      second := word4 (r.2.tTap % 256) (r.2.tTap / 256) r.2.kind.code (r.2.count + 16 * flagCode r.2.sourceChanged) })

/-- RELEASE_ALL with the number of entries it releases (R41, R150). -/
def Device.releaseAllCount (d : Device) : Device × Nat := (d.onStage Stage.releaseAll, d.stage.heldVoices.length)

/-- A PANIC press (R41, R150). -/
def Device.panicPress (d : Device) : Device × PedalReport :=
  (d.releaseAllCount.1, .acted (BitVec.ofNat 32 d.releaseAllCount.2))

/-- The override level after the event, as a detail (R148, R151). -/
def Device.overrideReport (d : Device) : Device × PedalReport :=
  (d, .acted (BitVec.ofNat 32 (flagCode d.overrideHeld)))

/-- A DAMPER pedal's edge (R38, R149, R151). -/
def Device.damperEdge (d : Device) (n : Fin 8) (down : Bool) : Device × PedalReport :=
  let mask := d.pedals[n].setup.mask
  (d.onStage fun st => st.setDampers mask down, .acted (word4 mask.toNat (flagCode down) 0 0))

/-- A press while the engine is ONLINE, dispatched by function (R146). -/
def Device.dispatchPress (d : Device) (n : Fin 8) : Device × PedalReport :=
  match d.pedals[n].setup.function with
  | .next => d.stepPress n .next
  | .prev => d.stepPress n .prev
  | .go => d.goPress n
  | .hold => d.holdPress n
  | .tap => d.tapPress
  | .lockOverride => d.overrideReport
  | .damper => d.damperEdge n true
  | .clickMute => (d.toggleMute, .acted (BitVec.ofNat 32 (flagCode d.toggleMute.click.mute)))
  | .panic => d.panicPress
  | .notify => (d, .nothing .none)

/-- A release while the engine is ONLINE (R146). -/
def Device.dispatchRelease (d : Device) (n : Fin 8) : Device × PedalReport :=
  match d.pedals[n].setup.function with
  | .lockOverride => d.overrideReport
  | .damper => d.damperEdge n false
  | .next => (d, .nothing .none)
  | .prev => (d, .nothing .none)
  | .go => (d, .nothing .none)
  | .hold => (d, .nothing .none)
  | .tap => (d, .nothing .none)
  | .clickMute => (d, .nothing .none)
  | .panic => (d, .nothing .none)
  | .notify => (d, .nothing .none)

/-- The main detail of an edge that is not dispatched in a drain: what the function's detail is with nothing done
(R151; log 19). -/
def Device.drainingDetail (d : Device) (n : Fin 8) (edge : PedalEdge) : Word :=
  match d.pedals[n].setup.function, edge with
  | .lockOverride, _ => BitVec.ofNat 32 (flagCode d.overrideHeld)
  | .damper, _ => word4 d.pedals[n].setup.mask.toNat 0 0 0
  | .clickMute, .press => BitVec.ofNat 32 (flagCode d.click.mute)
  | .go, .press => d.change.stateWord
  | .hold, .press => d.change.stateWord
  | _, _ => 0

/-- A press or release by engine state: in DRAINING only a PANIC press is dispatched (R145, R151). DESIGN CHOICE (log
39): every other edge of a drain has the outcome DRAINING, that of a NOTIFY input and a release without an action too, of
which R151 also lists NONE. -/
def Device.dispatchEdge (d : Device) (n : Fin 8) (edge : PedalEdge) : Device × PedalReport :=
  if d.engine.state = .draining then
    if edge = .press ∧ d.pedals[n].setup.function = .panic then d.panicPress
    else (d, { outcome := .draining, main := d.drainingDetail n edge, second := 0 })
  else
    match edge with
    | .press => d.dispatchPress n
    | .release => d.dispatchRelease n

/-- A press or release with its PEDAL entry, written after the dispatch (R146, R151). -/
def Device.pedalEdge (d : Device) (n : Fin 8) (edge : PedalEdge) (cause : PedalCause) : Device :=
  let r := d.dispatchEdge n edge
  r.1.emit (.pedal n d.pedals[n].setup.function edge cause r.2.outcome r.2.main r.2.second)

/-- The timer of a pedal expires: the debounced state changes, and the press or release is dispatched (R144). -/
def Device.debounce (d : Device) (n : Fin 8) : Device :=
  let d' := d.onPedal n fun p => { p with pressed := !p.pressed, timer := none }
  d'.pedalEdge n (if d.pedals[n].pressed then .release else .press) .input

/-- DEBOUNCE_EXPIRY (R144). -/
def execDebounceExpiry (pedal : Fin 8) (s : State) : Host.Outcome State Fault Refusal :=
  .next (s.event (s.dev.engine.state.isRunning && timerDue s.dev.now s.dev.pedals[pedal].timer) fun d =>
    d.debounce pedal)

/-! ## Reload (R152) -/

/-- A setup whose function, polarity and mask are unchanged (R152). -/
def PedalSetup.sameOrder (a b : PedalSetup) : Bool :=
  decide (a.function = b.function) && decide (a.polarity = b.polarity) && decide (a.mask = b.mask)

/-- The reload of one pedal: only a new debounce time when the rest is unchanged; otherwise a pressed pedal is first
released under the old setup, and the new one is entered (R152). -/
def Device.reloadPedal (d : Device) (n : Fin 8) (setup : PedalSetup) : Device :=
  if d.pedals[n].setup.sameOrder setup then d.onPedal n fun p => { p with setup := setup }
  else
    let d' :=
      if d.pedals[n].pressed then (d.onPedal n fun p => { p with pressed := false }).pedalEdge n .release .reload
      else d
    d'.onPedal n fun p => p.enter setup d.now

/-- The reload of all pedals, in order F0 to F7 (R152). -/
def Device.reloadPedals (d : Device) (section_ : List Byte) : Device :=
  (List.finRange 8).foldl (fun d n => d.reloadPedal n (pedalSetupOf (pedalBytes section_ n.val))) d

end Sys2Proof.Machine
end

