-- ==== Sys2Proof/Machine/PortCommands.lean ====
section
/-! DEFINITION. The module port and deferral commands: frame completions with the owed releases and the backlog
(R30, R53, R54), and the endings of a deferral (R135, R136). -/

namespace Sys2Proof.Machine

/-- MAIN_FRAME_COMPLETION (R54, R55, R57, R61). -/
def execMainFrameCompletion (port : Fin 6) (s : State) : Host.Outcome State Fault Refusal :=
  .next (s.event (s.dev.stage.ports[port].mainFrameDue s.dev.now) fun d => d.onStage fun st => st.mainFrameDone port)

/-- LANE_FRAME_COMPLETION (R53, R57, R61). -/
def execLaneFrameCompletion (port : Fin 6) (s : State) : Host.Outcome State Fault Refusal :=
  .next (s.event (s.dev.stage.ports[port].laneFrameDue s.dev.now) fun d => d.onStage fun st => st.laneFrameDone port)

/-- OWED_RELEASE_RETRY: the walk of R30. MAIN_FRAME_COMPLETION makes it within its own event (R54; log 31). -/
def execOwedReleaseRetry (port : Fin 6) (s : State) : Host.Outcome State Fault Refusal :=
  .next (s.event true fun d => d.onStage fun st => st.retryOwed port)

/-- BACKLOG_MOVE: step 2 of R54. MAIN_FRAME_COMPLETION makes it within its own event (log 31). -/
def execBacklogMove (port : Fin 6) (s : State) : Host.Outcome State Fault Refusal :=
  .next (s.event true fun d => d.onStage fun st => st.modifyPort port fun mp => mp.moveBacklog st.clock)

/-- DEFERRAL_RELEASE_ENDING: the deferral of a destination ends when no entry holds it. Every release makes the same
check within its own event (R135; log 31). -/
def execDeferralReleaseEnding (port : Fin 6) (channel : BitVec 4) (s : State) : Host.Outcome State Fault Refusal :=
  .next (s.event true fun d => d.onStage fun st => st.deferralCheck { port := port, channel := channel })

/-- The deferral of a destination has come to its deadline (R136). -/
def Stage.deadlineDue (st : Stage) (dest : Dest) : Bool :=
  match st.deferralFor dest with
  | none => false
  | some df => reached st.clock df.deadline

/-- DEFER_DEADLINE (R136). -/
def execDeferDeadline (port : Fin 6) (channel : BitVec 4) (s : State) : Host.Outcome State Fault Refusal :=
  .next (s.event (s.dev.stage.deadlineDue { port := port, channel := channel }) fun d =>
    d.onStage fun st => st.endDestByCut { port := port, channel := channel })

end Sys2Proof.Machine
end

