-- ==== Sys2Proof/Machine/RegisterCommands.lean ====
section
/-! DEFINITION. The register window's writes (R185, R186, R191, R192, R202). -/

namespace Sys2Proof.Machine

/-- The word of CONTROL with its reset bit set (R186, R201). -/
def isResetWord (v : Word) : Bool := v.getLsbD 31

/-- A CONTROL write without the reset bit: the fields are replaced, and a change of the enable is an event of the engine
(R186, R187). -/
def Device.writeControl (d : Device) (v : Word) : Device :=
  let d' : Device := { d with regs := d.regs.writeControl v }
  if v.getLsbD 0 && !d.regs.enable then d'.enableSet
  else if !v.getLsbD 0 && d.regs.enable then d'.enableCleared
  else d'

/-- A write to CONTROL: a device reset with the reset bit, whatever the other bits hold (R186, R193). The five CONTROL
rows are one such write seen under five aspects (log 25). -/
def State.controlWrite (s : State) (w : RegWrite) (cut : ResetCut) : State :=
  if s.resetLow then s
  else if isResetWord (regWord w) then s.deviceReset cut s.dev.now false
  else s.event true fun d => d.writeControl (regWord w)

/-- CONTROL_ENABLE_SET (R187). -/
def execControlEnableSet (w : RegWrite) (s : State) : Host.Outcome State Fault Refusal :=
  .next (s.controlWrite w ResetCut.clean)

/-- CONTROL_ENABLE_CLEAR (R187, R188). -/
def execControlEnableClear (w : RegWrite) (s : State) : Host.Outcome State Fault Refusal :=
  .next (s.controlWrite w ResetCut.clean)

/-- ATTENTION_MODE (R186, R191). -/
def execAttentionMode (w : RegWrite) (s : State) : Host.Outcome State Fault Refusal :=
  .next (s.controlWrite w ResetCut.clean)

/-- CAUSE_ENABLE (R186, R191). -/
def execCauseEnable (w : RegWrite) (s : State) : Host.Outcome State Fault Refusal :=
  .next (s.controlWrite w ResetCut.clean)

/-- CONTROL_RESET (R186, R193). -/
def execControlReset (w : RegWrite) (cut : ResetCut) (s : State) : Host.Outcome State Fault Refusal :=
  .next (s.controlWrite w cut)

/-- AREA is taken while the engine is OFFLINE or FAULTED (R185). -/
def EngineState.takesArea (e : EngineState) : Bool :=
  match e with
  | .offline => true
  | .faulted => true
  | .loading => false
  | .online => false
  | .draining => false

/-- The base that AREA holds after a write: the four lowest bits are held at 0 (R185, R201). -/
def areaWord (v : Word) : Word := v &&& 0xFFFFFFF0#32

/-- AREA (R185). -/
def execArea (w : RegWrite) (s : State) : Host.Outcome State Fault Refusal :=
  .next (s.event s.dev.engine.state.takesArea fun d => { d with regs := { d.regs with area := areaWord (regWord w) } })

/-- ACK (R192, R202). -/
def execAck (w : RegWrite) (s : State) : Host.Outcome State Fault Refusal :=
  .next (s.event true fun d => { d with regs := d.regs.acknowledge (regWord w) })

/-- IGNORED_REGISTER_WRITE (R185, R202). -/
def execIgnoredRegisterWrite (_addr : Word) (_w : RegWrite) (s : State) : Host.Outcome State Fault Refusal := .next s

/-! ## The register map of writes (R184, R201) -/

/-- The CONTROL row of a write's word: the reset bit before the enable (R186; log 25). -/
def controlCommand (w : RegWrite) (cut : ResetCut) : Sys2Proof.Instr :=
  if isResetWord (regWord w) then .controlReset w cut
  else if (regWord w).getLsbD 0 then .controlEnableSet w
  else .controlEnableClear w

/-- The command of a write on the register bus, by its byte address: CONTROL at 04h, AREA at 08h, NOTICE at 0Ch, ACK at
14h; a write to ID, STATUS or a reserved address is ignored (R184, R185, R201, R202). -/
def registerWriteCommand (addr : Word) (w : RegWrite) (cut : ResetCut) : Sys2Proof.Instr :=
  if wordAddress addr = 0x04 then controlCommand w cut
  else if wordAddress addr = 0x08 then .area w
  else if wordAddress addr = 0x0C then .notice w
  else if wordAddress addr = 0x14 then .ack w
  else .ignoredRegisterWrite addr w

end Sys2Proof.Machine
end

