-- ==== Sys2Proof/Machine/ReportCommands.lean ====
section
/-! DEFINITION. The commands of the part's reports: the rewrite of the state page with its retry (R181, R182), and the
journal writer's taking of an entry (R155, R157). -/

namespace Sys2Proof.Machine

/-! ## The state page -/

/-- A rewrite ends whole; one more begins when it is owed (R181). -/
def Device.rewriteWhole (d : Device) : Device :=
  let d' := d.onPage fun p => { p with running := none, failRun := false }
  if d.page.owed then d'.beginRewrite else d'

/-- Whether a failed rewrite is tried again: while the page is written, and after a drain; not once LOADING has begun
(R182). -/
def EngineState.retriesPage (e : EngineState) : Bool :=
  match e with
  | .online => true
  | .draining => true
  | .offline => true
  | .loading => false
  | .faulted => false

/-- The rig area offset of the access of a rewrite that failed: the head, the body or the tail (R16, R181). -/
def Device.failedPageOffset (d : Device) (bus : Bus) : Nat :=
  let made := bus.findIdx (·.fails)
  d.layout.statePage + (if made = 0 then 0 else if made = 1 then 4 else 60)

/-- A rewrite ends where an access failed: the MEMORY fault, an entry for the first failure after a whole rewrite, and
the next rewrite 1,000 µs later (R182). -/
def Device.rewriteFailed (d : Device) (bus : Bus) : Device :=
  let d1 := d.setFault .memory
  let d2 := if d.page.failRun then d1 else d1.emit (.memory (d.failedPageOffset bus) .statePage)
  d2.onPage fun p =>
    { p with
      running := none, failRun := true
      retryAt := if d.engine.state.retriesPage then some (after d.now Config.retryTime) else none
      owed := p.owed && d.engine.state.retriesPage }

/-- What ends the event of a failed rewrite: as every event, but the changed fault waits for the retry (R182). -/
def State.settleUnpaged (s : State) (d : Device) (m : Mem) : State :=
  s.endEvent d m fun d => { d with pageCause := false }

/-- The accesses of a rewrite (R181, R182). -/
def State.rewritePage (s : State) (image : List Byte) (bus : Bus) : State :=
  match portWriteAll { mem := s.mem, bus := bus } (pageWrites s.dev.pageAddress image) with
  | (true, run) => s.settle s.dev.beginEvent.rewriteWhole run.mem
  | (false, run) => s.settleUnpaged (s.dev.beginEvent.rewriteFailed bus) run.mem

/-- STATE_PAGE_REWRITE: the accesses of the rewrite under way (R181, R182). -/
def execStatePageRewrite (bus : Bus) (s : State) : Host.Outcome State Fault Refusal :=
  match s.dev.page.running with
  | none => .next s
  | some image => .next (if s.resetLow then s else s.rewritePage image bus)

/-- STATE_PAGE_RETRY (R182). -/
def execStatePageRetry (s : State) : Host.Outcome State Fault Refusal :=
  .next (s.event (timerDue s.dev.now s.dev.page.retryAt && s.dev.page.running.isNone) Device.beginRewrite)

/-! ## The journal -/

/-- JOURNAL_WRITE_COMPLETION: the oldest waiting entry is taken through the memory port (R155, R157; log 8). -/
def execJournalWriteCompletion (bus : Bus) (s : State) : Host.Outcome State Fault Refusal :=
  match s.dev.jw.queue with
  | [] => .next s
  | h :: _ => .next (s.portEvent s.dev.engine.state.isRunning bus fun d run => d.takeEntry h run)

end Sys2Proof.Machine
end

