-- ==== Sys2Proof/Machine/TimingCommands.lean ====
section
/-! DEFINITION. The timing commands: TICK (R63 to R67, R104, R122), the click width (R108), tap lapse (R86), sync edges
(R93 to R97) and the end of an ATTN pulse (R191). -/

namespace Sys2Proof.Machine

/-- A tick's length has passed: the next tick, its announcements to the click unit, and then the change unit's boundary
(R63, R64, R122). -/
def Device.takeTick (d : Device) : Device := d.advanceTick.beginTick.changeBoundary

/-- TICK (R63). It is due when the transport runs and the tick in progress has lasted its length. -/
def execTick (s : State) : Host.Outcome State Fault Refusal :=
  .next (s.event (!s.dev.tempo.isStopped && timerDue s.dev.now s.dev.tempo.tickAt) Device.takeTick)

/-- CLICK_WIDTH_EXPIRY (R108). -/
def execClickWidthExpiry (line : Fin 4) (s : State) : Host.Outcome State Fault Refusal :=
  .next (s.event (timerDue s.dev.now s.dev.click.lines[line].endsAt) fun d => d.onLine line (endPulse line))

/-- TAP_LAPSE (R86). -/
def execTapLapse (s : State) : Host.Outcome State Fault Refusal :=
  .next (s.event (timerDue s.dev.now s.dev.tap.lapseAt) fun d => { d with tap := TapCapture.reset })

/-- SYNC_EDGE (R93, R94, R95, R96). -/
def execSyncEdge (s : State) : Host.Outcome State Fault Refusal := .next (s.event true Device.takeEdge)

/-- SYNC_LOST (R97). -/
def execSyncLost (s : State) : Host.Outcome State Fault Refusal :=
  .next (s.event s.dev.sync.lossDue Device.loseSync)

/-- ATTN_PULSE_END (R191). -/
def execAttnPulseEnd (s : State) : Host.Outcome State Fault Refusal :=
  .next (s.event (timerDue s.dev.now s.dev.regs.attnPulse) fun d => { d with regs := { d.regs with attnPulse := none } })

end Sys2Proof.Machine
end

