-- ==== Sys2Proof/Machine/RequestCommands.lean ====
section
/-! DEFINITION. The request unit's commands: notice and scan (R174, R175, R178), the judging of a request (R176), the
fourteen kinds (R41, R66, R68, R69, R78, R116, R121, R123 to R125, R138, R172), and completions with their retries
(R177, R179). -/

namespace Sys2Proof.Machine

/-! ## Notice and scan -/

/-- NOTICE: a write of any value sets notice pending (R174, R184, R185). -/
def execNotice (_w : RegWrite) (s : State) : Host.Outcome State Fault Refusal :=
  .next (s.event true fun d => d.onReq fun q => { q with notice := true })

/-- Whether a scan begins: notice pending, no scan running, the engine ONLINE or DRAINING (R174). -/
def Device.scanDue (d : Device) : Bool := d.req.notice && d.req.scan.isNone && d.engine.state.isRunning

/-- SCAN_BEGIN (R174; log 26). -/
def execScanBegin (s : State) : Host.Outcome State Fault Refusal :=
  .next (s.event s.dev.scanDue fun d =>
    d.onReq fun q => { q with notice := false, scan := some { slot := 0, phase := .visiting } })

/-- A scan's own completion is still to be written (R175). -/
def RequestUnit.scanWaits (q : RequestUnit) : Bool := q.completions.any (·.inScan)

/-- A scan that has visited slot 7 and written its completions ends (R175). -/
def RequestUnit.endScan (q : RequestUnit) : RequestUnit :=
  match q.scan with
  | some { slot := n, phase := .visiting } => if 8 ≤ n && !q.scanWaits then { q with scan := none } else q
  | _ => q

/-- The scan goes on to the next slot (R175). -/
def RequestUnit.nextSlot (q : RequestUnit) : RequestUnit :=
  { q with scan := q.scan.map fun (sc : Scan) => { slot := sc.slot + 1, phase := .visiting } }.endScan

/-- The slot stands in an in-flight record: the cue or the go in flight came from it (R173, R175). -/
def ChangeUnit.inFlight (c : ChangeUnit) (slot : Fin 8) : Bool :=
  decide (c.load.bind (·.origin.slot?) = some slot) || decide (c.go.bind (·.origin.slot?) = some slot)

/-- The slot's completion waits in the retry list (R175, R178). -/
def RequestUnit.awaitsRetry (q : RequestUnit) (slot : Fin 8) : Bool :=
  q.retries.any fun r => decide (r.completion.slot = slot)

/-- The slot's completion is still to be written: in the retry list, or given and not yet written (R175, R177, R178;
log 11). -/
def RequestUnit.holdsCompletion (q : RequestUnit) (slot : Fin 8) : Bool :=
  q.awaitsRetry slot || q.completions.any fun c => decide (c.slot = slot)

/-- Writing the mark of a failure run at a slot (R179; log 21). -/
def RequestUnit.markRun (q : RequestUnit) (slot : Fin 8) (b : Bool) : RequestUnit :=
  { q with failRun := q.failRun.set slot b }

/-- An access failure at a slot: the MEMORY fault, and an entry for the first failure of a run (R179). -/
def Device.slotFailure (d : Device) (slot : Fin 8) (offset : Nat) : Device :=
  let d' := d.setFault .memory
  let d'' := if d.req.failRun[slot] then d' else d'.emit (.memory offset .requestSlot)
  d''.onReq (·.markRun slot true)

/-- The request that the bytes of a slot spell (R196). -/
def requestOf (slot : Fin 8) (bs : List Byte) : Request :=
  { slot := slot
    kind := byteOf (fieldAt bs 1 1)
    tag := BitVec.ofNat 32 (fieldAt bs 4 4)
    arg1 := BitVec.ofNat 32 (fieldAt bs 8 4)
    arg2 := BitVec.ofNat 32 (fieldAt bs 12 4)
    arg3 := BitVec.ofNat 32 (fieldAt bs 16 4) }

/-- Taking a POSTED slot: TAKEN is written, and the request waits for its owner; a failed write leaves the slot POSTED,
for a later scan (R175, R179). -/
def Device.takeSlot (d : Device) (slot : Fin 8) (bs : List Byte) (run : PortRun) : Device × PortRun :=
  match portWriteWhole run (rigAddress d (slotOffset d slot)) [2#8] with
  | (false, run') => ((d.slotFailure slot (slotOffset d slot)).onReq RequestUnit.nextSlot, run')
  | (true, run') =>
    (d.onReq fun q => { q with scan := some { slot := slot.val, phase := .handed (requestOf slot bs) } }, run')

/-- The scan's visit to a slot: one read, then the slot is passed over or taken (R175, R178, R179). -/
def Device.visitSlot (d : Device) (slot : Fin 8) (run : PortRun) : Device × PortRun :=
  match portRead run (rigAddress d (slotOffset d slot)) 20 with
  | (none, run') => ((d.slotFailure slot (slotOffset d slot)).onReq RequestUnit.nextSlot, run')
  | (some bs, run') =>
    let d' := d.onReq (·.markRun slot false)
    if d.change.inFlight slot || d.req.holdsCompletion slot || decide (fieldAt bs 0 1 ≠ 1) then
      (d'.onReq RequestUnit.nextSlot, run')
    else d'.takeSlot slot bs run'

/-- The slot that the scan visits next, when it is not waiting (R175). -/
def RequestUnit.visitDue (q : RequestUnit) : Option (Fin 8) :=
  match q.scan with
  | some { slot := n, phase := .visiting } => if h : n < 8 then (if q.scanWaits then none else some ⟨n, h⟩) else none
  | _ => none

/-- SLOT_VISIT (R175, R178, R179). -/
def execSlotVisit (bus : Bus) (s : State) : Host.Outcome State Fault Refusal :=
  match s.dev.req.visitDue with
  | none => .next s
  | some slot => .next (s.portEvent true bus fun d run => d.visitSlot slot run)

/-! ## Judging a request (R176) -/

/-- The request that the scan has taken and its owner has not yet carried out (R175). -/
def RequestUnit.handedRequest (q : RequestUnit) : Option Request :=
  match q.scan with
  | some { slot := _, phase := .handed r } => some r
  | _ => none

/-- The owner is at work on the request. -/
def RequestUnit.beginWork (q : RequestUnit) : RequestUnit :=
  { q with scan := q.scan.map fun (sc : Scan) => { sc with phase := .working } }

/-- Completing the request at hand. -/
def Device.answer (d : Device) (r : Request) (code : ResultCode) (value : Nat) : Device :=
  d.complete r.slot r.tag code (BitVec.ofNat 32 value)

/-- A taken request: OFFLINE outside ONLINE, otherwise its owner's work; then the scan goes on (R175, R176). -/
def Device.carryOut (d : Device) (r : Request) (body : Device → Device) : Device :=
  let d1 := d.onReq RequestUnit.beginWork
  let d2 := if d1.engine.state = .online then body d1 else d1.answer r .offline 0
  d2.onReq RequestUnit.nextSlot

/-- A request row carries out the request that the scan has handed, when it is of the row's kind (R176; log 11). -/
def State.request (s : State) (fits : Byte → Bool) (body : Request → Device → Device) : State :=
  match s.dev.req.handedRequest with
  | none => s
  | some r => s.event (fits r.kind) fun d => d.carryOut r (body r)

/-! ## Cues, goes and holds -/

/-- A CUE_SCENE request (R116, R176). -/
def Device.cueSceneRequest (r : Request) (d : Device) : Device :=
  if 127 < r.arg1.toNat then d.answer r .badArg 1
  else if d.change.mayCue then
    d.onChange (·.cueByScene (.cueScene r.slot r.tag) (BitVec.ofNat 7 r.arg1.toNat))
  else d.answer r .busy 0

/-- CUE_SCENE (R116). -/
def execCueScene (s : State) : Host.Outcome State Fault Refusal :=
  .next (s.request (fun k => k = 1#8) Device.cueSceneRequest)

/-- A CUE_POSITION request (R11, R116, R176). -/
def Device.cuePositionRequest (r : Request) (d : Device) : Device :=
  if d.layout.setListLength ≤ r.arg1.toNat then d.answer r .badArg 1
  else if d.change.mayCue then d.onChange (·.cueByPosition (.cuePosition r.slot r.tag) r.arg1.toNat)
  else d.answer r .busy 0

/-- CUE_POSITION (R11, R116). -/
def execCuePosition (s : State) : Host.Outcome State Fault Refusal :=
  .next (s.request (fun k => k = 2#8) Device.cuePositionRequest)

/-- A GO request (R121). -/
def Device.goRequest (r : Request) (d : Device) : Device :=
  match d.change.state with
  | .idle => d.answer r .notReady 0
  | .loading =>
    if d.change.go.isNone then
      d.onChange fun c => { c with go := some { origin := .request r.slot r.tag, waiting := true } }
    else d.answer r .busy 0
  | .cued => d.goCued (.request r.slot r.tag)
  | .armed => d.answer r .busy 0
  | .held => d.answer r .busy 0

/-- GO (R121, R122). -/
def execGo (s : State) : Host.Outcome State Fault Refusal := .next (s.request (fun k => k = 3#8) Device.goRequest)

/-- The pending scene number as a result value (R123). -/
def ChangeUnit.pendingValue (c : ChangeUnit) : Nat :=
  match c.copy with
  | none => 0
  | some sc => sc.number.toNat

/-- A HOLD request (R123). -/
def Device.holdRequest (r : Request) (d : Device) : Device :=
  match d.change.copy, d.change.state with
  | some sc, .armed => (d.holdArmed sc (.request r.slot)).answer r .ok sc.number.toNat
  | _, .held => d.answer r .ok d.change.pendingValue
  | _, _ => d.answer r .notReady 0

/-- HOLD (R123). -/
def execHold (s : State) : Host.Outcome State Fault Refusal :=
  .next (s.request (fun k => k = 4#8) Device.holdRequest)

/-- A RESUME request; it is completed before any switch that it makes (R124). -/
def Device.resumeRequest (r : Request) (d : Device) : Device :=
  match d.change.copy, d.change.state with
  | _, .armed => d.answer r .ok 0
  | some sc, .held =>
    if d.change.loadingFlag then d.answer r .busy 0 else (d.answer r .ok 0).resumeHeld sc (.request r.slot)
  | _, _ => d.answer r .notReady 0

/-- RESUME (R124). -/
def execResume (s : State) : Host.Outcome State Fault Refusal :=
  .next (s.request (fun k => k = 5#8) Device.resumeRequest)

/-- A CANCEL request (R125). -/
def Device.cancelRequest (r : Request) (d : Device) : Device :=
  if d.change.state = .idle then d.answer r .notReady 0
  else d.cancelChange.answer r .ok d.change.state.code

/-- CANCEL (R125). -/
def execCancel (s : State) : Host.Outcome State Fault Refusal :=
  .next (s.request (fun k => k = 6#8) Device.cancelRequest)

/-- An UNLOCK_ZONES request (R138). -/
def Device.unlockRequest (r : Request) (d : Device) : Device :=
  (d.onChange ChangeUnit.unlockZones).answer r .ok d.change.lockedCount

/-- UNLOCK_ZONES (R138). -/
def execUnlockZones (s : State) : Host.Outcome State Fault Refusal :=
  .next (s.request (fun k => k = 7#8) Device.unlockRequest)

/-! ## Transport and tempo -/

/-- The count-in that a START decides on (R66). -/
def Device.startBars (d : Device) (arg : Word) : Nat :=
  if arg = 0xFFFFFFFF#32 then
    match d.change.active with
    | none => 0
    | some sc => sc.countInBars
  else min 4 arg.toNat

/-- A START request (R66; log 9). -/
def Device.startRequest (r : Request) (d : Device) : Device :=
  if d.tempo.isStopped then
    let bars := d.startBars r.arg1
    (d.startTransport bars .request).answer r .ok bars
  else d.answer r .busy 0

/-- START (R66, R67). -/
def execStart (s : State) : Host.Outcome State Fault Refusal :=
  .next (s.request (fun k => k = 8#8) Device.startRequest)

/-- A STOP request (R68, R112, R126). DESIGN CHOICE (log 40): the click unit is told of the stop before the change unit.
-/
def Device.stopRequest (r : Request) (d : Device) : Device :=
  let d' := if d.tempo.isStopped then d else (d.stopTempo .request).clickStop.changeStop
  d'.answer r .ok d.tempo.transport.code

/-- STOP (R68). -/
def execStop (s : State) : Host.Outcome State Fault Refusal :=
  .next (s.request (fun k => k = 9#8) Device.stopRequest)

/-- A LOCATE request (R69). -/
def Device.locateRequest (r : Request) (d : Device) : Device :=
  let bar := r.arg1.toNat
  if bar < 1 ∨ Config.maxBar < bar then d.answer r .badArg 1
  else if d.tempo.isStopped then
    ((d.onTempo fun t => { t with bar := bar, beat := 1, tick := 0 }).causePage).answer r .ok bar
  else d.answer r .busy 0

/-- LOCATE (R69). -/
def execLocate (s : State) : Host.Outcome State Fault Refusal :=
  .next (s.request (fun k => k = 10#8) Device.locateRequest)

/-- A SET_TEMPO request (R78). -/
def Device.setTempoRequest (r : Request) (d : Device) : Device :=
  if d.tempo.source = .follow then d.answer r .following 0
  else
    let v := clampNat Config.tempoMin Config.tempoMax r.arg1.toNat
    (d.writeTempo v (min 64 r.arg2.toNat) .request).answer r .ok v

/-- SET_TEMPO (R78). -/
def execSetTempo (s : State) : Host.Outcome State Fault Refusal :=
  .next (s.request (fun k => k = 11#8) Device.setTempoRequest)

/-- An APPLY_SYNC request (R78). -/
def Device.applySyncRequest (r : Request) (d : Device) : Device :=
  if d.tempo.source = .follow then d.answer r .following 0
  else
    match d.sync.state, d.sync.estimate with
    | .locked, some e => (d.writePendingTempo e .sync).answer r .ok e
    | _, _ => d.answer r .noSync 0

/-- APPLY_SYNC (R78). -/
def execApplySync (s : State) : Host.Outcome State Fault Refusal :=
  .next (s.request (fun k => k = 12#8) Device.applySyncRequest)

/-- A RELEASE_ALL request (R41). -/
def Device.releaseAllRequest (r : Request) (d : Device) : Device :=
  d.releaseAllCount.1.answer r .ok d.releaseAllCount.2

/-- RELEASE_ALL (R41). -/
def execReleaseAll (s : State) : Host.Outcome State Fault Refusal :=
  .next (s.request (fun k => k = 13#8) Device.releaseAllRequest)

/-- UNKNOWN_REQUEST: a kind that is none of the fourteen (R176). -/
def execUnknownRequest (s : State) : Host.Outcome State Fault Refusal :=
  .next (s.request (fun k => !isRequestKind k) fun r d => d.answer r .unknown r.kind.toNat)

/-! ## RELOAD (R172) -/

/-- The parts of the header that a section is read from (R172, R195). -/
def sectionParts : Section → List (Nat × Nat)
  | .click => [(48, 64)]
  | .pedals => [(112, 32)]
  | .sync => [(40, 4)]
  | .ports => [(34, 2), (39, 1)]
  | .journal => [(24, 10)]
  | .all => []

/-- The reload of the click setups, C0 to C3 (R113). -/
def Device.reloadClick (d : Device) (bs : List Byte) : Device :=
  d.onLines fun n => reloadLine (clickSetupOf (clickBytes bs n.val)) n

/-- The reload of the sync settings (R99). -/
def Device.reloadSync (d : Device) (bs : List Byte) : Device :=
  let s := (syncSettingsOf bs).1
  d.onSync (·.reload s.1 s.2.1 s.2.2)

/-- The reload of the port polarities, M0 to M5 (R57). -/
def Stage.reloadPolarities (st : Stage) (b : Nat) : Stage :=
  (List.finRange 6).foldl (fun st p => st.modifyPort p (·.reloadPolarity (polarityBit b p.val))) st

/-- The reload of the ports: polarities and program select (R57, R172). The bytes are those of offsets 34, 35, 39. -/
def Device.reloadPorts (d : Device) (bs : List Byte) : Device :=
  { d.onStage (·.reloadPolarities (fieldAt bs 2 1)) with
    progSelect := (progSelectOf (fieldAt bs 0 1) (fieldAt bs 1 1)).1 }

/-- The journal settings of a section read from offset 24 on (R154, R195). -/
def sectionJournal (bs : List Byte) (capacity : Nat) : (JournalMode × Nat × BitVec 3) × Nat :=
  journalSettingsOf (fieldAt bs 6 1) (fieldAt bs 7 1) (fieldAt bs 8 2) capacity

/-- The reload of the journal settings; the next entry handed sets the level armed flag (R164, R166). -/
def Device.reloadJournal (d : Device) (bs : List Byte) : Device :=
  let s := (sectionJournal bs d.layout.capacity).1
  d.onJournal fun jw => { jw with mode := s.1, watermark := s.2.1, mask := s.2.2, rearm := true }

/-- A section applied to its owner (R172). -/
def Device.applySection (d : Device) (sec : Section) (bs : List Byte) : Device :=
  match sec with
  | .click => d.reloadClick bs
  | .pedals => d.reloadPedals bs
  | .sync => d.reloadSync bs
  | .ports => d.reloadPorts bs
  | .journal => d.reloadJournal bs
  | .all => d

/-- The fields of a section that were changed by clamping (R172). -/
def sectionClamps (d : Device) (sec : Section) (bs : List Byte) : Nat :=
  match sec with
  | .click => ((List.range 4).map fun n => clickSetupClamps (clickBytes bs n)).sum
  | .pedals => ((List.range 8).map fun n => pedalSetupClamps (pedalBytes bs n)).sum
  | .sync => (syncSettingsOf bs).2
  | .ports => (progSelectOf (fieldAt bs 0 1) (fieldAt bs 1 1)).2
  | .journal => (sectionJournal bs d.layout.capacity).2
  | .all => 0

/-- A JOURNAL section whose offset or capacity differs from the value in use is refused (R166, R172). -/
def sectionRefused (d : Device) (sec : Section) (bs : List Byte) : Bool :=
  decide (sec = .journal) && (decide (fieldAt bs 0 4 ≠ d.layout.journal) || decide (fieldAt bs 4 2 ≠ d.layout.capacity))

/-- A section that was read whole; a whole RELOAD brings a rewrite of the state page (R172). -/
def Device.sectionRead (d : Device) (r : Request) (sec : Section) (bs : List Byte) : Device :=
  if sectionRefused d sec bs then d.answer r .badArg 1
  else
    let clamps := sectionClamps d sec bs
    (Device.causePage { d.applySection sec bs with clampCount := clamps, clampSection := sec }).answer r .ok clamps

/-- A RELOAD request (R172). -/
def Device.reloadRequest (r : Request) (run : PortRun) (d : Device) : Device × PortRun :=
  match sectionOf r.arg1.toNat with
  | none => (d.answer r .badArg 1, run)
  | some sec =>
    match readParts d (sectionParts sec) run with
    | (.error off, run') => ((d.memoryFailure off .header).answer r .memory 0, run')
    | (.ok parts, run') => (d.sectionRead r sec parts.flatten, run')

/-- A RELOAD as the scan took it: OFFLINE outside ONLINE, and then it reads nothing (R172, R176). -/
def Device.carryOutReload (d : Device) (r : Request) (run : PortRun) : Device × PortRun :=
  let d1 := d.onReq RequestUnit.beginWork
  let res := if d1.engine.state = .online then d1.reloadRequest r run else (d1.answer r .offline 0, run)
  (res.1.onReq RequestUnit.nextSlot, res.2)

/-- RELOAD (R172). -/
def execReload (bus : Bus) (s : State) : Host.Outcome State Fault Refusal :=
  match s.dev.req.handedRequest with
  | none => .next s
  | some r => .next (s.portEvent (decide (r.kind = 14#8)) bus fun d run => d.carryOutReload r run)

/-! ## Completions (R177, R179) -/

/-- A completion is whole: SLOT_DONE is latched (R177). -/
def Device.slotWhole (d : Device) (slot : Fin 8) : Device := (d.onReq (·.markRun slot false)).latch .slotDone

/-- A completion joins the retry list (R179). -/
def RequestUnit.retryLater (q : RequestUnit) (r : Retry) : RequestUnit := { q with retries := q.retries ++ [r] }

/-- The writes of a completion: whole, or placed in the retry list (R177, R179). -/
def Device.writeCompletion (d : Device) (c : Completion) (run : PortRun) : Device × PortRun :=
  let d' := d.onReq fun q => { q with completions := q.completions.erase c }
  match portWriteAll run (completionWrites c) with
  | (true, run') => ((d'.slotWhole c.slot).onReq RequestUnit.endScan, run')
  | (false, run') =>
    (((d'.slotFailure c.slot c.offset).onReq
      (·.retryLater { completion := c, dueAt := after d.now Config.retryTime })).onReq RequestUnit.endScan, run')

/-- SLOT_COMPLETION (R177, R179). Were an earlier completion of the slot in the retry list, this one would wait for it
(R173; log 37). -/
def execSlotCompletion (slot : Fin 8) (bus : Bus) (s : State) : Host.Outcome State Fault Refusal :=
  match s.dev.req.completions.find? fun c => decide (c.slot = slot) with
  | none => .next s
  | some c => .next (s.portEvent (!s.dev.req.awaitsRetry slot) bus fun d run => d.writeCompletion c run)

/-- A retry of a completion: whole, or due again 1,000 µs later; no journal entry (R179). -/
def Device.retryCompletion (d : Device) (r : Retry) (run : PortRun) : Device × PortRun :=
  let d' := d.onReq fun q => { q with retries := q.retries.erase r }
  match portWriteAll run (completionWrites r.completion) with
  | (true, run') => (d'.slotWhole r.completion.slot, run')
  | (false, run') =>
    ((d'.setFault .memory).onReq (·.retryLater { r with dueAt := after d.now Config.retryTime }), run')

/-- COMPLETION_RETRY (R179). It is made in every engine state. -/
def execCompletionRetry (slot : Fin 8) (bus : Bus) (s : State) : Host.Outcome State Fault Refusal :=
  match s.dev.retryDue slot with
  | none => .next s
  | some r => .next (s.portEvent true bus fun d run => d.retryCompletion r run)

end Sys2Proof.Machine
end

