-- ==== Sys2Proof/Machine/Dispatch.lean ====
section
/-! DEFINITION. The dispatch: one arm for each command, each one direct call of its meaning. -/

namespace Sys2Proof.Machine

open Sys2Proof

/-- The effect of a command on everything but the queue. -/
def exec (i : Instr) (s : State) : Host.Outcome State Fault Refusal :=
  match i with
  | .keyByteArrival port byte stopBit => Sys2Proof.Machine.execKeyByteArrival port byte stopBit s
  | .keyDown port => Sys2Proof.Machine.execKeyDown port s
  | .keyUp port => Sys2Proof.Machine.execKeyUp port s
  | .damperArrival port => Sys2Proof.Machine.execDamperArrival port s
  | .controlArrival port => Sys2Proof.Machine.execControlArrival port s
  | .programArrival port => Sys2Proof.Machine.execProgramArrival port s
  | .mainFrameCompletion port => Sys2Proof.Machine.execMainFrameCompletion port s
  | .laneFrameCompletion port => Sys2Proof.Machine.execLaneFrameCompletion port s
  | .owedReleaseRetry port => Sys2Proof.Machine.execOwedReleaseRetry port s
  | .backlogMove port => Sys2Proof.Machine.execBacklogMove port s
  | .deferralReleaseEnding port channel => Sys2Proof.Machine.execDeferralReleaseEnding port channel s
  | .deferDeadline port channel => Sys2Proof.Machine.execDeferDeadline port channel s
  | .tick => Sys2Proof.Machine.execTick s
  | .clickWidthExpiry line => Sys2Proof.Machine.execClickWidthExpiry line s
  | .attnPulseEnd => Sys2Proof.Machine.execAttnPulseEnd s
  | .pedalInputChange pedal high => Sys2Proof.Machine.execPedalInputChange pedal high s
  | .debounceExpiry pedal => Sys2Proof.Machine.execDebounceExpiry pedal s
  | .tapLapse => Sys2Proof.Machine.execTapLapse s
  | .syncEdge => Sys2Proof.Machine.execSyncEdge s
  | .syncLost => Sys2Proof.Machine.execSyncLost s
  | .setListReadCompletion bus => Sys2Proof.Machine.execSetListReadCompletion bus s
  | .sceneReadCompletion bus => Sys2Proof.Machine.execSceneReadCompletion bus s
  | .sceneReadRetry => Sys2Proof.Machine.execSceneReadRetry s
  | .notice w => Sys2Proof.Machine.execNotice w s
  | .scanBegin => Sys2Proof.Machine.execScanBegin s
  | .slotVisit bus => Sys2Proof.Machine.execSlotVisit bus s
  | .cueScene => Sys2Proof.Machine.execCueScene s
  | .cuePosition => Sys2Proof.Machine.execCuePosition s
  | .go => Sys2Proof.Machine.execGo s
  | .hold => Sys2Proof.Machine.execHold s
  | .resume => Sys2Proof.Machine.execResume s
  | .cancel => Sys2Proof.Machine.execCancel s
  | .unlockZones => Sys2Proof.Machine.execUnlockZones s
  | .start => Sys2Proof.Machine.execStart s
  | .stop => Sys2Proof.Machine.execStop s
  | .locate => Sys2Proof.Machine.execLocate s
  | .setTempo => Sys2Proof.Machine.execSetTempo s
  | .applySync => Sys2Proof.Machine.execApplySync s
  | .releaseAll => Sys2Proof.Machine.execReleaseAll s
  | .reload bus => Sys2Proof.Machine.execReload bus s
  | .unknownRequest => Sys2Proof.Machine.execUnknownRequest s
  | .slotCompletion slot bus => Sys2Proof.Machine.execSlotCompletion slot bus s
  | .completionRetry slot bus => Sys2Proof.Machine.execCompletionRetry slot bus s
  | .statePageRewrite bus => Sys2Proof.Machine.execStatePageRewrite bus s
  | .statePageRetry => Sys2Proof.Machine.execStatePageRetry s
  | .journalWriteCompletion bus => Sys2Proof.Machine.execJournalWriteCompletion bus s
  | .controlEnableSet w => Sys2Proof.Machine.execControlEnableSet w s
  | .controlEnableClear w => Sys2Proof.Machine.execControlEnableClear w s
  | .attentionMode w => Sys2Proof.Machine.execAttentionMode w s
  | .causeEnable w => Sys2Proof.Machine.execCauseEnable w s
  | .controlReset w cut => Sys2Proof.Machine.execControlReset w cut s
  | .area w => Sys2Proof.Machine.execArea w s
  | .ack w => Sys2Proof.Machine.execAck w s
  | .ignoredRegisterWrite addr w => Sys2Proof.Machine.execIgnoredRegisterWrite addr w s
  | .headerReadCompletion bus => Sys2Proof.Machine.execHeaderReadCompletion bus s
  | .drainEnd => Sys2Proof.Machine.execDrainEnd s
  | .drainLimit => Sys2Proof.Machine.execDrainLimit s
  | .powerOn cut => Sys2Proof.Machine.execPowerOn cut s
  | .resetPinAssert cut => Sys2Proof.Machine.execResetPinAssert cut s
  | .resetPinRelease => Sys2Proof.Machine.execResetPinRelease s

end Sys2Proof.Machine
end

