-- ==== Sys2Proof/Machine/Due.lean ====
section
/-! DEFINITION. What the part does of itself when no command waits: the event that is due, in a fixed order, or one
microsecond of its clock (log 1, log 2). Accesses of the memory port meet a quiet bus then. -/

namespace Sys2Proof.Machine

open Sys2Proof

/-- The row that takes a message from a key port (R34 to R40). -/
def arrivalCommand (port : Fin 4) (m : Message) : Instr :=
  match m.kind with
  | .keyDown => if m.data2 = 0 then .keyUp port else .keyDown port
  | .keyUp => .keyUp port
  | .damper => .damperArrival port
  | .control => .controlArrival port
  | .program => .programArrival port

/-- The row that carries out a request kind (R176, R196). -/
def requestCommand (kind : Byte) : Instr :=
  if kind = 1#8 then .cueScene
  else if kind = 2#8 then .cuePosition
  else if kind = 3#8 then .go
  else if kind = 4#8 then .hold
  else if kind = 5#8 then .resume
  else if kind = 6#8 then .cancel
  else if kind = 7#8 then .unlockZones
  else if kind = 8#8 then .start
  else if kind = 9#8 then .stop
  else if kind = 10#8 then .locate
  else if kind = 11#8 then .setTempo
  else if kind = 12#8 then .applySync
  else if kind = 13#8 then .releaseAll
  else if kind = 14#8 then .reload []
  else .unknownRequest

/-- The command, if a condition holds. -/
def commandIf (due : Bool) (c : Instr) : List Instr := if due then [c] else []

/-- Arrivals that key ports have handed on. -/
def dueArrivals (d : Device) : List Instr :=
  if d.engine.state = .online then
    (List.finRange 4).filterMap fun p => (d.nextArrival p).map fun a => arrivalCommand p a.msg
  else []

/-- The read of the change unit at the front of the port's queue. -/
def dueReads (c : ChangeUnit) : List Instr :=
  match c.nextRead with
  | none => []
  | some rd =>
    match rd.target with
    | .setListEntry _ => [.setListReadCompletion []]
    | .sceneRecord _ => [.sceneReadCompletion []]

/-- What the memory port's users have under way (R168). -/
def duePort (d : Device) : List Instr :=
  (match d.req.handedRequest with
    | none => []
    | some r => [requestCommand r.kind])
  ++ d.req.completions.flatMap (fun c => commandIf (!d.req.awaitsRetry c.slot) (.slotCompletion c.slot []))
  ++ commandIf d.req.visitDue.isSome (.slotVisit [])
  ++ commandIf d.scanDue .scanBegin
  ++ dueReads d.change
  ++ commandIf d.page.running.isSome (.statePageRewrite [])
  ++ commandIf (d.engine.state.isRunning && !d.jw.queue.isEmpty) (.journalWriteCompletion [])
  ++ commandIf (decide (0 < d.engine.abandonedLoads) || d.headerReadUnderWay) (.headerReadCompletion [])

/-- The timers that have come to their moments (R52, R63, R86, R97, R108, R136, R144, R15, R179, R182, R189, R191). -/
def dueTimers (d : Device) : List Instr :=
  commandIf (timerDue d.now d.regs.attnPulse) .attnPulseEnd
  ++ (List.finRange 6).flatMap (fun p =>
    commandIf (d.stage.ports[p].mainFrameDue d.now) (.mainFrameCompletion p)
      ++ commandIf (d.stage.ports[p].laneFrameDue d.now) (.laneFrameCompletion p))
  ++ commandIf (!d.tempo.isStopped && timerDue d.now d.tempo.tickAt) .tick
  ++ (List.finRange 4).flatMap (fun n => commandIf (timerDue d.now d.click.lines[n].endsAt) (.clickWidthExpiry n))
  ++ d.stage.deferrals.flatMap (fun df =>
    commandIf (d.stage.deadlineDue df.dest) (.deferDeadline df.dest.port df.dest.channel))
  ++ (if d.engine.state.isRunning then
      (List.finRange 8).flatMap fun n => commandIf (timerDue d.now d.pedals[n].timer) (.debounceExpiry n)
    else [])
  ++ commandIf (timerDue d.now d.tap.lapseAt) .tapLapse
  ++ commandIf d.sync.lossDue .syncLost
  ++ commandIf (timerDue d.now d.change.retryAt) .sceneReadRetry
  ++ d.req.retries.flatMap (fun r => commandIf (reached d.now r.dueAt) (.completionRetry r.completion.slot []))
  ++ commandIf (timerDue d.now d.page.retryAt && d.page.running.isNone) .statePageRetry
  ++ commandIf d.drainOver .drainEnd
  ++ commandIf d.drainLimitDue .drainLimit

/-- Everything that is due, in the order the model takes it (log 2). Nothing is due in reset. -/
def dueEvents (s : State) : List Instr :=
  if s.resetLow then [] else dueArrivals s.dev ++ duePort s.dev ++ dueTimers s.dev

/-- One microsecond passes on the clock (log 1). -/
def Stage.tickClock (st : Stage) : Stage := { st with clock := st.clock + 1 }

/-- One microsecond passes for the machine: on its clock and on the loss timer of the sync follower (R97; log 1). -/
def State.microsecond (s : State) : State :=
  { s with dev := (s.dev.onStage Stage.tickClock).onSync SyncFollower.microsecond }

/-- The machine with a command in front of those that wait. -/
def State.withCommand (s : State) (c : Instr) : State := { s with pending := c :: s.pending }

end Sys2Proof.Machine
end

