-- ==== Sys2Proof/Machine/Step.lean ====
section
/-! DEFINITION. One step: the command in front of the queue; on an empty queue the event that is due, or one microsecond
of the clock (log 1, log 2). -/

namespace Sys2Proof.Machine

open Sys2Proof

/-- What the part does when no command waits. -/
def idle (s : State) : Host.Outcome State Fault Refusal :=
  match dueEvents s with
  | [] => .next s.microsecond
  | c :: _ => exec c s

/-- One step of the machine. -/
def step (s : State) : Host.Outcome State Fault Refusal :=
  match s.pending with
  | [] => idle s
  | c :: rest => exec c { s with pending := rest }

/-- The machine with the command that a word spells in front of its queue. The table gives no row any bits, so no word
spells a command, and the machine stays as it is. -/
def State.withFetchWord (s : State) (nbits w : Nat) : State :=
  match decodeTableWord nbits w with
  | none => s
  | some c => s.withCommand c

end Sys2Proof.Machine
end

