-- ==== Sys2Proof/Safety.lean ====
section
/-! DEFINITION. What statements speak of: the invariants of the machine (R46, R62, R189, R201), the blocks of its state
for frames, and what an event hands to the journal (R157). -/

namespace Sys2Proof.Machine

/-! ## Outcomes -/

/-- The machine goes on. -/
def goesOn (o : Host.Outcome State Fault Refusal) : Prop := ∃ t, o = .next t

/-! ## Invariants -/

/-- Between events nothing handed waits to join the journal's queue, no cause waits to be noted, and no drain goes on
with the voice table and every port empty (R157, R181, R189). -/
def Device.isSettled (d : Device) : Bool := d.stage.entries.isEmpty && !d.pageCause && !d.drainOver

/-- The machine stands between events. -/
def State.isSettled (s : State) : Bool := s.dev.isSettled

/-- The current tempo lies in its range (R62). -/
def State.tempoInRange (s : State) : Prop :=
  Config.tempoMin ≤ s.dev.tempo.t ∧ s.dev.tempo.t ≤ Config.tempoMax

/-- The bits of CONTROL and AREA that read as 0 are 0 (R185, R201, R202). -/
def State.registersClean (s : State) : Prop :=
  s.dev.regs.control &&& ~~~controlMask = 0 ∧ s.dev.regs.area &&& 0x0000000F#32 = 0

/-- The lists of a module port are within their lengths (R46). -/
def ModulePort.within (mp : ModulePort) : Bool :=
  decide (mp.main.length ≤ Config.mainCap) && decide (mp.backlog.length ≤ Config.backlogCap) &&
    decide (mp.lane.length ≤ Config.laneCap)

/-- The lists of every module port are within their lengths, and the completion retry list holds at most one for each
slot (R46, R173). -/
def State.queuesWithin (s : State) : Prop :=
  (∀ p : Fin 6, s.dev.stage.ports[p].within = true)
    ∧ s.dev.req.retries.Pairwise fun r r' => r.completion.slot ≠ r'.completion.slot

/-- While the RESET pin is held, the part stands in its reset state: whatever its clock and the pins of its pedals
(R193). -/
def State.heldInReset (s : State) : Prop := s.resetLow = true → s.dev = s.dev.afterReset s.dev.now

/-! ## Blocks of the state, for frames -/

/-- The parts of the state that a frame names. -/
inductive Block where
  | control | area | causes | faults | fieldCode | attnPulse
  | engine | layout | progSelect | clamps | keyPorts
  | clock | voices | dampers | ports | deferrals | entries
  | tempo | click | change | pedals | tap | sync | req | page
  | journalSetup | journalCounts | journalQueue
  | eventStamp | pageCause
  | resetLow | mem | pending | drains
  deriving DecidableEq, Repr

/-- Two states agree in a block. -/
def Block.agrees (b : Block) (s t : State) : Prop :=
  match b with
  | .control => t.dev.regs.control = s.dev.regs.control
  | .area => t.dev.regs.area = s.dev.regs.area
  | .causes => t.dev.regs.causes = s.dev.regs.causes
  | .faults => t.dev.regs.faults = s.dev.regs.faults
  | .fieldCode => t.dev.regs.fieldCode = s.dev.regs.fieldCode
  | .attnPulse => t.dev.regs.attnPulse = s.dev.regs.attnPulse
  | .engine => t.dev.engine = s.dev.engine
  | .layout => t.dev.layout = s.dev.layout
  | .progSelect => t.dev.progSelect = s.dev.progSelect
  | .clamps => t.dev.clampCount = s.dev.clampCount ∧ t.dev.clampSection = s.dev.clampSection
  | .keyPorts => t.dev.keyPorts = s.dev.keyPorts
  | .clock => t.dev.stage.clock = s.dev.stage.clock
  | .voices => t.dev.stage.voices = s.dev.stage.voices
  | .dampers => t.dev.stage.dampers = s.dev.stage.dampers
  | .ports => t.dev.stage.ports = s.dev.stage.ports
  | .deferrals => t.dev.stage.deferrals = s.dev.stage.deferrals
  | .entries => t.dev.stage.entries = s.dev.stage.entries
  | .tempo => t.dev.tempo = s.dev.tempo
  | .click => t.dev.click = s.dev.click
  | .change => t.dev.change = s.dev.change
  | .pedals => t.dev.pedals = s.dev.pedals
  | .tap => t.dev.tap = s.dev.tap
  | .sync => t.dev.sync = s.dev.sync
  | .req => t.dev.req = s.dev.req
  | .page => t.dev.page = s.dev.page
  | .journalSetup =>
    t.dev.jw.mode = s.dev.jw.mode ∧ t.dev.jw.watermark = s.dev.jw.watermark ∧ t.dev.jw.mask = s.dev.jw.mask
  | .journalCounts =>
    t.dev.jw.written = s.dev.jw.written ∧ t.dev.jw.loss = s.dev.jw.loss ∧ t.dev.jw.armed = s.dev.jw.armed
  | .journalQueue => t.dev.jw.queue = s.dev.jw.queue ∧ t.dev.jw.rearm = s.dev.jw.rearm
  | .eventStamp => t.dev.eventStamp = s.dev.eventStamp
  | .pageCause => t.dev.pageCause = s.dev.pageCause
  | .resetLow => t.resetLow = s.resetLow
  | .mem => t.mem = s.mem
  | .pending => t.pending = s.pending
  | .drains => t.drains = s.drains

/-- The frame of a command: every block but those named is as it was. -/
def OnlyChanges (bs : List Block) (s t : State) : Prop := ∀ b : Block, b ∉ bs → b.agrees s t

/-- The blocks that any event may change besides its own: its stamp, the entries it hands to the journal writer, and
the state page writer (R81, R157, R181). -/
def bookkeeping : List Block := [.eventStamp, .page, .journalQueue]

/-- The frame of an event: the named blocks and the bookkeeping. -/
def EventChanges (bs : List Block) (s t : State) : Prop := OnlyChanges (bs ++ bookkeeping) s t

/-! ## What an event hands to the journal (R157) -/

/-- The journal writer's queue after an event of ONLINE or DRAINING that hands some entries: they join it under the
event's stamp and the settings in force, class mask among them, and the first carries the mark of a RELOAD (R156, R157,
R166). -/
def Journaled (es : List Entry) (s t : State) : Prop :=
  t.dev.jw.queue = s.dev.jw.queue ++ (es.zipIdx.map fun e =>
      { entry := e.1, stamp := t.dev.eventStamp, mode := s.dev.jw.mode, watermark := s.dev.jw.watermark
        mask := s.dev.jw.mask, rearm := s.dev.jw.rearm && decide (e.2 = 0) }) ∧
    t.dev.jw.rearm = (s.dev.jw.rearm && es.isEmpty)

/-- What the end of a drain leaves of the entries that waited as its event began, when the event hands none: each was
taken, in the order handed, over the free bus of the drain's number (R157, R167; log 8). -/
def EntriesTaken (s t : State) : Prop :=
  let taken := s.dev.takeAll { mem := s.mem, bus := Config.drainBus s.drains }
  t.mem = taken.2.mem ∧ t.dev.jw = taken.1.jw ∧ t.dev.jw.queue = [] ∧ t.dev.regs.causes = taken.1.regs.causes
    ∧ t.dev.regs.faults = taken.1.regs.faults ∧ t.dev.regs.attnPulse = taken.1.regs.attnPulse
    ∧ t.drains = s.drains + 1

/-- The machine runs the show: out of reset, ONLINE, between events. -/
def State.isOnline (s : State) : Bool := !s.resetLow && decide (s.dev.engine.state = .online) && s.isSettled

/-- The machine stands between events, out of reset, in any engine state but DRAINING. -/
def State.isSteady (s : State) : Bool := !s.resetLow && !decide (s.dev.engine.state = .draining) && s.isSettled

/-- The machine stands between events, out of reset, in any engine state. -/
def State.isReady (s : State) : Bool := !s.resetLow && s.isSettled

/-! ## What a request leaves (R175, R177) -/

/-- A request is completed within the scan that took it: its completion waits to be written under the event's stamp, and
the scan has gone on to the next slot (R175, R176, R177). -/
def Answered (r : Request) (code : ResultCode) (value : Nat) (s t : State) : Prop :=
  t.dev.req.completions = s.dev.req.completions ++
      [{ slot := r.slot, addr := rigAddress s.dev (slotOffset s.dev r.slot), offset := slotOffset s.dev r.slot
         code := code, value := BitVec.ofNat 32 value, tag := r.tag, stamp := t.dev.eventStamp, inScan := true }]
    ∧ t.dev.req.scan = s.dev.req.scan.map (fun (sc : Scan) => { slot := sc.slot + 1, phase := .visiting })
    ∧ t.dev.req.notice = s.dev.req.notice ∧ t.dev.req.retries = s.dev.req.retries ∧ t.dev.req.failRun = s.dev.req.failRun

/-- A request stays TAKEN: no completion is given, and the scan has gone on (R116, R121, R176). -/
def KeptInFlight (s t : State) : Prop :=
  t.dev.req = s.dev.req.beginWork.nextSlot ∧ t.dev.req.completions = s.dev.req.completions

/-- The scan has taken a request of a kind, and its owner has not yet carried it out (R175, R196). -/
def State.hasRequest (s : State) (kind : Sys2Proof.Byte) (r : Request) : Prop :=
  s.dev.req.handedRequest = some r ∧ r.kind = kind

/-- A sticky fault is set, with the FAULT cause that it latches when it was clear (R190). -/
def FaultRaised (f : StickyFault) (s t : State) : Prop :=
  t.dev.regs.faults = s.dev.regs.faults ||| (1#6 <<< f.index) ∧
    t.dev.regs.causes = (if s.dev.regs.faultSet f then s.dev.regs.causes else s.dev.regs.causes ||| (1#3 <<< Cause.fault.index))

end Sys2Proof.Machine
end

