-- ==== Sys2Proof/WellFormed.lean ====
section
/-! DEFINITION. Which commands spell their rows: a CONTROL write must carry the bits its row names, a register write
must write some byte, a reset can cut an operation only before its last access, and an ignored register write must not
aim at a register that takes writes (R177, R181, R186, R193, R201, R202). -/

namespace Sys2Proof

open Sys2Proof.Machine (regWord isWritableRegister)

/-- An access of the register bus writes at least one byte (R202). -/
def lanesWritten (w : RegWrite) : Bool := w.lanes != 0

/-- A reset cuts a page rewrite before its tail, a completion before its DONE, and the taking of a journal entry before
its fifth access, the last that any taking makes, behind a read and a GAP (R155, R159, R177, R181, R193). The accesses
of a shorter taking depend on the state: its cut is struck at its own last access (R167; `cutOperation`). -/
def cutShortOfEnd (cut : ResetCut) : Bool :=
  decide (cut.page.length ≤ 2) && cut.slots.all (fun c => decide (c.2.length ≤ 4)) &&
    cut.retries.all (fun c => decide (c.2.length ≤ 4)) && decide (cut.journal.length ≤ 4)

/-- The commands whose operands spell their row of the table. -/
def Instr.wellFormed : Instr → Bool
  | .controlEnableSet w => lanesWritten w && (regWord w).getLsbD 0 && !(regWord w).getLsbD 31
  | .controlEnableClear w => lanesWritten w && !(regWord w).getLsbD 0 && !(regWord w).getLsbD 31
  | .attentionMode w => lanesWritten w && !(regWord w).getLsbD 31
  | .causeEnable w => lanesWritten w && !(regWord w).getLsbD 31
  | .controlReset w cut => lanesWritten w && (regWord w).getLsbD 31 && cutShortOfEnd cut
  | .powerOn cut => cutShortOfEnd cut
  | .resetPinAssert cut => cutShortOfEnd cut
  | .ignoredRegisterWrite addr w => lanesWritten w && !isWritableRegister addr
  | .keyByteArrival _ _ _ => true
  | .keyDown _ => true
  | .keyUp _ => true
  | .damperArrival _ => true
  | .controlArrival _ => true
  | .programArrival _ => true
  | .mainFrameCompletion _ => true
  | .laneFrameCompletion _ => true
  | .owedReleaseRetry _ => true
  | .backlogMove _ => true
  | .deferralReleaseEnding _ _ => true
  | .deferDeadline _ _ => true
  | .tick => true
  | .clickWidthExpiry _ => true
  | .attnPulseEnd => true
  | .pedalInputChange _ _ => true
  | .debounceExpiry _ => true
  | .tapLapse => true
  | .syncEdge => true
  | .syncLost => true
  | .setListReadCompletion _ => true
  | .sceneReadCompletion _ => true
  | .sceneReadRetry => true
  | .notice w => lanesWritten w
  | .scanBegin => true
  | .slotVisit _ => true
  | .cueScene => true
  | .cuePosition => true
  | .go => true
  | .hold => true
  | .resume => true
  | .cancel => true
  | .unlockZones => true
  | .start => true
  | .stop => true
  | .locate => true
  | .setTempo => true
  | .applySync => true
  | .releaseAll => true
  | .reload _ => true
  | .unknownRequest => true
  | .slotCompletion _ _ => true
  | .completionRetry _ _ => true
  | .statePageRewrite _ => true
  | .statePageRetry => true
  | .journalWriteCompletion _ => true
  | .area w => lanesWritten w
  | .ack w => lanesWritten w
  | .headerReadCompletion _ => true
  | .drainEnd => true
  | .drainLimit => true
  | .resetPinRelease => true

end Sys2Proof
end

