-- ==== Sys2Proof/Certificates/Slice0/Obligations.lean ====
section
/-! DEFINITION. The statements for the provers. Each says what its rules say of the machine; OBLIGATIONS.json lists them
with their rules. The next state of a command is given by its frame: every block of the state that the statement does not
name is as it was. -/

open Sys2Proof Sys2Proof.Machine

/-! ## The step -/

/-- A step takes the command in front of the queue and is that command's effect on the machine with the queue's rest.
The queue is the model's own way to send commands (log 2). -/
def Obligations.StepRunsFrontCommand : Prop :=
  ∀ (c : Instr) (s : State), step (s.withCommand c) = exec c s

/-! ## Reset and invariants -/

/-- What the machine holds right after reset, where the spec gives the value (R43, R58, R82, R90, R100, R114, R140,
R153, R167, R183, R193). -/
def Obligations.ResetHoldsTheSpecValues : Prop :=
  let d := State.reset.dev
  d.regs.control = 0 ∧ d.regs.area = 0 ∧ d.regs.causes = 0 ∧ d.regs.faults = 0 ∧ d.regs.fieldCode = 0
    ∧ attnHigh State.reset = true ∧ d.engine.state = .offline ∧ d.now = 0
    ∧ d.req.notice = false ∧ d.req.scan = none ∧ d.req.retries = []
    ∧ (∀ k : Fin 128, d.stage.voices[k] = none) ∧ d.stage.deferrals = []
    ∧ (∀ (p : Fin 4) (c : BitVec 4), d.stage.damperDown p c = false)
    ∧ (∀ p : Fin 4, d.keyPorts[p].asm = .seeking ∧ d.keyPorts[p].held = [])
    ∧ (∀ p : Fin 6, d.stage.ports[p].isEmpty = true ∧ d.stage.ports[p].tx = .idle ∧ d.stage.ports[p].polarity = .normal)
    ∧ d.tempo.t = 12000 ∧ d.tempo.acc = 0 ∧ d.tempo.meter = 4 ∧ d.tempo.source = .manual ∧ d.tempo.transport = .stopped
    ∧ d.tempo.bar = 1 ∧ d.tempo.beat = 1 ∧ d.tempo.tick = 0 ∧ d.tempo.pending = none ∧ d.tempo.glide = none
    ∧ d.change.state = .idle ∧ d.change.copy = none ∧ d.change.active = none ∧ d.change.zones = []
    ∧ d.change.setPosition = none ∧ d.change.activation = 0
    ∧ d.tap = TapCapture.reset ∧ d.sync.state = .off ∧ d.sync.ring = [] ∧ d.sync.estimate = none
    ∧ (∀ n : Fin 4, d.click.lines[n].endsAt = none ∧ d.click.lines[n].setup.enable = false
        ∧ d.click.lines[n].subdivision = 1 ∧ d.click.lines[n].accents = 1)
    ∧ d.click.mute = false
    ∧ (∀ n : Fin 8, d.pedals[n].pressed = false ∧ d.pedals[n].timer = none ∧ d.pedals[n].setup = PedalSetup.reset)
    ∧ d.jw.written = 0 ∧ d.jw.loss.count = 0 ∧ d.jw.mode = .stop ∧ d.jw.watermark = 1 ∧ d.jw.mask = 0

/-- The machine after reset meets every invariant below. -/
def Obligations.ResetMeetsTheInvariants : Prop :=
  Mem.wf State.reset.mem = true ∧ State.reset.isSettled = true ∧ State.reset.tempoInRange ∧ State.reset.registersClean
    ∧ State.reset.queuesWithin

/-- Every step keeps the shared memory in its canonical form. -/
def Obligations.MemoryStaysCanonical : Prop :=
  ∀ s t : State, Mem.wf s.mem = true → step s = .next t → Mem.wf t.mem = true

/-- Every step leaves the machine between events: nothing handed is left, no cause is left, and no drain that is over
goes on. -/
def Obligations.EventsEndSettled : Prop :=
  ∀ s t : State, s.isSettled = true → step s = .next t → t.isSettled = true

/-- Every step keeps the current tempo between 2000 and 30000 (R62). -/
def Obligations.TempoStaysInRange : Prop :=
  ∀ s t : State, s.tempoInRange → step s = .next t → t.tempoInRange

/-- Every step keeps the unnamed bits of CONTROL and the four lowest bits of AREA at 0 (R185, R201, R202). -/
def Obligations.RegistersStayClean : Prop :=
  ∀ s t : State, s.registersClean → step s = .next t → t.registersClean

/-- Every step keeps every main queue within 32 messages, every backlog within 16 and every click lane within 8 (R46,
R48), and the completion retry list at most one for each slot (R173). -/
def Obligations.QueuesStayWithin : Prop :=
  ∀ s t : State, s.queuesWithin → step s = .next t → t.queuesWithin

/-- The commands that act while the RESET pin is held low: reset itself, its release, and the levels of pedal pins. -/
def actsInReset : Instr → Bool
  | .powerOn _ => true
  | .resetPinAssert _ => true
  | .resetPinRelease => true
  | .pedalInputChange _ _ => true
  | _ => false

/-- While the RESET pin is held low, no other command changes anything, and every register reads as after reset
(R193). -/
def Obligations.ResetPinHoldsThePart : Prop :=
  ∀ (c : Instr) (s : State), s.resetLow = true → actsInReset c = false →
    exec c s = .next s ∧ ∀ addr : Word, readRegister s addr = readRegister State.reset addr

/-! ## Key ports (R21 to R23, R200) -/

/-- Bytes at a frame assembler that break no frame (R21, R23, R200): a start byte in SEEKING or WAITING begins a
frame, a data byte in COLLECTING joins it, one in SEEKING is discarded, and the fourth byte of a whole frame hands the
message on, stamped with the clock at this moment, and leaves the assembler waiting. Outside ONLINE every byte is
discarded. -/
def Obligations.KeyBytesAssemble : Prop :=
  ∀ (s : State) (port : Fin 4) (byte : Byte),
    let kp := s.dev.keyPorts[port]
    (∀ stopBit, s.dev.engine.state ≠ .online → exec (.keyByteArrival port byte stopBit) s = .next s) ∧
    (s.isOnline = true → isStartByte byte = true → kp.asm ≠ .collecting →
      ∃ t, exec (.keyByteArrival port byte true) s = .next t
        ∧ t.dev.keyPorts = s.dev.keyPorts.set port { kp with asm := .collecting, held := [byte] }
        ∧ Journaled [] s t ∧ EventChanges [.keyPorts] s t) ∧
    (s.isOnline = true → isStartByte byte = false → kp.asm = .collecting → kp.held.length < 3 →
      ∃ t, exec (.keyByteArrival port byte true) s = .next t
        ∧ t.dev.keyPorts = s.dev.keyPorts.set port { kp with held := kp.held ++ [byte] }
        ∧ Journaled [] s t ∧ EventChanges [.keyPorts] s t) ∧
    (s.isOnline = true → isStartByte byte = false → kp.asm = .seeking →
      ∃ t, exec (.keyByteArrival port byte true) s = .next t ∧ Journaled [] s t ∧ EventChanges [] s t) ∧
    (∀ (b0 b1 b2 : Byte) (kind : FrameKind), s.isOnline = true → isStartByte byte = false → kp.asm = .collecting →
      kp.held = [b0, b1, b2] → frameKindOf b0 = some kind → b1.toNat ≤ 15 →
      ∃ t, exec (.keyByteArrival port byte true) s = .next t
        ∧ t.dev.keyPorts = s.dev.keyPorts.set port
            { asm := .waiting, held := []
              handed := kp.handed ++
                [{ msg := { kind := kind, channel := b1.setWidth 4, data1 := b2.setWidth 7, data2 := byte.setWidth 7 }
                   clock := s.dev.now }] }
        ∧ Journaled [] s t ∧ EventChanges [.keyPorts] s t)

/-- What a line fault leaves: the assembler as given, a LINE_FAULT entry with its reason and bytes, and the LINE
sticky fault with the FAULT cause it brings (R22). -/
def LineFaultOf (s : State) (port : Fin 4) (byte : Byte) (stopBit : Bool) (asm : AsmState) (held : List Byte)
    (reason : LineReason) (bytes : Nat) : Prop :=
  ∃ t, exec (.keyByteArrival port byte stopBit) s = .next t
    ∧ t.dev.keyPorts = s.dev.keyPorts.set port { s.dev.keyPorts[port] with asm := asm, held := held }
    ∧ Journaled [.lineFault port reason bytes] s t ∧ FaultRaised .line s t
    ∧ EventChanges [.keyPorts, .faults, .causes, .attnPulse] s t

/-- The five cases of R22, with the discarded bytes and the assembler afterwards; after a stray byte the bytes that
follow it in SEEKING are discarded without report. -/
def Obligations.BrokenFramesAreReported : Prop :=
  ∀ (s : State) (port : Fin 4) (byte : Byte), s.isOnline = true →
    let kp := s.dev.keyPorts[port]
    LineFaultOf s port byte false .seeking [] .badStop (kp.held.length + 1) ∧
    (isStartByte byte = true → kp.asm = .collecting →
      LineFaultOf s port byte true .collecting [byte] .cutShort kp.held.length) ∧
    (isStartByte byte = false → kp.asm = .waiting → LineFaultOf s port byte true .seeking [] .stray 1) ∧
    (∀ b0 b1 b2, isStartByte byte = false → kp.asm = .collecting → kp.held = [b0, b1, b2] →
      (frameKindOf b0 = none → LineFaultOf s port byte true .waiting [] .badKind 4) ∧
      (frameKindOf b0 ≠ none → 15 < b1.toNat → LineFaultOf s port byte true .waiting [] .badChannel 4)) ∧
    (isStartByte byte = false → kp.asm = .seeking →
      ∃ t, exec (.keyByteArrival port byte true) s = .next t ∧ Journaled [] s t ∧ EventChanges [] s t)

/-! ## Routing (R24 to R42) -/

/-- The arrival that a key port has handed on next leaves it. -/
def ArrivalTaken (port : Fin 4) (s t : State) : Prop :=
  t.dev.keyPorts = vecModify s.dev.keyPorts port fun kp => { kp with handed := kp.handed.tail }

/-- The stage after one candidate of the entry at place `k` has been offered (R35). A deferral of its destination ends
first: it leaves the list, the destination is cut, and its entry messages are offered in order (R31, R137). Below the
limit the KEY_DOWN joins the port's main queue and a PENDING record the entry; at the limit it is dropped with DROP
LIMIT and nothing is recorded (R48, R56). -/
def candidateOffered (k : Fin 128) (st : Stage) (c : Candidate) : Stage :=
  let p := c.key.dest.port
  let ended := match st.deferralFor c.key.dest with
    | none => st
    | some df => ({ st with deferrals := st.deferrals.erase df }.cut c.key.dest).offerEntries p df.messages
  if ended.ports[p].level < 24 then
    { ended with
      ports := vecModify ended.ports p fun mp => mp.admitMain ended.clock c.message
      voices := ended.voices.set k
        (ended.voices[k].map fun v => { v with dests := v.dests ++ [{ key := c.key, flag := .pending }] }) }
  else ended.emit (.drop p c.message .nonRelease .limit ended.ports[p].level)

/-- A KEY_DOWN leaves the stage as given; the entries that its stage shows and then its own are handed over. -/
def KeyDownLeaves (port : Fin 4) (st : Stage) (es : List Entry) (s t : State) : Prop :=
  exec (.keyDown port) s = .next t ∧ t.dev.stage.voices = st.voices ∧ t.dev.stage.ports = st.ports
    ∧ t.dev.stage.deferrals = st.deferrals ∧ Journaled (st.entries ++ es) s t ∧ ArrivalTaken port s t
    ∧ EventChanges [.keyPorts, .voices, .ports, .deferrals] s t

/-- A KEY_DOWN (R33, R34, R35, R42). The held entry of its source is released first, whether or not the key matches a
zone. Without candidates KEY_IN is all; with the table full VOICE_FULL comes before it and nothing is offered.
Otherwise the lowest free index is claimed and the candidates are offered in zone order; an entry that has records
stays, SOUNDING, one without is not kept, and KEY_IN comes last with their number and the retrigger. A retriggered
entry with one PENDING record that no other doubles, on a destination without deferral, leaves the table behind its
KEY_UP, or waits RELEASING with the record OWED at a full port (R29). One candidate below the limit on a destination
without deferral is one voice and one message. That the index is none when no record is kept is the model's reading
(log 18). -/
def Obligations.KeyDownClaimsVoice : Prop :=
  ∀ (s : State) (port : Fin 4) (a : Arrival), s.isOnline = true →
    s.dev.nextArrival port = some a → isKeyDown a.msg = true →
    let src := sourceOf port a.msg
    let vel := a.msg.data2
    let held := s.dev.stage.findVoice (Voice.isHeldFrom src)
    let freed := match held with
      | none => s.dev.stage
      | some k => s.dev.stage.releaseVoice k
    let found := candidates s.dev.change.zones src vel
    (found = [] → ∃ t, KeyDownLeaves port freed [.keyDownIn src vel none 0 held.isSome] s t) ∧
    (found ≠ [] → freed.freeIndex = none →
      ∃ t, KeyDownLeaves port freed [.voiceFull src vel, .keyDownIn src vel none 0 held.isSome] s t) ∧
    (∀ k : Fin 128, found ≠ [] → freed.freeIndex = some k →
      let voice : Voice := { source := src, velIn := vel, state := .sounding, dests := [] }
      let offered := found.foldl (candidateOffered k) { freed with voices := freed.voices.set k (some voice) }
      let records := (offered.destsAt k).length
      (records ≠ 0 → ∃ t, KeyDownLeaves port offered [.keyDownIn src vel (some k) records held.isSome] s t) ∧
      (records = 0 →
        ∃ t, KeyDownLeaves port { offered with voices := offered.voices.set k none }
          [.keyDownIn src vel none 0 held.isSome] s t)) ∧
    (∀ (k : Fin 128) (v : Voice) (key : DestKey), held = some k → s.dev.stage.voices[k] = some v →
      v.dests = [{ key := key, flag := .pending }] → s.dev.stage.heldElsewhere k 0 key = false →
      s.dev.stage.deferralFor key.dest = none →
      (s.dev.stage.ports[key.dest.port].main.length < 32 →
        freed =
          { s.dev.stage with
            voices := s.dev.stage.voices.set k none
            ports := vecModify s.dev.stage.ports key.dest.port fun mp => mp.admitMain s.dev.now (keyUpMessage key) }) ∧
      (32 ≤ s.dev.stage.ports[key.dest.port].main.length →
        freed =
          { s.dev.stage with
            voices := s.dev.stage.voices.set k
              (some { v with state := .releasing, dests := [{ key := key, flag := .owed }] }) })) ∧
    (∀ (c : Candidate) (k : Fin 128), held = none → found = [c] → s.dev.stage.deferralFor c.key.dest = none →
      s.dev.stage.ports[c.key.dest.port].level < 24 → s.dev.stage.freeIndex = some k →
      ∃ t, exec (.keyDown port) s = .next t
        ∧ t.dev.stage.voices = s.dev.stage.voices.set k
            (some { source := src, velIn := vel, state := .sounding, dests := [{ key := c.key, flag := .pending }] })
        ∧ t.dev.stage.ports = vecModify s.dev.stage.ports c.key.dest.port (fun mp => mp.admitMain s.dev.now c.message)
        ∧ Journaled [.keyDownIn src vel (some k) 1 false] s t
        ∧ ArrivalTaken port s t ∧ EventChanges [.keyPorts, .voices, .ports] s t)

/-- The test by which a KEY_UP finds its entry: the SOUNDING entry of its source (R36). -/
def soundingFrom (src : Source) (v : Voice) : Bool := decide (v.source = src) && decide (v.state = .sounding)

/-- A KEY_UP (R29, R36, R42, R47): without a SOUNDING entry of its source it is discarded; under a damper that is down
the entry becomes SUSTAINED and nothing is offered; with the damper up, for an entry with one PENDING record that no
other record doubles, the KEY_UP is admitted and the entry is removed, or the port is full and the entry waits
RELEASING with the record OWED. -/
def Obligations.KeyUpReleasesVoice : Prop :=
  ∀ (s : State) (port : Fin 4) (a : Arrival), s.isOnline = true →
    s.dev.nextArrival port = some a → isKeyUp a.msg = true →
    let found := s.dev.stage.findVoice (soundingFrom (sourceOf port a.msg))
    (found = none →
      ∃ t, exec (.keyUp port) s = .next t
        ∧ Journaled [.keyUpIn (sourceOf port a.msg) a.msg.data2 none .notFound 0] s t
        ∧ ArrivalTaken port s t ∧ EventChanges [.keyPorts] s t) ∧
    (∀ (k : Fin 128) (v : Voice), found = some k → s.dev.stage.voices[k] = some v →
      (s.dev.stage.damperDown port a.msg.channel = true →
        ∃ t, exec (.keyUp port) s = .next t
          ∧ t.dev.stage.voices = s.dev.stage.voices.set k (some { v with state := .sustained })
          ∧ Journaled [.keyUpIn (sourceOf port a.msg) a.msg.data2 (some k) .sustained v.velIn] s t
          ∧ ArrivalTaken port s t ∧ EventChanges [.keyPorts, .voices] s t) ∧
      (∀ key : DestKey, s.dev.stage.damperDown port a.msg.channel = false →
        v.dests = [{ key := key, flag := .pending }] → s.dev.stage.heldElsewhere k 0 key = false →
        s.dev.stage.deferralFor key.dest = none →
        (s.dev.stage.ports[key.dest.port].main.length < 32 →
          ∃ t, exec (.keyUp port) s = .next t
            ∧ t.dev.stage.voices = s.dev.stage.voices.set k none
            ∧ t.dev.stage.ports = vecModify s.dev.stage.ports key.dest.port
                (fun mp => mp.admitMain s.dev.now (keyUpMessage key))
            ∧ Journaled [.keyUpIn (sourceOf port a.msg) a.msg.data2 (some k) .releasing v.velIn] s t
            ∧ ArrivalTaken port s t ∧ EventChanges [.keyPorts, .voices, .ports] s t) ∧
        (32 ≤ s.dev.stage.ports[key.dest.port].main.length →
          ∃ t, exec (.keyUp port) s = .next t
            ∧ t.dev.stage.voices = s.dev.stage.voices.set k
                (some { v with state := .releasing, dests := [{ key := key, flag := .owed }] })
            ∧ Journaled [.keyUpIn (sourceOf port a.msg) a.msg.data2 (some k) .releasing v.velIn] s t
            ∧ ArrivalTaken port s t ∧ EventChanges [.keyPorts, .voices] s t)))

/-- The level of one damper has been set, and no other. -/
def DamperSet (port : Fin 4) (channel : BitVec 4) (down : Bool) (s t : State) : Prop :=
  t.dev.stage.damperDown port channel = down ∧
    ∀ (q : Fin 4) (ch : BitVec 4), (q ≠ port ∨ ch ≠ channel) →
      t.dev.stage.damperDown q ch = s.dev.stage.damperDown q ch

/-- A DAMPER arrival sets the level of its key port and channel: down for any data1 but 0, up for 0; its DAMPER_IN entry
is handed over last (R37, R42). Down, or up with no SUSTAINED entry there, that is all. Up leaves no SUSTAINED entry
there; the only one, with one PENDING record that no other record doubles, is released: its KEY_UP is admitted and the
entry removed, or the port is full and it waits RELEASING with the record OWED (R29, R38). -/
def Obligations.DamperArrivalSetsLevel : Prop :=
  ∀ (s : State) (port : Fin 4) (a : Arrival), s.isOnline = true →
    s.dev.nextArrival port = some a → a.msg.kind = .damper →
    ((a.msg.data1 = 0 → s.dev.stage.sustainedOf port a.msg.channel = []) →
      ∃ t, exec (.damperArrival port) s = .next t
        ∧ DamperSet port a.msg.channel (decide (a.msg.data1 ≠ 0)) s t
        ∧ Journaled [.damperIn port a.msg.channel (decide (a.msg.data1 ≠ 0))] s t
        ∧ ArrivalTaken port s t ∧ EventChanges [.keyPorts, .dampers] s t) ∧
    (a.msg.data1 = 0 →
      ∃ t, exec (.damperArrival port) s = .next t ∧ DamperSet port a.msg.channel false s t
        ∧ t.dev.stage.sustainedOf port a.msg.channel = []
        ∧ (∃ es, Journaled (es ++ [.damperIn port a.msg.channel false]) s t)
        ∧ ArrivalTaken port s t ∧ EventChanges [.keyPorts, .dampers, .voices, .ports, .deferrals] s t) ∧
    (∀ (k : Fin 128) (v : Voice) (key : DestKey), a.msg.data1 = 0 →
      s.dev.stage.sustainedOf port a.msg.channel = [k] → s.dev.stage.voices[k] = some v →
      v.dests = [{ key := key, flag := .pending }] → s.dev.stage.heldElsewhere k 0 key = false →
      s.dev.stage.deferralFor key.dest = none →
      (s.dev.stage.ports[key.dest.port].main.length < 32 →
        ∃ t, exec (.damperArrival port) s = .next t ∧ DamperSet port a.msg.channel false s t
          ∧ t.dev.stage.voices = s.dev.stage.voices.set k none
          ∧ t.dev.stage.ports = vecModify s.dev.stage.ports key.dest.port
              (fun mp => mp.admitMain s.dev.now (keyUpMessage key))
          ∧ Journaled [.damperIn port a.msg.channel false] s t
          ∧ ArrivalTaken port s t ∧ EventChanges [.keyPorts, .dampers, .voices, .ports] s t) ∧
      (32 ≤ s.dev.stage.ports[key.dest.port].main.length →
        ∃ t, exec (.damperArrival port) s = .next t ∧ DamperSet port a.msg.channel false s t
          ∧ t.dev.stage.voices = s.dev.stage.voices.set k
              (some { v with state := .releasing, dests := [{ key := key, flag := .owed }] })
          ∧ Journaled [.damperIn port a.msg.channel false] s t
          ∧ ArrivalTaken port s t ∧ EventChanges [.keyPorts, .dampers, .voices] s t))

/-- A CONTROL that no zone passes goes nowhere; one that the zones pass to a single destination is admitted on that
destination's channel while its port is below the limit, and dropped with DROP LIMIT otherwise (R39, R48, R56). -/
def Obligations.ControlArrivalPasses : Prop :=
  ∀ (s : State) (port : Fin 4) (a : Arrival), s.isOnline = true →
    s.dev.nextArrival port = some a → a.msg.kind = .control →
    (controlDests s.dev.change.zones port a.msg.channel = [] →
      ∃ t, exec (.controlArrival port) s = .next t ∧ Journaled [] s t ∧ ArrivalTaken port s t
        ∧ EventChanges [.keyPorts] s t) ∧
    (∀ d : Dest, controlDests s.dev.change.zones port a.msg.channel = [d] →
      let m : Message := { a.msg with channel := d.channel }
      (s.dev.stage.ports[d.port].level < 24 →
        ∃ t, exec (.controlArrival port) s = .next t
          ∧ t.dev.stage.ports = vecModify s.dev.stage.ports d.port (fun mp => mp.admitMain s.dev.now m)
          ∧ Journaled [] s t ∧ ArrivalTaken port s t ∧ EventChanges [.keyPorts, .ports] s t) ∧
      (24 ≤ s.dev.stage.ports[d.port].level →
        ∃ t, exec (.controlArrival port) s = .next t
          ∧ Journaled [.drop d.port m .nonRelease .limit s.dev.stage.ports[d.port].level] s t
          ∧ ArrivalTaken port s t ∧ EventChanges [.keyPorts] s t))

/-- A PROGRAM arrival off the program-select port and channel is discarded; on it, in IDLE and CUED, it cues the scene
of data1 with a waiting go; in HELD with the loading flag clear it begins the copy of that scene, and its go is
absorbed by the one in flight; in LOADING, in ARMED and in HELD with the loading flag it is refused with CUE_TAKEN BUSY
(R40, R116, R120). What that entry's other details hold is the model's reading (log 16). -/
def Obligations.ProgramArrivalSelectsScene : Prop :=
  ∀ (s : State) (port : Fin 4) (a : Arrival), s.isOnline = true →
    s.dev.nextArrival port = some a → a.msg.kind = .program →
    (s.dev.progSelect ≠ some (port, a.msg.channel) →
      ∃ t, exec (.programArrival port) s = .next t ∧ Journaled [] s t ∧ ArrivalTaken port s t
        ∧ EventChanges [.keyPorts] s t) ∧
    (s.dev.progSelect = some (port, a.msg.channel) →
      (s.dev.change.state = .idle ∨ s.dev.change.state = .cued →
        ∃ t, exec (.programArrival port) s = .next t
          ∧ t.dev.change =
              { s.dev.change with
                state := .loading, copy := none
                load := some { origin := .programSelect, position := none, scene := some a.msg.data1, reads := 0
                               headRead := 0, retryAt := none }
                go := some { origin := .programSelect, waiting := true }
                reads := s.dev.change.reads ++ [{ target := .sceneRecord a.msg.data1, abandoned := false }] }
          ∧ Journaled [] s t ∧ ArrivalTaken port s t ∧ EventChanges [.keyPorts, .change] s t) ∧
      (s.dev.change.state = .held → s.dev.change.loadingFlag = false →
        ∃ t, exec (.programArrival port) s = .next t
          ∧ t.dev.change =
              { s.dev.change with
                loadingFlag := true
                load := some { origin := .programSelect, position := none, scene := some a.msg.data1, reads := 0
                               headRead := 0, retryAt := none }
                reads := s.dev.change.reads ++ [{ target := .sceneRecord a.msg.data1, abandoned := false }] }
          ∧ Journaled [] s t ∧ ArrivalTaken port s t ∧ EventChanges [.keyPorts, .change] s t) ∧
      (s.dev.change.state = .loading ∨ s.dev.change.state = .armed ∨
          (s.dev.change.state = .held ∧ s.dev.change.loadingFlag = true) →
        ∃ t, exec (.programArrival port) s = .next t
          ∧ Journaled [.cueTaken 0 .busy 0 .programSelect (some a.msg.data1) none] s t
          ∧ ArrivalTaken port s t ∧ EventChanges [.keyPorts] s t))

/-- The candidates of a KEY_DOWN, with their keys and velocities (R25, R26). The list goes through the zones in set
order; a matching zone adds its one candidate at its place, or none when the transposed key leaves 0-127, and the other
zones are not affected; from 0-8 zones there are 0-8 candidates. A SCALE curve rounds to the nearest and clamps to
1-127, and a FIXED one gives its value whatever the velocity in. The velocity out travels in the KEY_DOWN offered, and
the voice entry does not depend on it. -/
def Obligations.CandidatesFollowTheCurve : Prop :=
  (∀ (src : Source) (vel : BitVec 7), candidates [] src vel = [] ∧
    ∀ (z : Zone) (zs : List Zone),
      candidates (z :: zs) src vel =
        (if z.isMatch src vel then (z.candidate src.key vel).toList else []) ++ candidates zs src vel) ∧
  (∀ (zs : List Zone) (src : Source) (vel : BitVec 7), zs.length ≤ 8 → (candidates zs src vel).length ≤ 8) ∧
  (∀ (st : Stage) (k : Fin 128) (c c' : Candidate),
    c.message = { kind := .keyDown, channel := c.key.dest.channel, data1 := c.key.key, data2 := c.velocity } ∧
    (c.key = c'.key → (st.offerCandidate k c).voices = (st.offerCandidate k c').voices)) ∧
  ∀ (z : Zone) (key vel : BitVec 7), -48 ≤ z.transpose → z.transpose ≤ 48 →
    (z.candidate key vel = none ↔ (key.toNat : Int) + z.transpose < 0 ∨ 127 < (key.toNat : Int) + z.transpose) ∧
    (∀ c : Candidate, z.candidate key vel = some c →
      (c.key.key.toNat : Int) = key.toNat + z.transpose ∧ c.key.dest = z.dest ∧ c.velocity = z.velocityOut vel) ∧
    (z.curve = .scale →
      ((z.velocityOut vel).toNat : Int) = max 1 (min 127 (((vel.toNat * z.gain + 32) / 64 : Nat) + z.offset))) ∧
    (z.curve = .fixed → 1 ≤ z.fixedValue → z.fixedValue ≤ 127 → (z.velocityOut vel).toNat = z.fixedValue)

/-! ## Module ports and deferrals (R30, R46 to R57, R134 to R136) -/

/-- The four admission classes at a port: a release below occupancy 32; a non-release below level 24, else DROP LIMIT;
an entry message in the main queue, else the backlog, else DROP BACKLOG; a click message below 8, else CLICK_DROP (R47
to R50, R56). -/
def Obligations.OffersFollowTheirClass : Prop :=
  ∀ (st : Stage) (p : Fin 6) (m : Message) (line : Fin 4),
    let mp := st.ports[p]
    (st.offerRelease p m = if mp.main.length < 32 then st.modifyPort p (·.admitMain st.clock m) else st) ∧
    (st.offerNonRelease p m =
      if mp.main.length + mp.backlog.length < 24 then st.modifyPort p (·.admitMain st.clock m)
      else st.emit (.drop p m .nonRelease .limit (mp.main.length + mp.backlog.length))) ∧
    (st.offerEntry p m =
      if mp.main.length < 32 then st.modifyPort p (·.admitMain st.clock m)
      else if mp.backlog.length < 16 then st.modifyPort p fun q => { q with backlog := q.backlog ++ [m] }
      else st.emit (.drop p m .entry .backlog (mp.main.length + mp.backlog.length))) ∧
    (st.offerClick p line m =
      if mp.lane.length < 8 then st.modifyPort p (·.admitLane st.clock m)
      else st.emit (.clickDrop p line m mp.lane.length))

/-- A click-lane frame completes: the lane's head leaves, the next frame is the new lane head's, else the main queue's
head's, else none; a pending polarity is applied first, and nothing else moves: no owed release is offered and the
backlog stays (R53, R57). Only where the frame was the last thing that a drain waited for does the drain end with it
(R189), and the entries that wait are then taken (R157); that they are taken within this event, over a bus that the
counter of drains picks, is the model's choice (log 8). -/
def Obligations.LaneFrameCompletes : Prop :=
  ∀ (s : State) (p : Fin 6), s.isReady = true → s.dev.stage.ports[p].laneFrameDue s.dev.now = true →
    let mp := s.dev.stage.ports[p]
    ∃ t, exec (.laneFrameCompletion p) s = .next t
      ∧ t.dev.stage.ports = s.dev.stage.ports.set p
          { mp with
            lane := mp.lane.tail
            polarity := mp.pendingPolarity.getD mp.polarity
            pendingPolarity := none
            tx := if mp.lane.tail ≠ [] then .sendingLane (after s.dev.now 160)
              else if mp.main ≠ [] then .sendingMain (after s.dev.now 160) else .idle }
      ∧ EventChanges [.ports, .engine, .fieldCode, .pedals, .journalCounts, .mem, .faults, .causes, .attnPulse, .drains] s t
      ∧ (s.dev.engine.state ≠ .draining ∨ t.dev.stage.isQuiet = false → Journaled [] s t ∧ EventChanges [.ports] s t)
      ∧ (s.dev.jw.queue = [] → Journaled [] s t ∧ EventChanges [.ports, .engine, .fieldCode, .pedals, .drains] s t)

/-- A port after the steps of a main-queue frame's completion that follow its head and the owed releases (R53, R54,
R57): the backlog moves while the main queue has room, a pending polarity is applied, and the next frame is the lane
head's, else the main queue's head's, else none. -/
def nextFramePicked (mp : ModulePort) (now : Word) : ModulePort :=
  let main := mp.main ++ mp.backlog.take (32 - mp.main.length)
  { mp with
    main := main
    backlog := mp.backlog.drop (32 - mp.main.length)
    polarity := mp.pendingPolarity.getD mp.polarity
    pendingPolarity := none
    tx := if mp.lane ≠ [] then .sendingLane (after now 160) else if main ≠ [] then .sendingMain (after now 160) else .idle }

/-- A main-queue frame completes (R53, R54): the head leaves; the owed releases of the port are offered in order, up to
the first refusal (R30); the backlog moves; the next frame is picked. Without an owed release the freed place takes the
backlog's head; the only OWED record of the port, alone in its entry, takes it before the backlog, and its entry is
removed. The two steps in the middle are each a row of their own too, which is the model's choice (log 31): an owed
release goes out when there is room and stays when there is none, and one place takes the backlog's head. -/
def Obligations.MainFrameCompletes : Prop :=
  ∀ (s : State) (p : Fin 6), s.isSteady = true →
    let mp := s.dev.stage.ports[p]
    let freed : ModulePort := { mp with main := mp.main.tail }
    let owedThere := s.dev.stage.recordsWhere (fun r => decide (r.flag = .owed) && decide (r.key.dest.port = p))
    (mp.mainFrameDue s.dev.now = true → owedThere = [] →
      ∃ t, exec (.mainFrameCompletion p) s = .next t
        ∧ t.dev.stage.ports = s.dev.stage.ports.set p (nextFramePicked freed s.dev.now)
        ∧ Journaled [] s t ∧ EventChanges [.ports] s t) ∧
    (mp.mainFrameDue s.dev.now = true →
      let served := { s.dev.stage with ports := s.dev.stage.ports.set p freed }.retryOwed p
      ∃ t, exec (.mainFrameCompletion p) s = .next t
        ∧ t.dev.stage.voices = served.voices ∧ t.dev.stage.deferrals = served.deferrals
        ∧ t.dev.stage.ports = served.ports.set p (nextFramePicked served.ports[p] s.dev.now)
        ∧ (s.dev.engine.state = .online → Journaled served.entries s t)
        ∧ EventChanges [.voices, .ports, .deferrals] s t) ∧
    (∀ (k : Fin 128) (v : Voice) (key : DestKey), owedThere = [(k, 0)] →
      s.dev.stage.voices[k] = some v → v.dests = [{ key := key, flag := .owed }] → key.dest.port = p →
      s.dev.stage.deferralFor key.dest = none →
      (mp.mainFrameDue s.dev.now = true → mp.main.tail.length < 32 →
        ∃ t, exec (.mainFrameCompletion p) s = .next t
          ∧ t.dev.stage.voices = s.dev.stage.voices.set k none
          ∧ t.dev.stage.ports = s.dev.stage.ports.set p
              (nextFramePicked { mp with main := mp.main.tail ++ [keyUpMessage key] } s.dev.now)
          ∧ Journaled [] s t ∧ EventChanges [.voices, .ports] s t) ∧
      (mp.main.length < 32 →
        ∃ t, exec (.owedReleaseRetry p) s = .next t
          ∧ t.dev.stage.voices = s.dev.stage.voices.set k none
          ∧ t.dev.stage.ports = vecModify s.dev.stage.ports p (fun mp => mp.admitMain s.dev.now (keyUpMessage key))
          ∧ Journaled [] s t ∧ EventChanges [.voices, .ports] s t) ∧
      (32 ≤ mp.main.length →
        ∃ t, exec (.owedReleaseRetry p) s = .next t ∧ Journaled [] s t ∧ EventChanges [] s t)) ∧
    (∀ (e : Word) (m : Message) (rest : List Message), mp.main.length = 31 → mp.tx = .sendingMain e →
      mp.backlog = m :: rest →
      ∃ t, exec (.backlogMove p) s = .next t
        ∧ t.dev.stage.ports = vecModify s.dev.stage.ports p
            (fun mp => { mp with main := mp.main ++ [m], backlog := rest })
        ∧ Journaled [] s t ∧ EventChanges [.ports] s t)

/-- The stage after a deferral has left the list and its entry messages have been offered in order. -/
def deferralEnded (st : Stage) (df : Deferral) : Stage :=
  { st with deferrals := st.deferrals.erase df }.offerEntries df.dest.port df.messages

/-- A deferral ends at the release that leaves its destination unheld, and waits while any entry holds it; at its
deadline, with nothing PENDING left to cut, it ends the same way, and before its deadline nothing happens (R135, R136).
At a deadline that finds one PENDING record there, alone in its entry and not doubled, the destination is cut first:
the record's KEY_UP is admitted and the entry removed, or the port is full and the record waits OWED; then the entry
messages are offered (R31, R136). The release ending as a step of its own, and a deadline that is not due, are the
model's choices (log 31, log 3). -/
def Obligations.DeferralsEnd : Prop :=
  ∀ (s : State) (df : Deferral), s.isOnline = true → s.dev.stage.deferralFor df.dest = some df →
    (s.dev.stage.holdsDest df.dest = false →
      ∃ t, exec (.deferralReleaseEnding df.dest.port df.dest.channel) s = .next t
        ∧ t.dev.stage.deferrals = s.dev.stage.deferrals.erase df
        ∧ t.dev.stage.ports = (deferralEnded s.dev.stage df).ports
        ∧ Journaled (deferralEnded s.dev.stage df).entries s t ∧ EventChanges [.deferrals, .ports] s t) ∧
    (s.dev.stage.holdsDest df.dest = true →
      ∃ t, exec (.deferralReleaseEnding df.dest.port df.dest.channel) s = .next t ∧ Journaled [] s t
        ∧ EventChanges [] s t) ∧
    (reached s.dev.now df.deadline = true →
      s.dev.stage.recordsWhere (fun r => decide (r.flag = .pending) && decide (r.key.dest = df.dest)) = [] →
      ∃ t, exec (.deferDeadline df.dest.port df.dest.channel) s = .next t
        ∧ t.dev.stage.deferrals = s.dev.stage.deferrals.erase df
        ∧ t.dev.stage.ports = (deferralEnded s.dev.stage df).ports
        ∧ Journaled (deferralEnded s.dev.stage df).entries s t ∧ EventChanges [.deferrals, .ports] s t) ∧
    (∀ (k : Fin 128) (v : Voice) (key : DestKey), reached s.dev.now df.deadline = true →
      s.dev.stage.recordsWhere (fun r => decide (r.flag = .pending) && decide (r.key.dest = df.dest)) = [(k, 0)] →
      s.dev.stage.voices[k] = some v → v.dests = [{ key := key, flag := .pending }] → key.dest = df.dest →
      s.dev.stage.heldElsewhere k 0 key = false → (∀ x ∈ s.dev.stage.deferrals.erase df, x.dest ≠ df.dest) →
      (s.dev.stage.ports[df.dest.port].main.length < 32 →
        let cut : Stage := { s.dev.stage with
          voices := s.dev.stage.voices.set k none
          ports := vecModify s.dev.stage.ports df.dest.port (fun mp => mp.admitMain s.dev.now (keyUpMessage key)) }
        ∃ t, exec (.deferDeadline df.dest.port df.dest.channel) s = .next t
          ∧ t.dev.stage.deferrals = s.dev.stage.deferrals.erase df
          ∧ t.dev.stage.voices = s.dev.stage.voices.set k none
          ∧ t.dev.stage.ports = (deferralEnded cut df).ports
          ∧ Journaled (deferralEnded cut df).entries s t ∧ EventChanges [.deferrals, .ports, .voices] s t) ∧
      (32 ≤ s.dev.stage.ports[df.dest.port].main.length →
        ∃ t, exec (.deferDeadline df.dest.port df.dest.channel) s = .next t
          ∧ t.dev.stage.deferrals = s.dev.stage.deferrals.erase df
          ∧ t.dev.stage.voices = s.dev.stage.voices.set k (some { v with dests := [{ key := key, flag := .owed }] })
          ∧ t.dev.stage.ports = (deferralEnded s.dev.stage df).ports
          ∧ Journaled (deferralEnded s.dev.stage df).entries s t
          ∧ EventChanges [.deferrals, .ports, .voices] s t)) ∧
    (reached s.dev.now df.deadline = false →
      exec (.deferDeadline df.dest.port df.dest.channel) s = .next s)

/-! ## What several statements share: a page rewrite, completions, and the switch of a scene -/

/-- A cause of a state page rewrite: one begins with the next edit count and shows the fields as the event leaves
them, or one more is owed while one is under way (R181). That all causes of an event give one rewrite, begun at its end
with the fields as they stand then, is the model's choice (log 10). -/
def PageCaused (s t : State) : Prop :=
  if s.dev.page.running.isSome then t.dev.page = { s.dev.page with owed := true }
  else t.dev.page =
    { s.dev.page with
      editCount := s.dev.page.editCount + 1, owed := false, retryAt := none
      running := some (t.dev.pageImage (s.dev.page.editCount + 1)) }

/-- The completion that an event gives a slot: its place, result, tag and stamp (R177, R185), and whether it is one of
the scan's own. The stamp is that of the machine before the event where the event moves the position only afterwards,
and else that of the event (R81, R173; log 9). -/
def completionOf (s : State) (stamp : Stamp) (inScan : Bool) (slot : Fin 8) (tag : Word) (code : ResultCode) (value : Nat) :
    Completion :=
  { slot := slot, addr := rigAddress s.dev (slotOffset s.dev slot), offset := slotOffset s.dev slot, code := code
    value := BitVec.ofNat 32 value, tag := tag, stamp := stamp, inScan := inScan }

/-- The completion of a cue's end: that of its request, or none for another origin (R117, R118, R125, R141). -/
def cueCompletion (s : State) (stamp : Stamp) (inScan : Bool) (o : CueOrigin) (code : ResultCode) (value : Nat) :
    List Completion :=
  match o with
  | .cueScene slot tag => [completionOf s stamp inScan slot tag code value]
  | .cuePosition slot tag => [completionOf s stamp inScan slot tag code value]
  | _ => []

/-- The completion of a go's end: that of its GO request, or none for another origin (R118, R125, R133, R141). -/
def goCompletion (s : State) (stamp : Stamp) (inScan : Bool) (g : Option GoFlight) (code : ResultCode) (value : Nat) :
    List Completion :=
  match g with
  | some { origin := .request slot tag, waiting := _ } => [completionOf s stamp inScan slot tag code value]
  | _ => []

/-- Completions have been given, in order; nothing else of the request unit has changed. -/
def Completed (s t : State) (cs : List Completion) : Prop :=
  t.dev.req = { s.dev.req with completions := s.dev.req.completions ++ cs }

/-- A request is completed within its scan, with completions of other slots before and after its own, and the scan goes
on (R175, R176, R177). -/
def AnsweredAmong (earlier later : List Completion) (stamp : Stamp) (r : Request) (code : ResultCode) (value : Nat)
    (s t : State) : Prop :=
  t.dev.req =
    { s.dev.req with
      completions := s.dev.req.completions ++ earlier ++ [completionOf s stamp true r.slot r.tag code value] ++ later
      scan := s.dev.req.scan.map fun (sc : Scan) => { slot := sc.slot + 1, phase := .visiting } }

/-- The change unit after a switch to a scene (R115, R127, R128): the copy is the active scene, its zones with the
carried ones the active zone set, the activation count one further, a cue by position the set position, the unit IDLE
without a go. -/
def switched (s : State) (sc : SceneCopy) : ChangeUnit :=
  { s.dev.change with
    state := .idle, copy := none, active := some sc, go := none, armed := none
    zones := sc.zones ++ carriedZones sc s.dev.overrideHeld s.dev.change.zones
    activation := s.dev.change.activation + 1
    setPosition := if sc.position.isSome then sc.position else s.dev.change.setPosition }

/-- The spill of a switch to a scene (R129, R130): KEEP changes no voice; CUT, and DEFER with a limit of 0, leaves no
PENDING record on a destination that the scene names; DEFER with a limit leaves the voices and holds back the entry
messages of each destination that an entry holds. The deferrals of the activation before are discarded in every mode. -/
def SpillSays (sc : SceneCopy) (activation : BitVec 16) (s t : State) : Prop :=
  let cuts := sc.spill = .cut ∨ (sc.spill = .defer ∧ sc.deferLimit = 0)
  (¬ cuts → t.dev.stage.voices = s.dev.stage.voices) ∧
  (cuts → ∀ (k : Fin 128) (v : Voice) (r : DestRecord), t.dev.stage.voices[k] = some v → r ∈ v.dests →
    sc.names r.key.dest = true → r.flag ≠ .pending) ∧
  (sc.spill ≠ .defer ∨ sc.deferLimit = 0 → t.dev.stage.deferrals = []) ∧
  (sc.spill = .defer → sc.deferLimit ≠ 0 → ∀ x : Dest, t.dev.stage.deferralFor x =
    if s.dev.stage.holdsDest x = true ∧ sc.messagesFor x ≠ [] then
      some { dest := x, messages := sc.messagesFor x, deadline := after s.dev.now (sc.deferLimit * 1000)
             activation := activation }
    else none)

/-- What every switch does beside the change unit: the spill, and SCENE_CHANGED as its last entry, behind those that its
event wrote before it and those of the carry, the offers and the timing (R129, R130, R133, R139). -/
def SwitchSays (sc : SceneCopy) (moment : Moment) (g : GoFlight) (earlier : List Entry) (s t : State) : Prop :=
  SpillSays sc (s.dev.change.activation + 1) s t ∧
    ∃ es, Journaled
      (earlier ++ es ++
        [.sceneChanged sc.number (s.dev.change.activation + 1) (switched s sc).setPosition moment g.origin
          (carriedZones sc s.dev.overrideHeld s.dev.change.zones).length t.dev.stage.deferrals.length s.dev.overrideHeld
          sc.spill]) s t

/-- The moment of a switch that is made as its change is armed (R122, R139). -/
def armingMoment (sc : SceneCopy) : Moment := if sc.boundary = .now then .now else .stopped

/-! ## Tempo and position (R62 to R78) -/

/-- The tempo record as a tick begins: its length is the whole part of 25,000,000 / T, one microsecond longer when the
accumulated remainders have come to T (R63). -/
def tickBegun (t : Tempo) (now : Word) : Tempo :=
  let a := t.acc + 25000000 % t.t
  { t with
    acc := if t.t ≤ a then a - t.t else a
    tickAt := some (after now (25000000 / t.t + if t.t ≤ a then 1 else 0)) }

/-- The transport runs and its tick has lasted its length: PLAYING at the position, or counting in with the position at
beat 1, tick 0 (R63, R67). -/
def tickDue (s : State) : Prop :=
  ((s.dev.tempo.transport = .playing ∧ s.dev.tempo.countIn = none) ∨
    (s.dev.tempo.transport = .countIn ∧ s.dev.tempo.countIn.isSome = true ∧ s.dev.tempo.beat = 1 ∧ s.dev.tempo.tick = 0)) ∧
    ∃ m, s.dev.tempo.tickAt = some m ∧ reached s.dev.now m = true

/-- A tick inside a beat: the position moves one tick, or in a count-in its counter while the position stands still; the
next tick's length is fixed, and only the click unit and the ports that it plays on change beside it (R63, R64, R67). -/
def Obligations.TickAdvancesPosition : Prop :=
  ∀ s : State, s.isOnline = true → tickDue s →
    (s.dev.tempo.countIn = none → s.dev.tempo.tick < 239 →
      ∃ t, exec .tick s = .next t
        ∧ t.dev.tempo = tickBegun { s.dev.tempo with tick := s.dev.tempo.tick + 1 } s.dev.now
        ∧ EventChanges [.tempo, .click, .ports] s t) ∧
    (∀ c : CountIn, s.dev.tempo.countIn = some c → c.tick < 239 →
      ∃ t, exec .tick s = .next t
        ∧ t.dev.tempo = tickBegun { s.dev.tempo with countIn := some { c with tick := c.tick + 1 } } s.dev.now
        ∧ EventChanges [.tempo, .click, .ports] s t)

/-- The last tick of a beat of the position, or of the count-in counter, whose beats count from 1 (R64, R67). -/
def LastTick (r : Tempo) : Prop :=
  (r.countIn = none → r.tick = 239 ∧ 1 ≤ r.beat) ∧ ∀ c, r.countIn = some c → c.tick = 239 ∧ 1 ≤ c.beat

/-- Whether the beat that ends with such a tick is the last of its bar (R64, R67). -/
def barEnds (r : Tempo) : Bool :=
  match r.countIn with
  | none => decide (r.meter ≤ r.beat)
  | some c => decide (r.meter ≤ c.beat)

/-- The beat after such a tick (R64, R67): the next of the bar, or the first of the next bar, where bar 9999 is
followed by bar 1; a count-in moves its counter, and after its last bar it is PLAYING at the held position. -/
def nextBeat (r : Tempo) : Tempo :=
  match r.countIn with
  | none =>
    if barEnds r then { r with bar := if r.bar < 9999 then r.bar + 1 else 1, beat := 1, tick := 0 }
    else { r with beat := r.beat + 1, tick := 0 }
  | some c =>
    if !barEnds r then { r with countIn := some { c with beat := c.beat + 1, tick := 0 } }
    else if c.bar < c.bars then { r with countIn := some { c with bar := c.bar + 1, beat := 1, tick := 0 } }
    else { r with countIn := none, transport := .playing }

/-- The tempo record with a tempo made current: its accumulator begins afresh exactly when T changes (R63). -/
def withTempo (r : Tempo) (v : Nat) : Tempo := { r with t := v, acc := if v = r.t then r.acc else 0 }

/-- What a beat boundary does at the tempo record, and the entries it writes (R71, R73, R77): a pending tempo becomes
current, a glide takes a step and ends with its last, or in FOLLOW a LOCKED estimate that differs by the deadband or
more becomes T. -/
def beatTaken (r : Tempo) (sync : SyncFollower) : Tempo × List Entry :=
  match r.pending, r.glide with
  | some (v, cause), _ => ({ withTempo r v with pending := none }, if v = r.t then [] else [.tempo r.t v cause 0])
  | none, some g =>
    ({ withTempo r (g.moveTempo r.t) with
       glide := if g.remaining ≤ 1 then none else some { g with acc := g.nextStep.1, remaining := g.remaining - 1 } },
      if g.remaining ≤ 1 then [.glideEnd g.target g.length] else [])
  | none, none =>
    match r.source, sync.state, sync.estimate with
    | .follow, .locked, some e =>
      if sync.deadband ≤ (e - r.t) + (r.t - e) ∧ e ≠ r.t then (withTempo r e, [.tempo r.t e .follow 0]) else (r, [])
    | _, _, _ => (r, [])

/-- A pending meter becomes the meter (R65). -/
def meterTaken (r : Tempo) : Tempo := { r with meter := r.pendingMeter.getD r.meter, pendingMeter := none }

/-- The first tick of a beat, with no click line enabled (R64, R65, R67, R71, R73, R77): the position or the count-in
moves to the next beat, and the end of a count-in is PLAYING with its TRANSPORT entry; the boundary's work is done at
the tempo record, a bar boundary takes the pending meter, the tick's length is fixed, and the state page is rewritten
(R181). A change that is not ARMED, or waits for a later bar, is left; one ARMED for this boundary switches after that
work, so its meter waits for the bar after (R65, R122, R139), and its GO request is completed OK with the count (R133).
That the entry of a count-in's end comes before those of the boundary is the model's choice (log 40), as is that the
boundary, a changed tempo and a switch give one rewrite together, begun at the end of the event with the fields as it
leaves them (log 10). -/
def Obligations.BeatMakesTempoCurrent : Prop :=
  ∀ s : State, s.isOnline = true → tickDue s → LastTick s.dev.tempo →
    (∀ n : Fin 4, s.dev.click.lines[n].setup.enable = false) →
    let beat := beatTaken (nextBeat s.dev.tempo) s.dev.sync
    let r := if barEnds s.dev.tempo then meterTaken beat.1 else beat.1
    let es := (if r.transport = s.dev.tempo.transport then [] else [.transport .countIn .playing .countInEnd 0]) ++ beat.2
    2000 ≤ beat.1.t → beat.1.t ≤ 30000 →
    (s.dev.change.state ≠ .armed ∨
        (s.dev.change.armed.map (·.boundary) = some .bar ∧ barEnds s.dev.tempo = false ∧ r.transport = .playing) →
      ∃ t, exec .tick s = .next t ∧ t.dev.tempo = tickBegun r s.dev.now
        ∧ Journaled es s t ∧ PageCaused s t ∧ EventChanges [.tempo, .click] s t) ∧
    (∀ (sc : SceneCopy) (g : GoFlight) (a : Armed), s.dev.change.state = .armed → s.dev.change.copy = some sc →
      s.dev.change.go = some g → s.dev.change.armed = some a →
      a.boundary = .beat ∨ (a.boundary = .bar ∧ (barEnds s.dev.tempo = true ∨ r.transport = .countIn)) →
      ∃ t, exec .tick s = .next t ∧ t.dev.change = switched s sc
        ∧ SwitchSays sc (if a.boundary = .beat then .beat else .bar) g es s t
        ∧ t.dev.tempo =
            { tickBegun r s.dev.now with
              pendingMeter := some sc.meter, source := sc.source
              pending := t.dev.tempo.pending, glide := t.dev.tempo.glide }
        ∧ Completed s t
            (goCompletion s t.dev.eventStamp s.dev.req.working (some g) .ok (s.dev.change.activation + 1).toNat)
        ∧ PageCaused s t ∧ EventChanges [.change, .voices, .ports, .deferrals, .tempo, .click, .req] s t)

/-- The beats of a glide taken one after another from a tempo: the tempo and the glide that they leave (R73). -/
def glideSteps : Nat → Glide → Nat → Nat × Glide
  | 0, g, t => (t, g)
  | n + 1, g, t => glideSteps n { g with acc := g.nextStep.1, remaining := g.remaining - 1 } (g.moveTempo t)

/-- A glide from S to E over G beats stands at E after G steps, with nothing left in its accumulator, and it never
leaves the span between S and E on the way (R72, R73). -/
def Obligations.GlideLandsOnTarget : Prop :=
  ∀ s e g : Nat, 1 ≤ g → g ≤ 64 →
    (glideSteps g (glideOf s e g) s).1 = e ∧ (glideSteps g (glideOf s e g) s).2.acc = 0
      ∧ (glideSteps g (glideOf s e g) s).2.remaining = 0
      ∧ ∀ n, n ≤ g → min s e ≤ (glideSteps n (glideOf s e g) s).1 ∧ (glideSteps n (glideOf s e g) s).1 ≤ max s e

/-- The tempo record as the transport comes to a stop, and the TEMPO entry of a pending tempo (R65, R68, R71): no
further tick, the count-in cleared, the position held, a pending tempo current and a pending meter taken, which moves a
beat above it to beat 1, tick 0. -/
def tempoStopped (r : Tempo) : Tempo × List Entry :=
  let current : Tempo × List Entry := match r.pending with
    | none => (r, [])
    | some (v, cause) =>
      let v := clampNat 2000 30000 v
      ({ withTempo r v with pending := none }, if v = r.t then [] else [.tempo r.t v cause 0])
  let m := r.pendingMeter.getD r.meter
  ({ meterTaken current.1 with
     transport := .stopped, countIn := none, tickAt := none
     beat := if m < r.beat then 1 else r.beat, tick := if m < r.beat then 0 else r.tick }, current.2)

/-- START from STOPPED (R66, R67, R80), with no click line enabled: the count-in is the argument up to 4, or for SCENE
the active scene's, 0 without one; with 0 it is PLAYING at the held position, else COUNT_IN with the counter at bar 1,
beat 1, tick 0 and the position at beat 1, tick 0 of the held bar. Its TRANSPORT entry is written, the first tick
begins at once, as a boundary where it is one, and the request is completed OK with the count-in. While the transport
runs it is BUSY. STOP while the transport runs (R68, R80, R112): STOPPED, every line IDLE, its TRANSPORT entry, then
the TEMPO entry of a pending tempo, and for the rest CLICK_DROPs only; completed OK with the state that was left. With
an ARMED change it switches at the stop, with the moment TRANSPORT_STOP, and its GO request is completed first (R126,
R133, R139). STOP while STOPPED is OK and changes nothing. The order of the entries is the model's choice (log 40),
that of the completions its reading (log 17). -/
def Obligations.StartAndStop : Prop :=
  ∀ (s : State) (r : Request), s.isOnline = true →
    let old := s.dev.tempo
    (s.hasRequest 8#8 r → old.transport = .stopped → (∀ n : Fin 4, s.dev.click.lines[n].setup.enable = false) →
      let bars : Nat :=
        if r.arg1 = 0xFFFFFFFF#32 then (s.dev.change.active.map (·.countInBars)).getD 0 else min 4 r.arg1.toNat
      let started : Tempo :=
        if bars = 0 then { old with transport := .playing, countIn := none }
        else
          { old with
            transport := .countIn, beat := 1, tick := 0, countIn := some { bars := bars, bar := 1, beat := 1, tick := 0 } }
      let beat := if bars ≠ 0 ∨ old.tick = 0 then beatTaken started s.dev.sync else (started, [])
      let now := if bars ≠ 0 ∨ (old.tick = 0 ∧ old.beat = 1) then meterTaken beat.1 else beat.1
      2000 ≤ beat.1.t → beat.1.t ≤ 30000 →
      ∃ t, exec .start s = .next t ∧ t.dev.tempo = tickBegun now s.dev.now ∧ Answered r .ok bars s t
        ∧ Journaled (.transport .stopped started.transport .request bars :: beat.2) s t
        ∧ EventChanges [.tempo, .click, .req] s t) ∧
    (s.hasRequest 8#8 r → old.transport ≠ .stopped →
      ∃ t, exec .start s = .next t ∧ Answered r .busy 0 s t ∧ Journaled [] s t ∧ EventChanges [.req] s t) ∧
    (s.hasRequest 9#8 r → old.transport ≠ .stopped → s.dev.change.state ≠ .armed →
      let first := .transport old.transport .stopped .request 0 :: (tempoStopped old).2
      ∃ t, exec .stop s = .next t ∧ t.dev.tempo = (tempoStopped old).1
        ∧ (∀ n : Fin 4, t.dev.click.lines[n].endsAt = none)
        ∧ (∃ es, Journaled (first ++ es) s t ∧ ∀ e ∈ es, ∃ p n m lane, e = .clickDrop p n m lane)
        ∧ ((∀ n : Fin 4, s.dev.click.lines[n].sounding = none) → Journaled first s t)
        ∧ Answered r .ok old.transport.code s t ∧ EventChanges [.tempo, .click, .ports, .req] s t) ∧
    (∀ (sc : SceneCopy) (g : GoFlight), s.hasRequest 9#8 r → old.transport ≠ .stopped → s.dev.change.state = .armed →
      s.dev.change.copy = some sc → s.dev.change.go = some g →
      ∃ t, exec .stop s = .next t ∧ t.dev.change = switched s sc
        ∧ SwitchSays sc .transportStop g (.transport old.transport .stopped .request 0 :: (tempoStopped old).2) s t
        ∧ t.dev.tempo.transport =
            (if sc.startTransport = false then .stopped else if sc.countInBars = 0 then .playing else .countIn)
        ∧ (sc.startTransport = false → ∀ n : Fin 4, t.dev.click.lines[n].endsAt = none)
        ∧ AnsweredAmong (goCompletion s t.dev.eventStamp true (some g) .ok (s.dev.change.activation + 1).toNat) []
            t.dev.eventStamp r .ok old.transport.code s t
        ∧ EventChanges [.change, .voices, .ports, .deferrals, .tempo, .click, .req] s t) ∧
    (s.hasRequest 9#8 r → old.transport = .stopped →
      ∃ t, exec .stop s = .next t ∧ Answered r .ok 0 s t ∧ Journaled [] s t ∧ EventChanges [.req] s t)

/-- A LOCATE request: BAD_ARG outside 1 to 9999; while STOPPED the position moves to beat 1, tick 0 of the bar, the
page is rewritten (R181) and the request is completed OK with the bar; otherwise BUSY. It writes no journal entry
(R69). That the completion's stamp shows the new position is the model's reading of R81 and R173 (log 9), and that the
rewrite begins at the end of the event, with the fields as they stand then, is its choice (log 10). -/
def Obligations.LocateSetsBar : Prop :=
  ∀ (s : State) (r : Request), s.isOnline = true → s.hasRequest 10#8 r →
    (r.arg1.toNat < 1 ∨ 9999 < r.arg1.toNat →
      ∃ t, exec .locate s = .next t ∧ Answered r .badArg 1 s t ∧ Journaled [] s t ∧ EventChanges [.req] s t) ∧
    (1 ≤ r.arg1.toNat → r.arg1.toNat ≤ 9999 → s.dev.tempo.transport = .stopped →
      ∃ t, exec .locate s = .next t
        ∧ t.dev.tempo = { s.dev.tempo with bar := r.arg1.toNat, beat := 1, tick := 0 }
        ∧ (s.dev.tempo.countIn = none → t.dev.eventStamp.pos = { bar := r.arg1.toNat, beat := 1, tick := 0 })
        ∧ Answered r .ok r.arg1.toNat s t ∧ PageCaused s t ∧ Journaled [] s t ∧ EventChanges [.tempo, .req] s t) ∧
    (1 ≤ r.arg1.toNat → r.arg1.toNat ≤ 9999 → s.dev.tempo.transport ≠ .stopped →
      ∃ t, exec .locate s = .next t ∧ Answered r .busy 0 s t ∧ Journaled [] s t ∧ EventChanges [.req] s t)

/-- SET_TEMPO without a glide while STOPPED makes the clamped tempo current at once, and while the transport runs
leaves it pending; with a glide length it sets up the glide; APPLY_SYNC leaves a LOCKED estimate pending; both are
refused while the source is FOLLOW, and APPLY_SYNC without a LOCKED estimate (R71, R72, R78). -/
def Obligations.TempoRequests : Prop :=
  ∀ (s : State) (r : Request), s.isOnline = true → s.dev.tempo.glide = none →
    (s.hasRequest 11#8 r → s.dev.tempo.source = .manual →
      let v := clampNat 2000 30000 r.arg1.toNat
      (s.dev.tempo.transport = .stopped → v ≠ s.dev.tempo.t →
        ∃ t, exec .setTempo s = .next t
          ∧ t.dev.tempo = { s.dev.tempo with t := v, acc := 0, pending := none }
          ∧ Answered r .ok v s t ∧ Journaled [.tempo s.dev.tempo.t v .request 0] s t
          ∧ EventChanges [.tempo, .req] s t) ∧
      (s.dev.tempo.transport ≠ .stopped → r.arg2 = 0 →
        ∃ t, exec .setTempo s = .next t
          ∧ t.dev.tempo = { s.dev.tempo with pending := some (v, .request) }
          ∧ Answered r .ok v s t ∧ Journaled [] s t ∧ EventChanges [.tempo, .req] s t) ∧
      (s.dev.tempo.transport ≠ .stopped → r.arg2 ≠ 0 → v ≠ s.dev.tempo.t →
        ∃ t, exec .setTempo s = .next t
          ∧ t.dev.tempo =
              { s.dev.tempo with pending := none, glide := some (glideOf s.dev.tempo.t v (min 64 r.arg2.toNat)) }
          ∧ Answered r .ok v s t ∧ Journaled [.tempo s.dev.tempo.t v .glide (min 64 r.arg2.toNat)] s t
          ∧ EventChanges [.tempo, .req] s t)) ∧
    (s.hasRequest 12#8 r → s.dev.tempo.source = .manual → s.dev.tempo.transport ≠ .stopped →
      (∀ e, s.dev.sync.state = .locked → s.dev.sync.estimate = some e → 2000 ≤ e → e ≤ 30000 →
        ∃ t, exec .applySync s = .next t
          ∧ t.dev.tempo = { s.dev.tempo with pending := some (e, .sync) }
          ∧ Answered r .ok e s t ∧ Journaled [] s t ∧ EventChanges [.tempo, .req] s t) ∧
      (s.dev.sync.state ≠ .locked →
        ∃ t, exec .applySync s = .next t ∧ Answered r .noSync 0 s t ∧ Journaled [] s t ∧ EventChanges [.req] s t)) ∧
    (s.dev.tempo.source = .follow → s.hasRequest 11#8 r →
      ∃ t, exec .setTempo s = .next t ∧ Answered r .following 0 s t ∧ Journaled [] s t ∧ EventChanges [.req] s t) ∧
    (s.dev.tempo.source = .follow → s.hasRequest 12#8 r →
      ∃ t, exec .applySync s = .next t ∧ Answered r .following 0 s t ∧ Journaled [] s t ∧ EventChanges [.req] s t)

/-! ## Tap and sync (R85 to R97) -/

/-- The timers that only end something: the tap series lapses 2,000,001 µs after its last tap, and the ATTN pulse
ends; before its moment neither does anything (R86, R191; log 3). -/
def Obligations.LapseAndPulseEnd : Prop :=
  ∀ (s : State) (m : Word), s.isReady = true →
    (∀ l, s.dev.tap.last = some l →
      (reached s.dev.now (after l 2000001) = true →
        ∃ t, exec .tapLapse s = .next t ∧ t.dev.tap = { ring := [], last := none } ∧ Journaled [] s t
          ∧ EventChanges [.tap] s t) ∧
      (reached s.dev.now (after l 2000001) = false → exec .tapLapse s = .next s)) ∧
    (s.dev.regs.attnPulse = some m →
      (reached s.dev.now m = true →
        ∃ t, exec .attnPulseEnd s = .next t ∧ t.dev.regs.attnPulse = none ∧ Journaled [] s t
          ∧ EventChanges [.attnPulse] s t) ∧
      (reached s.dev.now m = false → exec .attnPulseEnd s = .next s))

/-- T_tap of a ring of 2-4 intervals is 6,000,000,000 over the average interval, rounded half up, clamped to 2000-30000
(R87): 3000 at the longest average, 30000 at 200,000 µs, and 30000 by the clamp at every shorter one. The clamp hands
no journal entry: a tapped tempo that is written while the transport runs with no glide, in MANUAL, hands none, and the
TEMPO entry that records it when it becomes current carries the clamped value. -/
def Obligations.TapTempoRoundsHalfUp : Prop :=
  ∀ ring : List Nat, 2 ≤ ring.length → ring.length ≤ 4 → (∀ i ∈ ring, 150000 ≤ i ∧ i ≤ 2000000) →
    let average := ring.sum / ring.length
    150000 ≤ average ∧ average ≤ 2000000
      ∧ tapTempo ring = max 2000 (min 30000 ((12000000000 + average) / (2 * average)))
      ∧ (200000 ≤ average →
          2 * average * tapTempo ring ≤ 12000000000 + average ∧
            12000000000 + average < 2 * average * (tapTempo ring + 1))
      ∧ (average = 2000000 → tapTempo ring = 3000) ∧ (average = 200000 → tapTempo ring = 30000)
      ∧ (average < 200000 → 30000 * average < 6000000000 ∧ tapTempo ring = 30000)
      ∧ ∀ d : Device,
          (d.tempo.source = .manual → d.tempo.transport ≠ .stopped → d.tempo.glide = none →
            (d.offerTap (tapTempo ring)).1 =
              { d with tempo := { d.tempo with pending := some (tapTempo ring, .tap) } }) ∧
          (d.tempo.pending = some (tapTempo ring, .tap) → d.tempo.t ≠ tapTempo ring →
            d.applyPendingTempo.stage.entries = d.stage.entries ++ [.tempo d.tempo.t (tapTempo ring) .tap 0])

/-- An edge on SYNC (R93 to R96): not taken in OFF; a glitch within 100 µs of the last accepted edge; it begins a
gathering in ABSENT and LOST; it adds its interval in GATHERING; in LOCKED an interval outside the window begins a
gathering that keeps the estimate, and one from half the average to twice it, ends included, replaces the oldest of the
ring: average and estimate are made anew, the loss timer runs four averages, and SYNC_CLAMPED is written at the first
clamp of the lock. -/
def Obligations.SyncEdgesAreJudged : Prop :=
  ∀ s : State, s.isOnline = true →
    (s.dev.sync.state = .off → ∃ t, exec .syncEdge s = .next t ∧ Journaled [] s t ∧ EventChanges [] s t) ∧
    (∀ l, s.dev.sync.lastEdge = some l → interval s.dev.now l < 100 →
      ∃ t, exec .syncEdge s = .next t ∧ Journaled [] s t ∧ EventChanges [] s t) ∧
    (s.dev.sync.state = .absent ∨ s.dev.sync.state = .lost →
      (∀ l, s.dev.sync.lastEdge = some l → 100 ≤ interval s.dev.now l) →
      ∃ t, exec .syncEdge s = .next t
        ∧ t.dev.sync =
            { s.dev.sync with
              state := .gathering, ring := [], average := none, lossLeft := some 2000000, lastEdge := some s.dev.now }
        ∧ Journaled [] s t ∧ EventChanges [.sync] s t) ∧
    (∀ l, s.dev.sync.lastEdge = some l → 100 ≤ interval s.dev.now l → s.dev.sync.state = .gathering →
      s.dev.sync.ring.length + 1 < 2 ^ s.dev.sync.window →
      ∃ t, exec .syncEdge s = .next t
        ∧ t.dev.sync =
            { s.dev.sync with
              ring := s.dev.sync.ring ++ [interval s.dev.now l], lossLeft := some 2000000, lastEdge := some s.dev.now }
        ∧ Journaled [] s t ∧ EventChanges [.sync] s t) ∧
    (∀ l average, s.dev.sync.lastEdge = some l → 100 ≤ interval s.dev.now l → s.dev.sync.state = .locked →
      s.dev.sync.average = some average →
      (2 * interval s.dev.now l < average ∨ 2 * average < interval s.dev.now l →
        ∃ t, exec .syncEdge s = .next t
          ∧ t.dev.sync =
              { s.dev.sync with
                state := .gathering, ring := [], average := none, lossLeft := some 2000000
                lastEdge := some s.dev.now }
          ∧ Journaled [] s t ∧ EventChanges [.sync] s t) ∧
      (average ≤ 2 * interval s.dev.now l → interval s.dev.now l ≤ 2 * average →
        s.dev.sync.ring.length = 2 ^ s.dev.sync.window →
        let ring := s.dev.sync.ring.tail ++ [interval s.dev.now l]
        let average' := ring.sum / 2 ^ s.dev.sync.window
        let raw := (12000000000 + s.dev.sync.division * average') / (2 * (s.dev.sync.division * average'))
        let estimate := clampNat 2000 30000 raw
        ∃ t, exec .syncEdge s = .next t
          ∧ t.dev.sync =
              { s.dev.sync with
                ring := ring, average := some average', estimate := some estimate
                clampNoted := s.dev.sync.clampNoted || decide (estimate ≠ raw)
                lossLeft := some (4 * average'), lastEdge := some s.dev.now }
          ∧ Journaled
              (if estimate = raw ∨ s.dev.sync.clampNoted = true then []
              else [.syncClamped raw estimate s.dev.sync.division average']) s t
          ∧ EventChanges [.sync] s t))

/-- The edge that fills the ring locks the follower: the average is the ring's sum over its size, the estimate is the
beat's tempo rounded half up and clamped, the loss timer runs four averages, and SYNC_LOCKED is written, after
SYNC_CLAMPED when the estimate was clamped. The loss timer runs down by the microsecond, and its expiry makes the
follower LOST, with its SYNC_LOST entry and the SYNC sticky fault, and keeps ring, last edge and estimate (R94, R95,
R97). That the row SYNC_LOST does nothing before that moment, and that an idle step is a microsecond, are the model's
choices (log 3, log 1). -/
def Obligations.FollowerLocksAndLoses : Prop :=
  ∀ s : State, s.isOnline = true →
    (∀ l, s.dev.sync.state = .gathering → s.dev.sync.lastEdge = some l → 100 ≤ interval s.dev.now l →
      s.dev.sync.ring.length + 1 = 2 ^ s.dev.sync.window →
      let ring := s.dev.sync.ring ++ [interval s.dev.now l]
      let average := ring.sum / 2 ^ s.dev.sync.window
      let raw := (12000000000 + s.dev.sync.division * average) / (2 * (s.dev.sync.division * average))
      let estimate := clampNat 2000 30000 raw
      ∃ t, exec .syncEdge s = .next t
        ∧ t.dev.sync =
            { s.dev.sync with
              state := .locked, ring := ring, average := some average, estimate := some estimate
              clampNoted := decide (estimate ≠ raw), lossLeft := some (4 * average)
              lastEdge := some s.dev.now }
        ∧ Journaled
            ((if estimate = raw then [] else [.syncClamped raw estimate s.dev.sync.division average])
              ++ [.syncLocked average estimate s.dev.sync.division s.dev.sync.window]) s t
        ∧ EventChanges [.sync] s t) ∧
    (s.dev.sync.lossLeft = some 0 →
      ∃ t, exec .syncLost s = .next t
        ∧ t.dev.sync = { s.dev.sync with state := .lost, average := none, lossLeft := none }
        ∧ Journaled [.syncLost s.dev.sync.estimate s.dev.sync.state s.dev.sync.ring.length] s t
        ∧ FaultRaised .sync s t ∧ EventChanges [.sync, .faults, .causes, .attnPulse] s t) ∧
    (s.dev.sync.lossLeft ≠ some 0 → exec .syncLost s = .next s) ∧
    (∀ m, s.dev.sync.lossLeft = some (m + 1) → s.pending = [] → dueEvents s = [] →
      ∃ t, step s = .next t ∧ t.dev.now = s.dev.now + 1 ∧ t.dev.sync = { s.dev.sync with lossLeft := some m }
        ∧ OnlyChanges [.clock, .sync] s t)

/-! ## Click lines (R104 to R110) -/

/-- What a tick does to a click line and to the lane of its route, in four parts (R104 to R110). A tick that is a click
point of the subdivision in force takes pending settings, and is judged under them (R106). A line that may not sound
there stays as it then is. One that sounds ends the note of the pulse before it, its KEY_UP offered first, and begins a
pulse with the accent or the normal width counted from the tick, whether it was IDLE or ACTIVE (R105, R107, R109). With
a route the KEY_DOWN is offered: admitted, it is the sounding key; at a full lane it is CLICK_DROP, and the pulse runs
without a note (R110). -/
def ClickTickSays (l : ClickLine) (st : Stage) (n : Fin 4) (mute : Bool) (tr : Transport) (beat tick : Nat) : Prop :=
  let set : ClickLine := match l.pendingSet with
    | none => l
    | some (sub, accents) =>
      if tick % (240 / l.subdivision) = 0 then { l with subdivision := sub, accents := accents, pendingSet := none } else l
  let accent := tick = 0 ∧ (if tr = .countIn then beat = 1 else set.accents.getLsbD (beat - 1) = true)
  let sounds := tick % (240 / set.subdivision) = 0 ∧ set.setup.enable = true ∧ mute = false ∧
    ((tr = .playing ∧ set.setup.mode = .always) ∨
      (tr = .countIn ∧ (set.setup.mode = .always ∨ set.setup.mode = .countInOnly)))
  let ended := match set.sounding with
    | none => st
    | some k => st.offerClick k.dest.port n (keyUpMessage k)
  let pulse (width : Nat) (key : Option DestKey) : ClickLine :=
    { set with sounding := key, endsAt := some (after st.clock width) }
  let begins (width : Nat) (key velocity : BitVec 7) : Prop :=
    (set.setup.route = none → takeClickTick mute tr beat tick n l st = (pulse width none, ended)) ∧
    ∀ p : Fin 6, set.setup.route = some p →
      let m : Message := { kind := .keyDown, channel := set.setup.channel, data1 := key, data2 := velocity }
      (ended.ports[p].lane.length < 8 →
        takeClickTick mute tr beat tick n l st =
          (pulse width (some { dest := { port := p, channel := set.setup.channel }, key := key }),
            ended.modifyPort p fun mp => mp.admitLane st.clock m)) ∧
      (8 ≤ ended.ports[p].lane.length →
        takeClickTick mute tr beat tick n l st =
          (pulse width none, ended.emit (.clickDrop p n m ended.ports[p].lane.length)))
  (¬ sounds → takeClickTick mute tr beat tick n l st = (set, st)) ∧
  (sounds → accent → begins set.setup.accentWidth set.setup.accentKey set.setup.accentVelocity) ∧
  (sounds → ¬ accent → begins set.setup.normalWidth set.setup.normalKey set.setup.normalVelocity)

/-- A click line takes a tick as said above, whatever its route, its pending settings and its sounding key; a tick
inside a beat brings that to the line, here the only one that is enabled or has settings pending, and to the journal
(R104, R110). The width of a pulse expires: the line goes IDLE; a sounding key's KEY_UP is offered to the lane of its
port, or dropped with CLICK_DROP when the lane is full (R50, R108, R110). -/
def Obligations.ClickPulsesBeginAndEnd : Prop :=
  (∀ (l : ClickLine) (st : Stage) (n : Fin 4) (mute : Bool) (tr : Transport) (beat tick : Nat),
    ClickTickSays l st n mute tr beat tick) ∧
  (∀ (s : State) (n : Fin 4), s.isOnline = true → tickDue s → s.dev.tempo.countIn = none → s.dev.tempo.tick < 239 →
    (∀ k : Fin 4, k ≠ n → s.dev.click.lines[k].setup.enable = false ∧ s.dev.click.lines[k].pendingSet = none) →
    let taken := takeClickTick s.dev.click.mute .playing s.dev.tempo.beat (s.dev.tempo.tick + 1) n s.dev.click.lines[n]
      s.dev.stage
    ∃ t, exec .tick s = .next t
      ∧ t.dev.click = { s.dev.click with lines := s.dev.click.lines.set n taken.1 }
      ∧ t.dev.stage.ports = taken.2.ports ∧ Journaled taken.2.entries s t ∧ EventChanges [.tempo, .click, .ports] s t) ∧
  ∀ (s : State) (n : Fin 4) (m : Word), s.isOnline = true → s.dev.click.lines[n].endsAt = some m →
    reached s.dev.now m = true →
    (s.dev.click.lines[n].sounding = none →
      ∃ t, exec (.clickWidthExpiry n) s = .next t
        ∧ t.dev.click = { s.dev.click with lines := s.dev.click.lines.set n { s.dev.click.lines[n] with endsAt := none } }
        ∧ Journaled [] s t ∧ EventChanges [.click] s t) ∧
    (∀ k : DestKey, s.dev.click.lines[n].sounding = some k →
      ∃ t, exec (.clickWidthExpiry n) s = .next t
        ∧ t.dev.click =
            { s.dev.click with
              lines := s.dev.click.lines.set n { s.dev.click.lines[n] with endsAt := none, sounding := none } }
        ∧ (s.dev.stage.ports[k.dest.port].lane.length < 8 →
            t.dev.stage.ports =
                vecModify s.dev.stage.ports k.dest.port (fun mp => mp.admitLane s.dev.now (keyUpMessage k))
              ∧ Journaled [] s t)
        ∧ (8 ≤ s.dev.stage.ports[k.dest.port].lane.length →
            t.dev.stage.ports = s.dev.stage.ports
              ∧ Journaled [.clickDrop k.dest.port n (keyUpMessage k) s.dev.stage.ports[k.dest.port].lane.length] s t)
        ∧ EventChanges [.click, .ports] s t)

/-! ## Pedals (R144 to R151) -/

/-- The pedal of a machine with one field of its record written. -/
def PedalBecomes (n : Fin 8) (p : Pedal) (s t : State) : Prop := t.dev.pedals = s.dev.pedals.set n p

/-- A change of a pedal input in ONLINE and DRAINING: toward the state opposite the debounced one it starts the timer,
back to it it stops the timer; a level the input already has changes nothing; in OFFLINE, LOADING and FAULTED only the
level is noted (R143 to R145). That the pin's level is noted while RESET is low too, where R193 speaks of register
writes alone, is the model's reading (log 3). -/
def Obligations.PedalLevelsAreTimed : Prop :=
  ∀ (s : State) (n : Fin 8) (high : Bool),
    let p := s.dev.pedals[n]
    let pressedLevel := decide (high = decide (p.setup.polarity = .inverted))
    let runs := s.dev.engine.state = .online ∨ s.dev.engine.state = .draining
    (s.isReady = true → p.high = high →
      ∃ t, exec (.pedalInputChange n high) s = .next t ∧ Journaled [] s t ∧ EventChanges [] s t) ∧
    (s.isReady = true → runs → p.high ≠ high → pressedLevel ≠ p.pressed →
      ∃ t, exec (.pedalInputChange n high) s = .next t
        ∧ PedalBecomes n { p with high := high, timer := some (after s.dev.now (p.setup.debounce * 1000)) } s t
        ∧ Journaled [] s t ∧ EventChanges [.pedals] s t) ∧
    (s.isReady = true → runs → p.high ≠ high → pressedLevel = p.pressed →
      ∃ t, exec (.pedalInputChange n high) s = .next t ∧ PedalBecomes n { p with high := high, timer := none } s t
        ∧ Journaled [] s t ∧ EventChanges [.pedals] s t) ∧
    (s.isReady = true → s.dev.engine.state ≠ .online → s.dev.engine.state ≠ .draining →
      ∃ t, exec (.pedalInputChange n high) s = .next t ∧ PedalBecomes n { p with high := high } s t
        ∧ EventChanges [.pedals] s t) ∧
    (s.resetLow = true →
      ∃ t, exec (.pedalInputChange n high) s = .next t ∧ PedalBecomes n { p with high := high } s t
        ∧ OnlyChanges [.pedals] s t)

/-- The debounced state after an expiry: the opposite one, its timer absent. -/
def debounced (p : Pedal) : Pedal := { p with pressed := !p.pressed, timer := none }

/-- A pedal of a function comes to an edge: its debounced state is the opposite one and its timer is at its moment. -/
def EdgeDue (s : State) (n : Fin 8) (f : PedalFunction) (edge : PedalEdge) : Prop :=
  s.dev.pedals[n].setup.function = f ∧ s.dev.pedals[n].pressed = decide (edge = .release) ∧
    ∃ m, s.dev.pedals[n].timer = some m ∧ reached s.dev.now m = true

/-- The debounced edge of a pedal, whole: its next state, the entries it writes and what it may change beside the
pedals. -/
def EdgeTaken (s t : State) (n : Fin 8) (es : List Entry) (bs : List Block) : Prop :=
  exec (.debounceExpiry n) s = .next t ∧ PedalBecomes n (debounced s.dev.pedals[n]) s t ∧ Journaled es s t ∧
    EventChanges (.pedals :: bs) s t

/-- The presses of a TAP pedal (R85, R87 to R89, R151): the first of a series, or one outside 150,000 to 2,000,000 µs
after the last, empties the ring; any other adds its interval, and from two intervals on T_tap is written pending while
the transport runs with no glide, also from FOLLOW without a lock, which takes the source to MANUAL; under a LOCKED
FOLLOW it is withheld with TAP_IGNORED. -/
def TapPressSays (s : State) (n : Fin 8) : Prop :=
  let taps (ring : List Nat) (t : State) := t.dev.tap = { ring := ring, last := some s.dev.now }
  let entry (o : PedalOutcome) (i : Nat) (second : Word) := Entry.pedal n .tap .press .input o (BitVec.ofNat 32 i) second
  (s.dev.tap.last = none →
    ∃ t, EdgeTaken s t n [entry .acted 0 0] [.tap] ∧ taps [] t) ∧
  ∀ l, s.dev.tap.last = some l →
    let i := interval s.dev.now l
    let ring := (s.dev.tap.ring ++ [i]).drop (s.dev.tap.ring.length + 1 - 4)
    let T := tapTempo ring
    let second (kind extra : Nat) := word4 (T % 256) (T / 256) kind (ring.length + extra)
    (i < 150000 ∨ 2000000 < i → ∃ t, EdgeTaken s t n [entry .acted i (word4 0 0 1 0)] [.tap] ∧ taps [] t) ∧
    (150000 ≤ i → i ≤ 2000000 →
      (ring.length < 2 → ∃ t, EdgeTaken s t n [entry .acted i (word4 0 0 2 ring.length)] [.tap] ∧ taps ring t) ∧
      (2 ≤ ring.length → s.dev.tempo.transport ≠ .stopped → s.dev.tempo.glide = none →
        (s.dev.tempo.source = .manual →
          ∃ t, EdgeTaken s t n [entry .acted i (second 2 0)] [.tap, .tempo] ∧ taps ring t
            ∧ t.dev.tempo = { s.dev.tempo with pending := some (T, .tap) }) ∧
        (s.dev.tempo.source = .follow → s.dev.sync.state ≠ .locked →
          ∃ t, EdgeTaken s t n [entry .acted i (second 2 16)] [.tap, .tempo] ∧ taps ring t
            ∧ t.dev.tempo = { s.dev.tempo with source := .manual, pending := some (T, .tap) }) ∧
        (∀ e, s.dev.tempo.source = .follow → s.dev.sync.state = .locked → s.dev.sync.estimate = some e →
          ∃ t, EdgeTaken s t n [.tapIgnored T e, entry .ignored i (second 3 0)] [.tap] ∧ taps ring t)))

/-- The debounce timer expires ONLINE (R144, R146, R147, R151): a NOTIFY pedal is reported by its PEDAL entry alone; a
GO pedal with nothing to go is ignored with PEDAL_IGNORED before it; TAP as above; a HOLD press takes an ARMED change
to HELD and a HELD one, with the loading flag clear, back to ARMED (R123, R124); a LOCK_OVERRIDE edge reports the
override level after it (R148); a DAMPER edge sets the level of all channels of its masked ports (R149), a release
where none has a SUSTAINED entry; a CLICK_MUTE press with no pulse in progress toggles the mute (R111); a PANIC press,
in DRAINING too, releases everything and reports how many entries (R41, R150). In DRAINING nothing is left to release,
as R188 leaves it, or some port holds a message, so that the press does not end the drain. Every other edge in DRAINING
is reported as DRAINING, with the function's detail (R145, R151); what that detail is with nothing done, and that a
NOTIFY edge and a release without an action are so reported too, are the model's readings (log 19, log 39). -/
def Obligations.DebounceReportsPedal : Prop :=
  ∀ (s : State) (n : Fin 8) (edge : PedalEdge),
    let p := s.dev.pedals[n]
    let report (o : PedalOutcome) (main : Word) := Entry.pedal n p.setup.function edge .input o main 0
    let flag (b : Bool) : Word := if b then 1 else 0
    (s.isOnline = true →
      (EdgeDue s n .notify edge → ∃ t, EdgeTaken s t n [report .none 0] []) ∧
      (EdgeDue s n .go .press → edge = .press → s.dev.change.state = .idle →
        ∃ t, EdgeTaken s t n
          [.pedalIgnored n .go .idle s.dev.change.loadingFlag, report .ignored s.dev.change.stateWord] []) ∧
      (EdgeDue s n .tap .press → TapPressSays s n) ∧
      (∀ sc : SceneCopy, EdgeDue s n .hold .press → edge = .press → s.dev.change.copy = some sc →
        (s.dev.change.state = .armed →
          ∃ t, EdgeTaken s t n [.changeHeld sc.number (.pedal n), report .acted t.dev.change.stateWord] [.change]
            ∧ t.dev.change = { s.dev.change with state := .held, armed := none }) ∧
        (s.dev.change.state = .held → s.dev.change.loadingFlag = false → sc.boundary ≠ .now →
          s.dev.tempo.transport ≠ .stopped →
          ∃ t, EdgeTaken s t n
              [.changeResumed sc.number sc.boundary (.pedal n), report .acted t.dev.change.stateWord] [.change]
            ∧ t.dev.change =
                { s.dev.change with state := .armed, armed := some { boundary := sc.boundary, since := s.dev.now } })) ∧
      (EdgeDue s n .lockOverride edge →
        ∃ t, EdgeTaken s t n [report .acted (flag t.dev.overrideHeld)] [] ∧
          (edge = .press → t.dev.overrideHeld = true)) ∧
      (EdgeDue s n .damper edge →
        (edge = .release → ∀ (q : Fin 4) (c : BitVec 4), p.setup.mask.getLsbD q.val = true →
          s.dev.stage.sustainedOf q c = []) →
        ∃ t, EdgeTaken s t n [report .acted (word4 p.setup.mask.toNat (if edge = .press then 1 else 0) 0 0)] [.dampers]
          ∧ ∀ (q : Fin 4) (c : BitVec 4), t.dev.stage.damperDown q c =
              (if p.setup.mask.getLsbD q.val then decide (edge = .press) else s.dev.stage.damperDown q c)) ∧
      (EdgeDue s n .clickMute .press → edge = .press → (∀ k : Fin 4, s.dev.click.lines[k].endsAt = none) →
        ∃ t, EdgeTaken s t n [report .acted (flag (!s.dev.click.mute))] [.click]
          ∧ t.dev.click = { s.dev.click with mute := !s.dev.click.mute })) ∧
    (s.isReady = true →
      s.dev.engine.state = .online ∨ (s.dev.engine.state = .draining ∧
        ((s.dev.stage.heldVoices = [] ∧ s.dev.stage.deferrals = []) ∨
          ∃ q : Fin 6, s.dev.stage.ports[q].isEmpty = false)) →
      EdgeDue s n .panic .press → edge = .press →
      ∃ t es, EdgeTaken s t n (es ++ [report .acted (BitVec.ofNat 32 s.dev.stage.heldVoices.length)])
          [.voices, .dampers, .ports, .deferrals]
        ∧ (∀ (q : Fin 4) (c : BitVec 4), t.dev.stage.damperDown q c = false)
        ∧ (∀ (k : Fin 128) (v : Voice), t.dev.stage.voices[k] = some v → v.state = .releasing)
        ∧ t.dev.stage.deferrals = []) ∧
    (s.isReady = true → s.dev.engine.state = .draining → EdgeDue s n p.setup.function edge →
      (edge = .release ∨ p.setup.function ≠ .panic) →
      ∃ t, EdgeTaken s t n
        [report .draining
          (match p.setup.function, edge with
            | .lockOverride, _ => flag t.dev.overrideHeld
            | .damper, _ => word4 p.setup.mask.toNat 0 0 0
            | .clickMute, .press => flag s.dev.click.mute
            | .go, .press => s.dev.change.stateWord
            | .hold, .press => s.dev.change.stateWord
            | _, _ => 0)] [])

/-- A NEXT or PREV press in IDLE cues the position after or before the set position with a waiting go; at an end of
the set list it only writes SET_END (R119, R147, R151). -/
def Obligations.StepPressCuesPosition : Prop :=
  ∀ (s : State) (n : Fin 8) (m : Word) (dir : Direction), s.isOnline = true →
    s.dev.pedals[n].timer = some m → reached s.dev.now m = true → s.dev.pedals[n].pressed = false →
    s.dev.pedals[n].setup.function = (if dir = .next then .next else .prev) → s.dev.change.state = .idle →
    s.dev.change.copy = none →
    let function := s.dev.pedals[n].setup.function
    let position : Int := match s.dev.change.setPosition with | some p => p | none => -1
    let target : Int := if dir = .next then position + 1 else position - 1
    (0 ≤ target → target < s.dev.layout.setListLength →
      ∃ t, exec (.debounceExpiry n) s = .next t ∧ PedalBecomes n (debounced s.dev.pedals[n]) s t
        ∧ t.dev.change =
            { s.dev.change with
              state := .loading
              load := some { origin := dir.cueOrigin, position := some target.toNat, scene := none, reads := 0
                             headRead := 0, retryAt := none }
              go := some { origin := dir.goOrigin, waiting := true }
              reads := s.dev.change.reads ++ [{ target := .setListEntry target.toNat, abandoned := false }] }
        ∧ Journaled [.pedal n function .press .input .acted (BitVec.ofNat 32 target.toNat) 0] s t
        ∧ EventChanges [.pedals, .change] s t) ∧
    (target < 0 ∨ s.dev.layout.setListLength ≤ target →
      ∃ t, exec (.debounceExpiry n) s = .next t ∧ PedalBecomes n (debounced s.dev.pedals[n]) s t
        ∧ Journaled
            [.setEnd dir s.dev.change.setPosition,
              .pedal n function .press .input .setEnd (position32 s.dev.change.setPosition) 0] s t
        ∧ EventChanges [.pedals] s t)

/-! ## Set list and scene copies (R12 to R17, R117, R118) -/

/-- A copy ends without a pending copy (R118): its read has left the port, and a cue request is completed with the
code, whatever the cue came from. In LOADING the unit is IDLE, and a waiting GO request is completed with NOT_READY; in
HELD the loading flag is cleared, and the pending copy, the go and HELD stay. -/
def CueRefused (s t : State) (ld : Load) (code : ResultCode) (value : Nat) : Prop :=
  let cue := cueCompletion s s.dev.stampNow s.dev.req.working ld.origin code value
  let gone : ChangeUnit := { s.dev.change with reads := s.dev.change.reads.tail, load := none }
  (s.dev.change.state = .loading →
    t.dev.change = { gone with state := .idle, go := none }
      ∧ Completed s t (cue ++ goCompletion s s.dev.stampNow s.dev.req.working s.dev.change.go .notReady 0)) ∧
  (s.dev.change.state = .held → t.dev.change = { gone with loadingFlag := false } ∧ Completed s t cue)

/-- The set list entry of a cue by position is read, in LOADING and in HELD, with or without a waiting go and from
whatever origin: one of 0-127 begins the read of its scene; one above 127 is refused with BAD_SCENE 30; a failed read
ends the cue with MEMORY, its fault and its entry (R12, R16, R118). The head count and the scene that the CUE_TAKEN
entry of a refused cue shows are the model's reading (log 16), as is the order of the completions (log 17). -/
def Obligations.SetListEntryNamesScene : Prop :=
  ∀ (s : State) (bus : Bus) (p : Nat) (ld : Load), s.isOnline = true →
    s.dev.change.nextRead = some { target := .setListEntry p, abandoned := false } →
    s.dev.change.load = some ld → s.dev.change.state = .loading ∨ s.dev.change.state = .held →
    let read := portRead { mem := s.mem, bus := bus } (rigAddress s.dev (s.dev.layout.setList + 2 * p)) 2
    (∀ bs n, read.1 = some bs → natOf bs = n → n ≤ 127 →
      ∃ t, exec (.setListReadCompletion bus) s = .next t ∧ t.mem = read.2.mem
        ∧ t.dev.change =
            { s.dev.change with
              load := some { ld with scene := some (BitVec.ofNat 7 n) }
              reads := s.dev.change.reads.tail ++ [{ target := .sceneRecord (BitVec.ofNat 7 n), abandoned := false }] }
        ∧ Journaled [] s t ∧ EventChanges [.change, .mem] s t) ∧
    (∀ bs, read.1 = some bs → 127 < natOf bs →
      ∃ t, exec (.setListReadCompletion bus) s = .next t ∧ t.mem = read.2.mem ∧ CueRefused s t ld .badScene 30
        ∧ Journaled [.cueTaken ld.headRead .badScene 30 ld.origin ld.scene ld.position] s t
        ∧ EventChanges [.change, .req, .mem] s t) ∧
    (read.1 = none →
      ∃ t, exec (.setListReadCompletion bus) s = .next t ∧ t.mem = read.2.mem ∧ CueRefused s t ld .memory 0
        ∧ FaultRaised .memory s t
        ∧ Journaled
            [.memory (s.dev.layout.setList + 2 * p) .setListRead,
              .cueTaken ld.headRead .memory 0 ld.origin ld.scene ld.position] s t
        ∧ EventChanges [.change, .req, .mem, .faults, .causes, .attnPulse] s t)

/-- A copy ends with a pending copy (R117): its read has left the port, its CUE_TAKEN is the first entry, and a cue
request is completed OK with the clamps before anything else. In LOADING without a go the unit is CUED; with a waiting
go it is ARMED at the boundary of the new copy, counted from now, or switches within this event when that is NOW or the
transport is STOPPED (R122); in HELD the copy takes the place of the pending one, the loading flag is cleared, and the
go and HELD stay. -/
def CopyTaken (s t : State) (ld : Load) (sc : SceneCopy) : Prop :=
  let gone : ChangeUnit := { s.dev.change with reads := s.dev.change.reads.tail, load := none }
  let cue := cueCompletion s s.dev.stampNow s.dev.req.working ld.origin .ok sc.clamps
  let taken : Entry := .cueTaken sc.headCount .ok sc.clamps ld.origin (some sc.number) ld.position
  let atOnce := sc.boundary = .now ∨ s.dev.tempo.transport = .stopped
  let quietly (c : ChangeUnit) : Prop :=
    t.dev.change = c ∧ Completed s t cue ∧ Journaled [taken] s t ∧ EventChanges [.change, .req, .mem] s t
  (s.dev.change.state = .loading → s.dev.change.go = none → quietly { gone with copy := some sc, state := .cued }) ∧
  (∀ g : GoFlight, s.dev.change.state = .loading → s.dev.change.go = some g → ¬ atOnce →
    quietly
      { gone with
        copy := some sc, state := .armed, go := some { g with waiting := false }
        armed := some { boundary := sc.boundary, since := s.dev.now } }) ∧
  (∀ g : GoFlight, s.dev.change.state = .loading → s.dev.change.go = some g → atOnce →
    t.dev.change = { switched s sc with reads := s.dev.change.reads.tail, load := none }
      ∧ SwitchSays sc (armingMoment sc) g [taken] s t
      ∧ Completed s t
          (cue ++ goCompletion s t.dev.eventStamp s.dev.req.working (some g) .ok (s.dev.change.activation + 1).toNat)
      ∧ EventChanges [.change, .voices, .ports, .deferrals, .tempo, .click, .req, .mem] s t) ∧
  (s.dev.change.state = .held → quietly { gone with copy := some sc, loadingFlag := false })

/-- A scene read of a cue in progress, in LOADING and in HELD, with or without a waiting go and from whatever origin
(R14 to R17, R117, R118): unequal edit counts wait 1,000 µs for another read, or on the fourth read refuse with TORN;
equal counts with a structural error refuse with BAD_SCENE; otherwise the copy is formed and taken by state; a failed
read refuses with MEMORY. The data of an abandoned read change nothing, and its failure is reported (R16, R19). The
further read of a torn scene begins at its moment and not before. The head count that the CUE_TAKEN entry of a refused
cue shows is the model's reading (log 16), as is the order of the completions (log 17); that CUE_TAKEN comes before the
entries of a switch (log 40), and that the retry's row does nothing before its moment (log 3), its choices. -/
def Obligations.SceneReadsAreJudged : Prop :=
  (∀ (s : State) (ld : Load) (n : BitVec 7) (m : Word), s.isReady = true → s.dev.change.load = some ld →
    ld.scene = some n → ld.retryAt = some m →
    (reached s.dev.now m = true →
      ∃ t, exec .sceneReadRetry s = .next t
        ∧ t.dev.change =
            { s.dev.change with
              load := some { ld with retryAt := none }
              reads := s.dev.change.reads ++ [{ target := .sceneRecord n, abandoned := false }] }
        ∧ Journaled [] s t ∧ EventChanges [.change] s t) ∧
    (reached s.dev.now m = false → exec .sceneReadRetry s = .next s)) ∧
  ∀ (s : State) (bus : Bus) (n : BitVec 7), s.isOnline = true →
    let read := readParts s.dev (sceneParts (s.dev.layout.sceneTable + n.toNat * 384)) { mem := s.mem, bus := bus }
    (s.dev.change.nextRead = some { target := .sceneRecord n, abandoned := true } →
      ∃ t, exec (.sceneReadCompletion bus) s = .next t ∧ t.mem = read.2.mem
        ∧ t.dev.change = { s.dev.change with reads := s.dev.change.reads.tail }
        ∧ (∀ parts, read.1 = .ok parts → Journaled [] s t ∧ EventChanges [.change, .mem] s t)
        ∧ (∀ off, read.1 = .error off → FaultRaised .memory s t ∧ Journaled [.memory off .sceneCopy] s t
            ∧ EventChanges [.change, .mem, .faults, .causes, .attnPulse] s t)) ∧
    (∀ ld : Load, s.dev.change.nextRead = some { target := .sceneRecord n, abandoned := false } →
      s.dev.change.load = some ld → s.dev.change.state = .loading ∨ s.dev.change.state = .held →
      (∀ parts, read.1 = .ok parts →
        let record := recordOf parts
        let head := BitVec.ofNat 32 (fieldAt record 0 4)
        (fieldAt record 0 4 ≠ fieldAt record 380 4 → ld.reads < 3 →
          ∃ t, exec (.sceneReadCompletion bus) s = .next t ∧ t.mem = read.2.mem
            ∧ t.dev.change =
                { s.dev.change with
                  reads := s.dev.change.reads.tail
                  load := some
                    { ld with headRead := head, reads := ld.reads + 1, retryAt := some (after s.dev.now 1000) } }
            ∧ Journaled [] s t ∧ EventChanges [.change, .mem] s t) ∧
        (fieldAt record 0 4 ≠ fieldAt record 380 4 → ld.reads = 3 →
          ∃ t, exec (.sceneReadCompletion bus) s = .next t ∧ t.mem = read.2.mem ∧ CueRefused s t ld .torn 4
            ∧ Journaled [.cueTaken head .torn 4 ld.origin ld.scene ld.position] s t
            ∧ EventChanges [.change, .req, .mem] s t) ∧
        (∀ value, fieldAt record 0 4 = fieldAt record 380 4 → sceneError record = some value →
          ∃ t, exec (.sceneReadCompletion bus) s = .next t ∧ t.mem = read.2.mem ∧ CueRefused s t ld .badScene value
            ∧ Journaled [.cueTaken head .badScene value ld.origin ld.scene ld.position] s t
            ∧ EventChanges [.change, .req, .mem] s t) ∧
        (fieldAt record 0 4 = fieldAt record 380 4 → sceneError record = none →
          ∃ t, exec (.sceneReadCompletion bus) s = .next t ∧ t.mem = read.2.mem
            ∧ CopyTaken s t ld (sceneCopyOf n ld.position record))) ∧
      (∀ off, read.1 = .error off →
        ∃ t, exec (.sceneReadCompletion bus) s = .next t ∧ t.mem = read.2.mem ∧ CueRefused s t ld .memory 0
          ∧ FaultRaised .memory s t
          ∧ Journaled [.memory off .sceneCopy, .cueTaken ld.headRead .memory 0 ld.origin ld.scene ld.position] s t
          ∧ EventChanges [.change, .req, .mem, .faults, .causes, .attnPulse] s t))

/-! ## Notice, scan and slots (R174 to R179) -/

/-- NOTICE sets notice pending in any engine state; a scan begins at slot 0 with the flag cleared when the engine runs
and no scan does; otherwise the flag waits (R174, R184; that the flag and the scan's beginning are two steps is log
26). A visit of the scan (R175, R178, R179; log 11 and log 21 say what the model chose in it): a POSTED slot with no
request in flight, no completion in the retry list and none still to be written is taken, TAKEN is written and the
request is kept as read; when that write fails the slot keeps its bytes, POSTED among them, MEMORY is set and reported,
and the scan goes on; any other slot is passed over; a failed read sets MEMORY, is reported once in a run of failures,
and the slot is passed over. -/
def Obligations.ScansTakePostedSlots : Prop :=
  (∀ (s : State) (w : RegWrite), s.isReady = true →
    (∃ t, exec (.notice w) s = .next t ∧ t.dev.req = { s.dev.req with notice := true } ∧ Journaled [] s t
      ∧ EventChanges [.req] s t) ∧
    (s.dev.req.notice = true → s.dev.req.scan = none →
      (s.dev.engine.state = .online ∨ s.dev.engine.state = .draining) →
      ∃ t, exec .scanBegin s = .next t
        ∧ t.dev.req = { s.dev.req with notice := false, scan := some { slot := 0, phase := .visiting } }
        ∧ Journaled [] s t ∧ EventChanges [.req] s t) ∧
    (s.dev.req.notice = false ∨ s.dev.req.scan ≠ none ∨
        (s.dev.engine.state ≠ .online ∧ s.dev.engine.state ≠ .draining) →
      exec .scanBegin s = .next s)) ∧
  ∀ (s : State) (bus : Bus) (n : Fin 8), s.isOnline = true → s.dev.req.visitDue = some n →
    let addr := rigAddress s.dev (s.dev.layout.slotArea + n.val * 32)
    let read := portRead { mem := s.mem, bus := bus } addr 20
    let free := s.dev.change.inFlight n = false ∧ (∀ x ∈ s.dev.req.retries, x.completion.slot ≠ n) ∧
      ∀ c ∈ s.dev.req.completions, c.slot ≠ n
    (∀ bs, read.1 = some bs → free → fieldAt bs 0 1 = 1 → (portWrite read.2 addr [2#8]).1 = true →
      ∃ t, exec (.slotVisit bus) s = .next t ∧ t.mem = (portWrite read.2 addr [2#8]).2.mem
        ∧ t.dev.req =
            { s.dev.req with
              failRun := s.dev.req.failRun.set n false
              scan := some
                { slot := n.val
                  phase := .handed
                    { slot := n, kind := byteOf (fieldAt bs 1 1), tag := BitVec.ofNat 32 (fieldAt bs 4 4)
                      arg1 := BitVec.ofNat 32 (fieldAt bs 8 4), arg2 := BitVec.ofNat 32 (fieldAt bs 12 4)
                      arg3 := BitVec.ofNat 32 (fieldAt bs 16 4) } } }
        ∧ Journaled [] s t ∧ EventChanges [.req, .mem] s t) ∧
    (∀ bs, read.1 = some bs → free → fieldAt bs 0 1 = 1 → (portWrite read.2 addr [2#8]).1 = false →
      ∃ t, exec (.slotVisit bus) s = .next t ∧ t.mem = memHostWrites read.2.mem (busHead read.2.bus).hostWrites
        ∧ t.dev.req = ({ s.dev.req with failRun := s.dev.req.failRun.set n true } : RequestUnit).nextSlot
        ∧ FaultRaised .memory s t ∧ Journaled [.memory (s.dev.layout.slotArea + n.val * 32) .requestSlot] s t
        ∧ EventChanges [.req, .mem, .faults, .causes, .attnPulse] s t) ∧
    (∀ bs, read.1 = some bs → (¬ free ∨ fieldAt bs 0 1 ≠ 1) →
      ∃ t, exec (.slotVisit bus) s = .next t ∧ t.mem = read.2.mem
        ∧ t.dev.req = ({ s.dev.req with failRun := s.dev.req.failRun.set n false } : RequestUnit).nextSlot
        ∧ Journaled [] s t ∧ EventChanges [.req, .mem] s t) ∧
    (read.1 = none →
      ∃ t, exec (.slotVisit bus) s = .next t ∧ t.mem = read.2.mem
        ∧ t.dev.req = ({ s.dev.req with failRun := s.dev.req.failRun.set n true } : RequestUnit).nextSlot
        ∧ FaultRaised .memory s t
        ∧ Journaled
            (if s.dev.req.failRun[n] then [] else [.memory (s.dev.layout.slotArea + n.val * 32) .requestSlot]) s t
        ∧ EventChanges [.req, .mem, .faults, .causes, .attnPulse] s t)

/-- Outside ONLINE every request that a scan takes is completed with OFFLINE and changes nothing else; ONLINE, a kind
that is none of the fourteen is completed with UNKNOWN and the kind (R176, R184). -/
def Obligations.RequestsOutsideOnlineAreRefused : Prop :=
  ∀ (s : State) (r : Request), s.dev.req.handedRequest = some r →
    (s.isReady = true → s.dev.engine.state ≠ .online →
      ∃ t, exec (requestCommand r.kind) s = .next t ∧ Answered r .offline 0 s t ∧ Journaled [] s t
        ∧ EventChanges [.req] s t) ∧
    (s.isOnline = true → r.kind = 0#8 ∨ 14 < r.kind.toNat →
      ∃ t, exec .unknownRequest s = .next t ∧ Answered r .unknown r.kind.toNat s t ∧ Journaled [] s t
        ∧ EventChanges [.req] s t)

/-- A completion is written: accepted, it is whole, SLOT_DONE is latched and the slot's run of failures ends; failed,
it goes to the retry list for 1,000 µs later, with MEMORY and an entry for the first failure of a run. A retry is made
at its moment in every engine state, the same way but without an entry (R177, R179, R190; what makes a run is log 21).
No completion is left out: one that is not whole is in the retry list. One whose slot has another there already waits
for it, which keeps the list at one for each slot (R173; the model's choice, log 37). -/
def Obligations.CompletionsAreWritten : Prop :=
  ∀ (s : State) (slot : Fin 8) (bus : Bus), s.isReady = true →
    (∀ c, s.dev.req.completions.find? (fun c => decide (c.slot = slot)) = some c →
      let run := portWriteAll { mem := s.mem, bus := bus } (completionWrites c)
      let q := { s.dev.req with completions := s.dev.req.completions.erase c }
      let alone := ∀ x ∈ s.dev.req.retries, x.completion.slot ≠ slot
      (alone → run.1 = true →
        ∃ t, exec (.slotCompletion slot bus) s = .next t ∧ t.mem = run.2.mem
          ∧ t.dev.req = ({ q with failRun := q.failRun.set slot false } : RequestUnit).endScan
          ∧ t.dev.regs.causes = s.dev.regs.causes ||| 1#3 ∧ Journaled [] s t
          ∧ EventChanges [.req, .mem, .causes, .attnPulse] s t) ∧
      (alone → run.1 = false → s.dev.engine.state = .online →
        ∃ t, exec (.slotCompletion slot bus) s = .next t ∧ t.mem = run.2.mem
          ∧ t.dev.req =
              ({ q with
                 failRun := q.failRun.set slot true
                 retries := q.retries ++ [{ completion := c, dueAt := after s.dev.now 1000 }] } : RequestUnit).endScan
          ∧ FaultRaised .memory s t
          ∧ Journaled (if s.dev.req.failRun[slot] then [] else [.memory c.offset .requestSlot]) s t
          ∧ EventChanges [.req, .mem, .faults, .causes, .attnPulse] s t) ∧
      (¬ alone → exec (.slotCompletion slot bus) s = .next s)) ∧
    (∀ r, s.dev.retryDue slot = some r →
      let run := portWriteAll { mem := s.mem, bus := bus } (completionWrites r.completion)
      let q := { s.dev.req with retries := s.dev.req.retries.erase r }
      (run.1 = true →
        ∃ t, exec (.completionRetry slot bus) s = .next t ∧ t.mem = run.2.mem
          ∧ t.dev.req = { q with failRun := q.failRun.set slot false }
          ∧ t.dev.regs.causes = s.dev.regs.causes ||| 1#3 ∧ Journaled [] s t
          ∧ EventChanges [.req, .mem, .causes, .attnPulse] s t) ∧
      (run.1 = false →
        ∃ t, exec (.completionRetry slot bus) s = .next t ∧ t.mem = run.2.mem
          ∧ t.dev.req = { q with retries := q.retries ++ [{ r with dueAt := after s.dev.now 1000 }] }
          ∧ FaultRaised .memory s t ∧ Journaled [] s t ∧ EventChanges [.req, .mem, .faults, .causes, .attnPulse] s t))

/-- In a memory of canonical form, a completion that a quiet bus takes stands in its slot: DONE, result code, tag,
value, and the stamp's clock, bar, beat and tick, least significant byte first; every byte outside those is as it was
(R177, R194, R196). -/
def Obligations.CompletionBytesLand : Prop :=
  ∀ (m : Mem) (c : Completion), Mem.wf m = true → c.addr + 32 ≤ 4294967296 →
    let run := portWriteAll { mem := m, bus := [] } (completionWrites c)
    run.1 = true ∧ memRead run.2.mem c.addr = 3#8 ∧ memRead run.2.mem (c.addr + 2) = byteOf c.code.code
      ∧ (∀ k : Nat, k < 4 →
          memRead run.2.mem (c.addr + 4 + k) = byteOf (c.tag.toNat / 256 ^ k) ∧
          memRead run.2.mem (c.addr + 20 + k) = byteOf (c.value.toNat / 256 ^ k) ∧
          memRead run.2.mem (c.addr + 24 + k) = byteOf (c.stamp.clock.toNat / 256 ^ k))
      ∧ memRead run.2.mem (c.addr + 28) = byteOf c.stamp.pos.bar
      ∧ memRead run.2.mem (c.addr + 29) = byteOf (c.stamp.pos.bar / 256)
      ∧ memRead run.2.mem (c.addr + 30) = byteOf c.stamp.pos.beat
      ∧ memRead run.2.mem (c.addr + 31) = byteOf c.stamp.pos.tick
      ∧ ∀ a : Nat, (a < c.addr ∨ a = c.addr + 1 ∨ a = c.addr + 3 ∨ (c.addr + 8 ≤ a ∧ a < c.addr + 20) ∨ c.addr + 32 ≤ a) →
          memRead run.2.mem a = memRead m a

/-! ## Cues, goes and switches (R116 to R139) -/

/-- CUE_SCENE and CUE_POSITION requests (R11, R116): an argument out of range is refused with BAD_ARG; in IDLE and CUED
the cue begins, a pending copy is discarded and the request stays TAKEN; in HELD with the loading flag clear the flag is
set; elsewhere BUSY. -/
def Obligations.CueRequestsBeginCopies : Prop :=
  ∀ (s : State) (r : Request), s.isOnline = true →
    let cue (c : CueOrigin) (position : Option Nat) (scene : Option (BitVec 7)) (target : CopyTarget) : ChangeUnit :=
      { s.dev.change with
        load := some { origin := c, position := position, scene := scene, reads := 0, headRead := 0, retryAt := none }
        reads := s.dev.change.reads ++ [{ target := target, abandoned := false }] }
    (s.hasRequest 1#8 r →
      let n := BitVec.ofNat 7 r.arg1.toNat
      let begun := cue (.cueScene r.slot r.tag) none (some n) (.sceneRecord n)
      (127 < r.arg1.toNat →
        ∃ t, exec .cueScene s = .next t ∧ Answered r .badArg 1 s t ∧ Journaled [] s t ∧ EventChanges [.req] s t) ∧
      (r.arg1.toNat ≤ 127 → s.dev.change.state = .idle ∨ s.dev.change.state = .cued →
        ∃ t, exec .cueScene s = .next t ∧ t.dev.change = { begun with state := .loading, copy := none }
          ∧ KeptInFlight s t ∧ Journaled [] s t ∧ EventChanges [.change, .req] s t) ∧
      (r.arg1.toNat ≤ 127 → s.dev.change.state = .held → s.dev.change.loadingFlag = false →
        ∃ t, exec .cueScene s = .next t ∧ t.dev.change = { begun with loadingFlag := true }
          ∧ KeptInFlight s t ∧ Journaled [] s t ∧ EventChanges [.change, .req] s t) ∧
      (r.arg1.toNat ≤ 127 →
        s.dev.change.state = .loading ∨ s.dev.change.state = .armed ∨
          (s.dev.change.state = .held ∧ s.dev.change.loadingFlag = true) →
        ∃ t, exec .cueScene s = .next t ∧ Answered r .busy 0 s t ∧ Journaled [] s t ∧ EventChanges [.req] s t)) ∧
    (s.hasRequest 2#8 r →
      let begun := cue (.cuePosition r.slot r.tag) (some r.arg1.toNat) none (.setListEntry r.arg1.toNat)
      (s.dev.layout.setListLength ≤ r.arg1.toNat →
        ∃ t, exec .cuePosition s = .next t ∧ Answered r .badArg 1 s t ∧ Journaled [] s t ∧ EventChanges [.req] s t) ∧
      (r.arg1.toNat < s.dev.layout.setListLength → s.dev.change.state = .idle ∨ s.dev.change.state = .cued →
        ∃ t, exec .cuePosition s = .next t ∧ t.dev.change = { begun with state := .loading, copy := none }
          ∧ KeptInFlight s t ∧ Journaled [] s t ∧ EventChanges [.change, .req] s t) ∧
      (r.arg1.toNat < s.dev.layout.setListLength → s.dev.change.state = .held → s.dev.change.loadingFlag = false →
        ∃ t, exec .cuePosition s = .next t ∧ t.dev.change = { begun with loadingFlag := true }
          ∧ KeptInFlight s t ∧ Journaled [] s t ∧ EventChanges [.change, .req] s t) ∧
      (r.arg1.toNat < s.dev.layout.setListLength →
        s.dev.change.state = .loading ∨ s.dev.change.state = .armed ∨
          (s.dev.change.state = .held ∧ s.dev.change.loadingFlag = true) →
        ∃ t, exec .cuePosition s = .next t ∧ Answered r .busy 0 s t ∧ Journaled [] s t ∧ EventChanges [.req] s t))

/-- A GO request (R121, R122): NOT_READY in IDLE; a waiting go in LOADING; in CUED, with the transport running and a
boundary of BEAT or BAR, the change is ARMED at the boundary of the pending copy, counted from now; BUSY elsewhere. -/
def Obligations.GoRequestIsTakenByState : Prop :=
  ∀ (s : State) (r : Request), s.isOnline = true → s.hasRequest 3#8 r →
    (s.dev.change.state = .idle →
      ∃ t, exec .go s = .next t ∧ Answered r .notReady 0 s t ∧ Journaled [] s t ∧ EventChanges [.req] s t) ∧
    (s.dev.change.state = .loading → s.dev.change.go = none →
      ∃ t, exec .go s = .next t
        ∧ t.dev.change = { s.dev.change with go := some { origin := .request r.slot r.tag, waiting := true } }
        ∧ KeptInFlight s t ∧ Journaled [] s t ∧ EventChanges [.change, .req] s t) ∧
    (∀ sc : SceneCopy, s.dev.change.state = .cued → s.dev.change.copy = some sc → sc.boundary ≠ .now →
      s.dev.tempo.transport ≠ .stopped →
      ∃ t, exec .go s = .next t
        ∧ t.dev.change =
            { s.dev.change with
              state := .armed, go := some { origin := .request r.slot r.tag, waiting := false }
              armed := some { boundary := sc.boundary, since := s.dev.now } }
        ∧ KeptInFlight s t ∧ Journaled [] s t ∧ EventChanges [.change, .req] s t) ∧
    ((s.dev.change.state = .loading ∧ s.dev.change.go ≠ none) ∨ s.dev.change.state = .armed ∨
        s.dev.change.state = .held →
      ∃ t, exec .go s = .next t ∧ Answered r .busy 0 s t ∧ Journaled [] s t ∧ EventChanges [.req] s t)

/-- The timing stage of a switch to a scene of source MANUAL without a glide, from a MANUAL record at rest (R65, R71,
R79, R106, R132). STOPPED: the meter and a tempo are taken at once, the lines keep the scene's settings pending, and a
scene that starts the transport leaves it PLAYING or in its count-in. Running: the meter and a tempo are left pending.
-/
def TimingSays (sc : SceneCopy) (s t : State) : Prop :=
  let r := s.dev.tempo
  let v := clampNat 2000 30000 sc.tempo
  let cleared := sc.meter < r.beat
  (r.transport = .stopped → sc.startTransport = false →
    t.dev.tempo =
        { r with
          meter := sc.meter, beat := if cleared then 1 else r.beat, tick := if cleared then 0 else r.tick
          t := if sc.tempo = 0 then r.t else v, acc := if sc.tempo = 0 ∨ v = r.t then r.acc else 0 }
      ∧ t.dev.click =
        { s.dev.click with
          lines := Vector.ofFn fun n : Fin 4 =>
            { s.dev.click.lines[n] with pendingSet := some (sc.subdivisions[n], sc.accents) } }) ∧
  (r.transport = .stopped → sc.startTransport = true →
    t.dev.tempo.transport = if sc.countInBars = 0 then .playing else .countIn) ∧
  (r.transport ≠ .stopped →
    t.dev.tempo =
      { r with pendingMeter := some sc.meter, pending := if sc.tempo = 0 then none else some (v, .scene) })

/-- A GO in CUED whose boundary is NOW, or with the transport STOPPED, switches within itself (R122, R127 to R133): the
copy becomes the active scene, its zones with the carried ones become the active zone set, the activation count
advances, a cue by position moves the set position, the unit is IDLE, and the GO is completed OK with the count. The
spill and the timing are as above; each entry message whose destination has no deferral by then is offered, in scene
order (R131). The entries are those of the carry, then a DEFER_DISCARDED for each deferral before, then those of the
offers and the timing, and last SCENE_CHANGED with what the switch did (R133, R139). No damper, pedal, tap or sync
state is touched. -/
def Obligations.GoSwitchesTheScene : Prop :=
  ∀ (s : State) (r : Request) (sc : SceneCopy), s.isOnline = true → s.hasRequest 3#8 r → s.dev.change.state = .cued →
    s.dev.change.copy = some sc → sc.boundary = .now ∨ s.dev.tempo.transport = .stopped →
      let activation := s.dev.change.activation + 1
      let carried := carriedZones sc s.dev.overrideHeld s.dev.change.zones
      let spilled := s.dev.stage.spill sc activation
      let sent := (sc.entryMessages.filter fun e => (spilled.deferralFor e.dest).isNone).foldl
        (fun st e => st.offerEntry e.port e.msg) spilled
      ∃ t, exec .go s = .next t
        ∧ t.dev.change = switched s sc
        ∧ SpillSays sc activation s t
        ∧ (∀ p : Fin 6, t.dev.stage.ports[p].main = sent.ports[p].main ∧
            t.dev.stage.ports[p].backlog = sent.ports[p].backlog)
        ∧ (sc.source = .manual → sc.glideBeats = 0 → s.dev.tempo.source = .manual → s.dev.tempo.pending = none →
            s.dev.tempo.pendingMeter = none → s.dev.tempo.glide = none → TimingSays sc s t)
        ∧ (∃ es, Journaled
            (carryEntries sc s.dev.overrideHeld s.dev.change.zones
              ++ s.dev.stage.deferrals.map (fun df => .deferDiscarded df.dest df.messages.length df.activation)
              ++ es
              ++ [.sceneChanged sc.number activation t.dev.change.setPosition (armingMoment sc) (.request r.slot r.tag)
                    carried.length
                    t.dev.stage.deferrals.length s.dev.overrideHeld sc.spill]) s t)
        ∧ Answered r .ok activation.toNat s t
        ∧ EventChanges [.change, .voices, .ports, .deferrals, .tempo, .click, .req] s t

/-- The carry (R128): under the override nothing is carried; otherwise the locked zones of the outgoing set, in their
order, that name no destination of the new scene, as many as leave the set within 8. -/
def Obligations.CarryKeepsLockedZones : Prop :=
  ∀ (sc : SceneCopy) (outgoing : List Zone),
    carriedZones sc true outgoing = [] ∧
    carriedZones sc false outgoing =
      ((outgoing.filter (·.lock)).filter (fun z => !sc.names z.dest)).take (8 - sc.zones.length) ∧
    (sc.zones.length ≤ 8 → (sc.zones ++ carriedZones sc false outgoing).length ≤ 8) ∧
    ∀ z ∈ carriedZones sc false outgoing, z ∈ outgoing ∧ z.lock = true ∧ sc.names z.dest = false

/-- HOLD takes an ARMED change to HELD with CHANGE_HELD and completes OK with the pending scene; in HELD it does that
and changes nothing; in IDLE, LOADING and CUED it is NOT_READY (R123). RESUME in HELD with the loading flag clear reads
the boundary afresh, counts it from now and is completed OK, with CHANGE_RESUMED: the change is ARMED, or, for a
boundary of NOW or a STOPPED transport, it switches within the RESUME, and its GO request is completed after it (R122,
R124, R133); with the flag set it is BUSY; in ARMED it is OK and changes nothing; in IDLE, LOADING and CUED it is
NOT_READY (R124). The order of the completions is the model's reading (log 17). -/
def Obligations.HoldAndResume : Prop :=
  ∀ (s : State) (r : Request), s.isOnline = true →
    let early := s.dev.change.state = .idle ∨ s.dev.change.state = .loading ∨ s.dev.change.state = .cued
    (∀ sc : SceneCopy, s.hasRequest 4#8 r → s.dev.change.copy = some sc → s.dev.change.state = .armed →
      ∃ t, exec .hold s = .next t ∧ t.dev.change = { s.dev.change with state := .held, armed := none }
        ∧ Answered r .ok sc.number.toNat s t ∧ Journaled [.changeHeld sc.number (.request r.slot)] s t
        ∧ EventChanges [.change, .req] s t) ∧
    (∀ sc : SceneCopy, s.hasRequest 4#8 r → s.dev.change.copy = some sc → s.dev.change.state = .held →
      ∃ t, exec .hold s = .next t ∧ Answered r .ok sc.number.toNat s t ∧ Journaled [] s t ∧ EventChanges [.req] s t) ∧
    (s.hasRequest 4#8 r → early →
      ∃ t, exec .hold s = .next t ∧ Answered r .notReady 0 s t ∧ Journaled [] s t ∧ EventChanges [.req] s t) ∧
    (∀ sc : SceneCopy, s.hasRequest 5#8 r → s.dev.change.copy = some sc → s.dev.change.state = .held →
      s.dev.change.loadingFlag = false → sc.boundary ≠ .now → s.dev.tempo.transport ≠ .stopped →
      ∃ t, exec .resume s = .next t
        ∧ t.dev.change =
            { s.dev.change with state := .armed, armed := some { boundary := sc.boundary, since := s.dev.now } }
        ∧ Answered r .ok 0 s t ∧ Journaled [.changeResumed sc.number sc.boundary (.request r.slot)] s t
        ∧ EventChanges [.change, .req] s t) ∧
    (∀ (sc : SceneCopy) (g : GoFlight), s.hasRequest 5#8 r → s.dev.change.copy = some sc → s.dev.change.go = some g →
      s.dev.change.state = .held → s.dev.change.loadingFlag = false →
      sc.boundary = .now ∨ s.dev.tempo.transport = .stopped →
      ∃ t, exec .resume s = .next t ∧ t.dev.change = switched s sc
        ∧ SwitchSays sc (armingMoment sc) g [.changeResumed sc.number sc.boundary (.request r.slot)] s t
        ∧ AnsweredAmong [] (goCompletion s t.dev.eventStamp true (some g) .ok (s.dev.change.activation + 1).toNat)
            s.dev.stampNow r .ok 0 s t
        ∧ EventChanges [.change, .voices, .ports, .deferrals, .tempo, .click, .req] s t) ∧
    (∀ sc : SceneCopy, s.hasRequest 5#8 r → s.dev.change.copy = some sc → s.dev.change.state = .held →
      s.dev.change.loadingFlag = true →
      ∃ t, exec .resume s = .next t ∧ Answered r .busy 0 s t ∧ Journaled [] s t ∧ EventChanges [.req] s t) ∧
    (s.hasRequest 5#8 r → s.dev.change.state = .armed →
      ∃ t, exec .resume s = .next t ∧ Answered r .ok 0 s t ∧ Journaled [] s t ∧ EventChanges [.req] s t) ∧
    (s.hasRequest 5#8 r → early →
      ∃ t, exec .resume s = .next t ∧ Answered r .notReady 0 s t ∧ Journaled [] s t ∧ EventChanges [.req] s t)

/-- CANCEL is NOT_READY in IDLE. In LOADING, CUED, ARMED and HELD the unit goes to IDLE with nothing in progress and
writes CHANGE_CANCELLED with the pending scene, in LOADING the scene being copied; a copy in progress, in LOADING or in
HELD, is abandoned with its CUE_TAKEN entry; a cue request and a GO request in flight are completed with CANCELLED, and
the CANCEL with OK and the state before (R19, R125). The active scene, its zones and the deferrals stay. The order of
the completions is the model's reading (log 17), as is what a CUE_TAKEN entry of another result than OK shows (log 16);
that it comes before CHANGE_CANCELLED is its choice (log 40). -/
def Obligations.CancelWithdrawsTheChange : Prop :=
  ∀ (s : State) (r : Request), s.isOnline = true → s.hasRequest 6#8 r →
    let old := s.dev.change
    let idle : ChangeUnit :=
      { old with state := .idle, loadingFlag := false, copy := none, load := none, go := none, armed := none }
    let concerned := if old.state = .loading then old.load.bind (·.scene) else old.copy.map (·.number)
    let cancelled : Entry := .changeCancelled concerned old.state old.loadingFlag
    let goEnds := goCompletion s s.dev.stampNow true old.go .cancelled 0
    (old.state = .idle →
      ∃ t, exec .cancel s = .next t ∧ Answered r .notReady 0 s t ∧ Journaled [] s t ∧ EventChanges [.req] s t) ∧
    (old.state ≠ .idle → old.load = none →
      ∃ t, exec .cancel s = .next t ∧ t.dev.change = idle ∧ Journaled [cancelled] s t
        ∧ AnsweredAmong goEnds [] s.dev.stampNow r .ok old.state.code s t ∧ EventChanges [.change, .req] s t) ∧
    (∀ ld : Load, old.state ≠ .idle → old.load = some ld →
      ∃ t, exec .cancel s = .next t
        ∧ t.dev.change = { idle with reads := old.reads.map fun x => { x with abandoned := true } }
        ∧ Journaled [.cueTaken ld.headRead .cancelled 0 ld.origin ld.scene ld.position, cancelled] s t
        ∧ AnsweredAmong (cueCompletion s s.dev.stampNow true ld.origin .cancelled 0 ++ goEnds) [] s.dev.stampNow r .ok
            old.state.code s t
        ∧ EventChanges [.change, .req] s t)

/-- UNLOCK_ZONES clears the lock of every zone in the active set and completes OK with the number it cleared (R138).
-/
def Obligations.UnlockClearsLocks : Prop :=
  ∀ (s : State) (r : Request), s.isOnline = true → s.hasRequest 7#8 r →
    ∃ t, exec .unlockZones s = .next t
      ∧ t.dev.change = { s.dev.change with zones := s.dev.change.zones.map fun z => { z with lock := false } }
      ∧ Answered r .ok (s.dev.change.zones.filter (·.lock)).length s t ∧ Journaled [] s t
      ∧ EventChanges [.change, .req] s t

/-- RELEASE_ALL leaves every damper up, no entry SOUNDING or SUSTAINED and no deferral, and completes OK with the
number of entries it released (R41). The deferrals end after the releases, in list order, whatever the table holds
(R137; log 38): where no RELEASING entry has a record left to cut, the releases stand in the ports first, and then the
entry messages of every deferral, with only their drops in the journal. -/
def Obligations.ReleaseAllReleases : Prop :=
  ∀ (s : State) (r : Request), s.isOnline = true → s.hasRequest 13#8 r →
    let released := { s.dev.stage with
      dampers := Vector.replicate 4 (Vector.replicate 16 false), deferrals := [] }.releaseVoices s.dev.stage.heldVoices
    let ended := s.dev.stage.deferrals.foldl deferralEnded released
    ∃ t, exec .releaseAll s = .next t
      ∧ (∀ (p : Fin 4) (c : BitVec 4), t.dev.stage.damperDown p c = false)
      ∧ (∀ (k : Fin 128) (v : Voice), t.dev.stage.voices[k] = some v → v.state = .releasing)
      ∧ t.dev.stage.deferrals = []
      ∧ ((∀ (k : Fin 128) (v : Voice) (x : DestRecord), s.dev.stage.voices[k] = some v → v.state = .releasing →
            x ∈ v.dests → x.flag ≠ .pending) →
          t.dev.stage.voices = released.voices ∧ t.dev.stage.ports = ended.ports ∧ Journaled ended.entries s t)
      ∧ Answered r .ok s.dev.stage.heldVoices.length s t
      ∧ EventChanges [.voices, .dampers, .ports, .deferrals, .req] s t

/-- A RELOAD that read its section whole: the memory its reads left, the clamps of the section, the completion OK with
their number, a rewrite of the state page, and no more than the named blocks changed (R171, R172, R181). One rewrite for
all fields that the section changes, begun at the end of the event, is the model's choice (log 10). -/
def Reloaded (s t : State) (bus : Bus) (r : Request) (mem : Mem) (sec : Section) (clamps : Nat) (bs : List Block) : Prop :=
  exec (.reload bus) s = .next t ∧ t.mem = mem ∧ t.dev.clampCount = clamps ∧ t.dev.clampSection = sec
    ∧ Answered r .ok clamps s t ∧ PageCaused s t ∧ EventChanges ([.clamps, .req, .mem] ++ bs) s t

/-- RELOAD (R57, R99, R113, R152, R166, R172): an argument that names no section is refused with BAD_ARG and reads
nothing; a failed read of any section is MEMORY, with its fault and entry. Read whole, CLICK replaces the setups of
lines that are idle; PEDALS the setups of pedals that are released, with a timer started at one that changed and stands
at its pressed level; SYNC its settings, afresh when division or window differs; PORTS the program select and the
polarities, at once on an idle port; JOURNAL its settings, with the level armed flag set at the next entry handed, and
it is refused when the offset or the capacity differs. That a section is read as one access of the memory port, and
PORTS as two, is the model's choice (log 6), as are the clamps that a program select out of range counts (log 20) and
the one rewrite of the state page, begun at the end of the event with the fields as it leaves them (log 10). -/
def Obligations.ReloadAppliesTheSection : Prop :=
  ∀ (s : State) (bus : Bus) (r : Request), s.isOnline = true → s.hasRequest 14#8 r →
    let run : PortRun := { mem := s.mem, bus := bus }
    let read (off n : Nat) := portRead run (rigAddress s.dev off) n
    (r.arg1.toNat < 1 ∨ 5 < r.arg1.toNat →
      ∃ t, exec (.reload bus) s = .next t ∧ Answered r .badArg 1 s t ∧ Journaled [] s t ∧ EventChanges [.req] s t) ∧
    (∀ sec off, sectionOf r.arg1.toNat = some sec → (readParts s.dev (sectionParts sec) run).1 = .error off →
      ∃ t, exec (.reload bus) s = .next t ∧ t.mem = (readParts s.dev (sectionParts sec) run).2.mem
        ∧ Answered r .memory 0 s t ∧ FaultRaised .memory s t
        ∧ Journaled [.memory off .header] s t ∧ EventChanges [.req, .mem, .faults, .causes, .attnPulse] s t) ∧
    (r.arg1 = 1 → (∀ n : Fin 4, s.dev.click.lines[n].endsAt = none) → ∀ bs, (read 48 64).1 = some bs →
      ∃ t, Reloaded s t bus r (read 48 64).2.mem .click
          ((List.range 4).map fun n => clickSetupClamps (clickBytes bs n)).sum [.click]
        ∧ Journaled [] s t
        ∧ t.dev.click =
            { s.dev.click with
              lines := Vector.ofFn fun n : Fin 4 =>
                { s.dev.click.lines[n] with setup := clickSetupOf (clickBytes bs n.val) } }) ∧
    (r.arg1 = 2 → (∀ n : Fin 8, s.dev.pedals[n].pressed = false) → ∀ bs, (read 112 32).1 = some bs →
      ∃ t, Reloaded s t bus r (read 112 32).2.mem .pedals
          ((List.range 8).map fun n => pedalSetupClamps (pedalBytes bs n)).sum [.pedals]
        ∧ Journaled [] s t
        ∧ ∀ n : Fin 8,
          let p := s.dev.pedals[n]
          let new := pedalSetupOf (pedalBytes bs n.val)
          t.dev.pedals[n] =
            if p.setup.function = new.function ∧ p.setup.polarity = new.polarity ∧ p.setup.mask = new.mask then
              { p with setup := new }
            else
              { high := p.high, pressed := false, setup := new
                timer := if p.high = decide (new.polarity = .inverted) then
                  some (after s.dev.now (new.debounce * 1000)) else none }) ∧
    (r.arg1 = 3 → ∀ bs, (read 40 4).1 = some bs →
      let d := min 96 (fieldAt bs 0 1)
      let w := min 6 (fieldAt bs 1 1)
      let k := min 500 (fieldAt bs 2 2)
      let settings := { s.dev.sync with division := d, window := w, deadband := k }
      let clamped := (if d = fieldAt bs 0 1 then 0 else 1) + (if w = fieldAt bs 1 1 then 0 else 1)
        + (if k = fieldAt bs 2 2 then 0 else 1)
      ∃ t, Reloaded s t bus r (read 40 4).2.mem .sync clamped [.sync] ∧ Journaled [] s t
        ∧ t.dev.sync =
            (if s.dev.sync.division = d ∧ s.dev.sync.window = w then settings
            else
              { settings with
                state := if d = 0 then .off else .absent
                ring := [], lastEdge := none, estimate := none, average := none, clampNoted := false
                lossLeft := none })) ∧
    (r.arg1 = 4 → ∀ selects polarities, (readParts s.dev [(34, 2), (39, 1)] run).1 = .ok [selects, polarities] →
      ∃ t, Reloaded s t bus r (readParts s.dev [(34, 2), (39, 1)] run).2.mem .ports
          (progSelectOf (fieldAt selects 0 1) (fieldAt selects 1 1)).2 [.ports, .progSelect]
        ∧ Journaled [] s t
        ∧ t.dev.progSelect = (progSelectOf (fieldAt selects 0 1) (fieldAt selects 1 1)).1
        ∧ ∀ p : Fin 6,
          let mp := s.dev.stage.ports[p]
          let pol := polarityOf ((byteOf (fieldAt polarities 0 1)).getLsbD p.val)
          t.dev.stage.ports[p] =
            if mp.tx = .idle then { mp with polarity := pol, pendingPolarity := none }
            else { mp with pendingPolarity := if mp.polarity = pol then none else some pol }) ∧
    (r.arg1 = 5 → ∀ bs, (read 24 10).1 = some bs →
      let settings := journalSettingsOf (fieldAt bs 6 1) (fieldAt bs 7 1) (fieldAt bs 8 2) s.dev.layout.capacity
      let same := fieldAt bs 0 4 = s.dev.layout.journal ∧ fieldAt bs 4 2 = s.dev.layout.capacity
      (¬ same →
        ∃ t, exec (.reload bus) s = .next t ∧ t.mem = (read 24 10).2.mem ∧ Answered r .badArg 1 s t
          ∧ Journaled [] s t ∧ EventChanges [.req, .mem] s t) ∧
      (same →
        ∃ t, Reloaded s t bus r (read 24 10).2.mem .journal settings.2 [.journalSetup]
          ∧ t.dev.jw =
              { s.dev.jw with
                mode := settings.1.1, watermark := settings.1.2.1, mask := settings.1.2.2, rearm := true }))

/-! ## State page and journal (R155 to R164, R181, R182, R198) -/

/-- A rewrite of the state page: accepted, it is whole, and one owed begins at once; failed, it is made again 1,000 µs
later, with MEMORY and an entry for the first failure after a whole rewrite, which carries the offset of the access
that failed (the head, the body or the tail). The retry begins a rewrite of the fields as they then stand (R181, R182).
The moment at which the fields are taken is the model's choice (log 10); that a rewrite still under way, and one owed by
then, are made in LOADING too is its reading (log 14). -/
def Obligations.StatePageIsRewritten : Prop :=
  ∀ s : State, s.isReady = true →
    (∀ (bus : Bus) (image : List Byte), s.dev.page.running = some image →
      let run := portWriteAll { mem := s.mem, bus := bus }
        (pageWrites (rigAddress s.dev s.dev.layout.statePage) image)
      (run.1 = true →
        ∃ t, exec (.statePageRewrite bus) s = .next t ∧ t.mem = run.2.mem
          ∧ t.dev.page =
              (if s.dev.page.owed then
                { editCount := s.dev.page.editCount + 1, owed := false, retryAt := none, failRun := false
                  running := some (s.dev.pageImage (s.dev.page.editCount + 1)) }
              else { s.dev.page with running := none, failRun := false })
          ∧ Journaled [] s t ∧ EventChanges [.mem] s t) ∧
      (run.1 = false → s.dev.engine.state = .online →
        ∃ t, exec (.statePageRewrite bus) s = .next t ∧ t.mem = run.2.mem
          ∧ t.dev.page =
              { s.dev.page with running := none, failRun := true, retryAt := some (after s.dev.now 1000) }
          ∧ FaultRaised .memory s t
          ∧ Journaled
              (if s.dev.page.failRun then []
              else
                [.memory
                  (s.dev.layout.statePage +
                    (if (bus.findIdx (·.fails)) = 0 then 0 else if (bus.findIdx (·.fails)) = 1 then 4 else 60))
                  .statePage])
              s t
          ∧ EventChanges [.mem, .faults, .causes, .attnPulse] s t)) ∧
    (∀ m, s.dev.page.running = none → s.dev.page.retryAt = some m → reached s.dev.now m = true →
      ∃ t, exec .statePageRetry s = .next t
        ∧ t.dev.page =
            { s.dev.page with
              editCount := s.dev.page.editCount + 1, owed := false, retryAt := none
              running := some (s.dev.pageImage (s.dev.page.editCount + 1)) }
        ∧ Journaled [] s t ∧ EventChanges [] s t)

/-- The image of the state page: 64 bytes, the edit count at its head and its tail, and every field of R198 at its
offset, with zeros from 44 to 59 (R180, R198). That LOADING and FAULTED would show as 0, as OFFLINE does, is the
model's reading (log 14). -/
def Obligations.StatePageShowsTheFields : Prop :=
  ∀ (d : Device) (count : Word),
    let image := d.pageImage count
    let position := d.tempo.stampPosition
    image.length = 64 ∧ fieldAt image 0 4 = count.toNat ∧ fieldAt image 60 4 = count.toNat
      ∧ fieldAt image 4 4 = 0x53544131
      ∧ fieldAt image 8 1 = (match d.engine.state with | .online => 2 | .draining => 3 | _ => 0)
      ∧ fieldAt image 9 1 = d.change.state.code + 128 * (if d.change.loadingFlag then 1 else 0)
      ∧ fieldAt image 10 1 = (match d.change.active with | some sc => sc.number.toNat | none => 255)
      ∧ fieldAt image 11 1 = (match d.change.copy with | some sc => sc.number.toNat | none => 255)
      ∧ fieldAt image 12 2 = d.change.activation.toNat
      ∧ fieldAt image 14 2 = (match d.change.setPosition with | some p => p % 65536 | none => 0xFFFF)
      ∧ fieldAt image 16 4 = (match d.change.copy with | some sc => sc.headCount.toNat | none => 0)
      ∧ fieldAt image 20 1 = d.tempo.transport.code ∧ fieldAt image 21 1 = d.tempo.meter % 256
      ∧ fieldAt image 22 2 = position.bar % 65536 ∧ fieldAt image 24 1 = position.beat % 256
      ∧ fieldAt image 25 1 = position.tick % 256
      ∧ fieldAt image 26 1 = d.tempo.source.code ∧ fieldAt image 27 1 = d.sync.state.code
      ∧ fieldAt image 28 2 = d.tempo.t % 65536
      ∧ fieldAt image 30 2 = (match d.tempo.pending with | some (v, _) => v % 65536 | none => 0)
      ∧ fieldAt image 32 2 = (match d.sync.estimate with | some e => e % 65536 | none => 0)
      ∧ fieldAt image 34 1 = (match d.tempo.glide with | some g => g.remaining % 256 | none => 0)
      ∧ fieldAt image 35 1 = d.stage.voiceCount % 256 ∧ fieldAt image 36 4 = d.jw.written.toNat
      ∧ fieldAt image 40 1 = d.regs.faults.toNat ∧ fieldAt image 41 1 = d.clampSection.code
      ∧ fieldAt image 42 2 = d.clampCount % 65536
      ∧ ∀ k : Nat, 44 ≤ k → k < 60 → fieldAt image k 1 = 0

/-- The watermark tests of an entry written in STOP mode, by the unread count before its write: the level armed flag
after them, and whether JOURNAL_LEVEL was called (R164). -/
def levelTests (watermark unread : Nat) (armed : Bool) : Bool × Bool :=
  let set := armed || decide (unread < watermark)
  let called := set && decide (watermark ≤ unread + 1)
  (set && !called, called)

/-- JOURNAL_LEVEL is latched exactly when it was called (R164, R190). -/
def LevelCalled (called : Bool) (s t : State) : Prop :=
  t.dev.regs.causes = if called then s.dev.regs.causes ||| 2#3 else s.dev.regs.causes

/-- The oldest entry is taken (R155, R157 to R164): one of a class outside the mask under which it was handed is let go
with no access. In OVERWRITE mode with no loss run it is written into the slot of the written count, its body before
its sequence, and the count advances. In STOP mode the consumed count is read: a ring that it shows full loses the
entry to the loss run, an implausible count also sets JOURNAL, and a failed read loses it and sets MEMORY; with room
and no loss run it is written with the watermark tests; with a loss run the GAP that carries it comes first, and then
the entry, written if there is room left and else the first of a new run. A failed write loses the entry and sets
MEMORY. That the entry waits from its event until this command, with the settings of that event, is the model's choice
(log 8). -/
def Obligations.JournalTakesEntries : Prop :=
  ∀ (s : State) (bus : Bus) (h : Handed) (rest : List Handed), s.isOnline = true → s.dev.jw.queue = h :: rest →
    s.dev.layout.capacity ≤ 65535 →
    let jw : JournalWriter := { s.dev.jw with queue := rest, armed := s.dev.jw.armed || h.rearm }
    let own := entryBody h.entry.kindCode h.stamp h.entry.details
    let gap := entryBody 63 h.stamp s.dev.jw.loss.details
    let slot (n : Word) := rigAddress s.dev (s.dev.layout.journal + n.toNat % s.dev.layout.capacity * 32)
    let put (run : PortRun) (n : Word) (body : List Byte) :=
      portWriteAll run [(slot n + 4, body), (slot n, bytesOf 4 n.toNat)]
    let w := s.dev.jw.written
    let first : LossRun := { count := 1, first := some h.stamp.clock, classes := h.entry.cls.mask, memory := false }
    let faulty : List Block := [.journalCounts, .mem, .faults, .causes, .attnPulse]
    (h.mask &&& h.entry.cls.mask = 0 →
      ∃ t, exec (.journalWriteCompletion bus) s = .next t ∧ t.dev.jw = jw ∧ EventChanges [.journalCounts] s t) ∧
    (h.mask &&& h.entry.cls.mask ≠ 0 →
      (h.mode = .overwrite → s.dev.jw.loss.count = 0 →
        let run := put { mem := s.mem, bus := bus } w own
        (run.1 = true →
          ∃ t, exec (.journalWriteCompletion bus) s = .next t ∧ t.mem = run.2.mem
            ∧ t.dev.jw = { jw with written := w + 1 } ∧ EventChanges [.journalCounts, .mem] s t) ∧
        (run.1 = false →
          ∃ t, exec (.journalWriteCompletion bus) s = .next t ∧ t.mem = run.2.mem
            ∧ t.dev.jw =
                { jw with
                  loss := { first with classes := s.dev.jw.loss.classes ||| first.classes, memory := true } }
            ∧ FaultRaised .memory s t ∧ EventChanges faulty s t)) ∧
      (h.mode = .stop →
        let read := portRead { mem := s.mem, bus := bus } (rigAddress s.dev 44) 4
        (read.1 = none →
          ∃ t, exec (.journalWriteCompletion bus) s = .next t ∧ t.mem = read.2.mem
            ∧ t.dev.jw = { jw with loss := jw.loss.join h true } ∧ FaultRaised .memory s t ∧ EventChanges faulty s t) ∧
        ∀ bs, read.1 = some bs →
          let unread := (w - BitVec.ofNat 32 (natOf bs)).toNat
          let level := levelTests h.watermark unread jw.armed
          let level' := levelTests h.watermark (unread + 1) level.1
          (unread = s.dev.layout.capacity →
            ∃ t, exec (.journalWriteCompletion bus) s = .next t ∧ t.mem = read.2.mem
              ∧ t.dev.jw = { jw with loss := jw.loss.join h false } ∧ EventChanges [.journalCounts, .mem] s t) ∧
          (s.dev.layout.capacity < unread →
            ∃ t, exec (.journalWriteCompletion bus) s = .next t ∧ t.mem = read.2.mem
              ∧ t.dev.jw = { jw with loss := jw.loss.join h false }
              ∧ FaultRaised .journal s t ∧ EventChanges faulty s t) ∧
          (unread < s.dev.layout.capacity → s.dev.jw.loss.count = 0 →
            let run := put read.2 w own
            (run.1 = true →
              ∃ t, exec (.journalWriteCompletion bus) s = .next t ∧ t.mem = run.2.mem
                ∧ t.dev.jw = { jw with written := w + 1, armed := level.1 } ∧ LevelCalled level.2 s t
                ∧ EventChanges [.journalCounts, .mem, .causes, .attnPulse] s t) ∧
            (run.1 = false →
              ∃ t, exec (.journalWriteCompletion bus) s = .next t ∧ t.mem = run.2.mem
                ∧ t.dev.jw = { jw with loss := jw.loss.join h true } ∧ FaultRaised .memory s t
                ∧ EventChanges faulty s t)) ∧
          (unread < s.dev.layout.capacity → 0 < s.dev.jw.loss.count → (put read.2 w gap).1 = true →
            (unread + 1 < s.dev.layout.capacity → (put (put read.2 w gap).2 (w + 1) own).1 = true →
              ∃ t, exec (.journalWriteCompletion bus) s = .next t ∧ t.mem = (put (put read.2 w gap).2 (w + 1) own).2.mem
                ∧ t.dev.jw = { jw with written := w + 2, armed := level'.1, loss := LossRun.clear }
                ∧ LevelCalled (level.2 || level'.2) s t
                ∧ EventChanges [.journalCounts, .mem, .causes, .attnPulse] s t) ∧
            (unread + 1 = s.dev.layout.capacity →
              ∃ t, exec (.journalWriteCompletion bus) s = .next t ∧ t.mem = (put read.2 w gap).2.mem
                ∧ t.dev.jw = { jw with written := w + 1, armed := level.1, loss := first } ∧ LevelCalled level.2 s t
                ∧ EventChanges [.journalCounts, .mem, .causes, .attnPulse] s t))))

/-! ## Registers (R185, R186, R191, R192, R201, R202) -/

/-- The register writes (R184 to R186, R192, R201, R202; the rows of CONTROL as one write are log 25). A write is the
command of its byte address: CONTROL at 04h, by its word one of three rows, AREA at 08h, NOTICE at 0Ch, ACK at 14h, and
elsewhere a write that is ignored. A CONTROL write
that leaves the enable as it was, under any of the four rows that carry one, replaces the enable, the mode and the
cause enables, keeps no other bit, ends a pulse in LEVEL mode, and does not touch the engine; AREA is taken in OFFLINE
and FAULTED, with its four lowest bits held at 0, and ignored elsewhere; ACK clears the causes and faults whose bits
are one, and with HEADER the field code; a write to any other address changes nothing. -/
def Obligations.RegisterWritesAreTaken : Prop :=
  (∀ (addr : Word) (w : RegWrite) (cut : ResetCut),
    let c := registerWriteCommand addr w cut
    let a := addr.toNat
    (4 ≤ a → a < 8 →
      c = if (regWord w).getLsbD 31 then .controlReset w cut
        else if (regWord w).getLsbD 0 then .controlEnableSet w else .controlEnableClear w) ∧
    (8 ≤ a → a < 12 → c = .area w) ∧ (12 ≤ a → a < 16 → c = .notice w) ∧ (20 ≤ a → a < 24 → c = .ack w) ∧
    (a < 4 ∨ (16 ≤ a ∧ a < 20) ∨ 24 ≤ a → c = .ignoredRegisterWrite addr w) ∧
    (lanesWritten w = true → cutShortOfEnd cut = true → c.wellFormed = true)) ∧
  ∀ (s : State) (w : RegWrite), s.isReady = true →
    (∀ c, c = Instr.controlEnableSet w ∨ c = .controlEnableClear w ∨ c = .attentionMode w ∨ c = .causeEnable w →
      (regWord w).getLsbD 31 = false → (regWord w).getLsbD 0 = s.dev.regs.control.getLsbD 0 →
      ∃ t, exec c s = .next t ∧ t.dev.regs.control = regWord w &&& 0x00000073#32
        ∧ t.dev.regs.attnPulse = (if (regWord w).getLsbD 1 then s.dev.regs.attnPulse else none)
        ∧ EventChanges [.control, .attnPulse] s t) ∧
    (s.dev.engine.state = .offline ∨ s.dev.engine.state = .faulted →
      ∃ t, exec (.area w) s = .next t ∧ t.dev.regs.area = regWord w &&& 0xFFFFFFF0#32 ∧ EventChanges [.area] s t) ∧
    (s.dev.engine.state = .loading ∨ s.dev.engine.state = .online ∨ s.dev.engine.state = .draining →
      exec (.area w) s = .next s) ∧
    (∃ t, exec (.ack w) s = .next t
      ∧ (∀ n : Nat, n < 3 → t.dev.regs.causes.getLsbD n = (s.dev.regs.causes.getLsbD n && !(regWord w).getLsbD (4 + n)))
      ∧ (∀ n : Nat, n < 6 → t.dev.regs.faults.getLsbD n = (s.dev.regs.faults.getLsbD n && !(regWord w).getLsbD (8 + n)))
      ∧ t.dev.regs.fieldCode = (if (regWord w).getLsbD 8 then 0 else s.dev.regs.fieldCode)
      ∧ EventChanges [.causes, .faults, .fieldCode] s t) ∧
    (∀ addr, exec (.ignoredRegisterWrite addr w) s = .next s)

/-- What the registers read as out of reset, and the ATTN line (R185, R191, R201, R202): ID, CONTROL and AREA as they
stand; STATUS with the engine state, the causes, the faults and the field code in their places; NOTICE, ACK and every
address beyond as 0; in LEVEL mode ATTN is low exactly while some cause is latched and enabled, in PULSE mode during a
pulse. -/
def Obligations.RegistersReadBack : Prop :=
  ∀ s : State, s.resetLow = false →
    readRegister s 0x00 = 0x03400001#32 ∧ readRegister s 0x04 = s.dev.regs.control
      ∧ readRegister s 0x08 = s.dev.regs.area ∧ readRegister s 0x0C = 0 ∧ readRegister s 0x14 = 0
      ∧ (readRegister s 0x10).extractLsb' 0 3 = BitVec.ofNat 3 s.dev.engine.state.code
      ∧ (readRegister s 0x10).extractLsb' 4 3 = s.dev.regs.causes
      ∧ (readRegister s 0x10).extractLsb' 8 6 = s.dev.regs.faults
      ∧ (readRegister s 0x10).extractLsb' 16 3 = s.dev.regs.fieldCode
      ∧ (∀ addr : Word, 24 ≤ addr.toNat → readRegister s addr = 0)
      ∧ (s.dev.regs.control.getLsbD 1 = false →
          (attnHigh s = false ↔
            ∃ n : Nat, n < 3 ∧ s.dev.regs.causes.getLsbD n = true ∧ s.dev.regs.control.getLsbD (4 + n) = true))
      ∧ (s.dev.regs.control.getLsbD 1 = true → (attnHigh s = false ↔ s.dev.regs.attnPulse ≠ none))

/-! ## Engine (R170, R187 to R189, R193) -/

/-- The changes of the enable outside ONLINE (R187): LOADING begins from OFFLINE with the field code 0, is abandoned
by a clear, DRAINING takes and loses the restart mark, and FAULTED goes to OFFLINE. -/
def Obligations.EnableMovesTheEngine : Prop :=
  ∀ (s : State) (w : RegWrite), s.isReady = true → (regWord w).getLsbD 31 = false →
    ((regWord w).getLsbD 0 = true → s.dev.regs.control.getLsbD 0 = false →
      (s.dev.engine.state = .offline →
        ∃ t, exec (.controlEnableSet w) s = .next t ∧ t.dev.engine = { s.dev.engine with state := .loading }
          ∧ t.dev.regs.fieldCode = 0 ∧ t.dev.regs.control = regWord w &&& 0x00000073#32
          ∧ EventChanges [.control, .attnPulse, .fieldCode, .engine] s t) ∧
      (s.dev.engine.state = .draining →
        ∃ t, exec (.controlEnableSet w) s = .next t ∧ t.dev.engine = { s.dev.engine with restart := true }
          ∧ EventChanges [.control, .attnPulse, .engine] s t)) ∧
    ((regWord w).getLsbD 0 = false → s.dev.regs.control.getLsbD 0 = true →
      (s.dev.engine.state = .loading ∨ s.dev.engine.state = .faulted →
        ∃ t, exec (.controlEnableClear w) s = .next t ∧ t.dev.engine.state = .offline
          ∧ t.dev.regs.control = regWord w &&& 0x00000073#32
          ∧ EventChanges [.control, .attnPulse, .engine] s t) ∧
      (s.dev.engine.state = .draining →
        ∃ t, exec (.controlEnableClear w) s = .next t ∧ t.dev.engine = { s.dev.engine with restart := false }
          ∧ EventChanges [.control, .attnPulse, .engine] s t))

/-- Clearing the enable in ONLINE (R188, R189): with a message still in some module port the engine is DRAINING with
its timer at 250,000 µs, the change unit is IDLE, the transport STOPPED, every damper up, no entry SOUNDING or
SUSTAINED, the sync follower OFF and the tap ring empty. A CUE and a GO request in flight are completed with OFFLINE,
and the CUE_TAKEN entry of an abandoned cue comes first (R141; the order of the completions is log 17). With no voice,
no message and nothing that would be offered it is OFFLINE at once, whatever entries the stop hands over, every pedal
RELEASED, and the state page is rewritten to show it (R181, R189); with nothing to stop and no entry that waits, no
more than that happens. That the frames which the key ports had handed on are dropped is the model's choice (log 12),
as is that a drain over within this event gives one rewrite for all its causes, begun at its end with the fields as they
stand then (log 10); what the accesses for the entries meet is free (log 8). -/
def Obligations.ClearingEnableDrains : Prop :=
  ∀ (s : State) (w : RegWrite), s.isOnline = true → (regWord w).getLsbD 31 = false → (regWord w).getLsbD 0 = false →
    s.dev.regs.control.getLsbD 0 = true →
    let withdrawn : List Completion :=
      (match s.dev.change.load with
        | none => []
        | some ld => cueCompletion s s.dev.stampNow s.dev.req.working ld.origin .offline 0)
      ++ goCompletion s s.dev.stampNow s.dev.req.working s.dev.change.go .offline 0
    let taken : List Entry := match s.dev.change.load with
      | none => []
      | some ld => [.cueTaken ld.headRead .offline 0 ld.origin ld.scene ld.position]
    ((∃ p : Fin 6, s.dev.stage.ports[p].main ≠ [] ∨ s.dev.stage.ports[p].backlog ≠ [] ∨ s.dev.stage.ports[p].lane ≠ []) →
      ∃ t, exec (.controlEnableClear w) s = .next t
        ∧ t.dev.engine = { s.dev.engine with state := .draining, restart := false, drainAt := some (after s.dev.now 250000) }
        ∧ t.dev.change.state = .idle ∧ t.dev.change.load = none ∧ t.dev.change.go = none ∧ t.dev.change.copy = none
        ∧ Completed s t withdrawn ∧ (∃ es, Journaled (taken ++ es) s t)
        ∧ t.dev.tempo.transport = .stopped ∧ t.dev.tempo.glide = none
        ∧ (∀ (p : Fin 4) (c : BitVec 4), t.dev.stage.damperDown p c = false)
        ∧ (∀ (k : Fin 128) (v : Voice), t.dev.stage.voices[k] = some v → v.state = .releasing)
        ∧ t.dev.sync.state = .off ∧ t.dev.tap = { ring := [], last := none }
        ∧ (∀ p : Fin 4, t.dev.keyPorts[p] = KeyPort.reset)
        ∧ EventChanges [.control, .attnPulse, .engine, .keyPorts, .change, .tempo, .click, .voices, .dampers, .ports,
            .deferrals, .sync, .tap, .req] s t) ∧
    ((∀ k : Fin 128, s.dev.stage.voices[k] = none) → (∀ p : Fin 6, s.dev.stage.ports[p].isEmpty = true) →
      s.dev.stage.deferrals = [] → (∀ n : Fin 4, s.dev.click.lines[n].sounding = none) →
      ∃ t, exec (.controlEnableClear w) s = .next t ∧ t.dev.engine.state = .offline ∧ t.dev.engine.drainAt = none
        ∧ t.dev.tempo.transport = .stopped ∧ t.dev.change.state = .idle ∧ Completed s t withdrawn
        ∧ t.dev.jw.queue = []
        ∧ t.drains = s.drains + 1
        ∧ (∀ n : Fin 8, t.dev.pedals[n].pressed = false) ∧ PageCaused s t ∧ pageEngineCode t.dev.engine.state = 0
        ∧ EventChanges [.control, .attnPulse, .engine, .keyPorts, .change, .tempo, .click, .dampers, .pedals, .sync, .tap,
            .req, .journalCounts, .mem, .faults, .causes, .drains] s t
        ∧ (s.dev.jw.queue = [] → s.dev.tempo.transport = .stopped → s.dev.tempo.glide = none → s.dev.change.load = none →
            Journaled [] s t
              ∧ EventChanges [.control, .attnPulse, .engine, .keyPorts, .change, .click, .dampers, .pedals, .sync, .tap,
                  .req, .drains] s t))

/-- The engine ONLINE under a header, with the edit count and written count that it continues from: every block at its
value of ONLINE entry (R20, R45, R59, R82, R90, R100, R114, R140, R145, R167, R171, R183, R187), and the rewrite of the
state page begun with the next edit count (R181), with the fields as the event leaves them (the model's choice, log 10).
-/
def OnlineUnder (h : List Byte) (edits written : Word) (s t : State) : Prop :=
  let journal := journalSettingsOf (fieldAt h 30 1) (fieldAt h 31 1) (fieldAt h 32 2) (layoutOf h).capacity
  let sync := (syncSettingsOf ((h.drop 40).take 4)).1
  t.dev.engine = { s.dev.engine with state := .online, restart := false, drainAt := none } ∧ t.dev.layout = layoutOf h
    ∧ t.dev.progSelect = (progSelectOf (fieldAt h 34 1) (fieldAt h 35 1)).1
    ∧ t.dev.clampCount = headerClamps h ∧ t.dev.clampSection = .all
    ∧ (∀ p : Fin 4, t.dev.keyPorts[p] = KeyPort.reset)
    ∧ t.dev.stage =
        { clock := s.dev.now, voices := Stage.reset.voices, dampers := Stage.reset.dampers, deferrals := [], entries := []
          ports := Vector.ofFn fun p : Fin 6 =>
            { ModulePort.reset with polarity := polarityOf ((byteOf (fieldAt h 39 1)).getLsbD p.val) } }
    ∧ t.dev.tempo =
        { Tempo.reset with t := clampNat 2000 30000 (fieldAt h 36 2), meter := clampNat 1 16 (fieldAt h 38 1) }
    ∧ t.dev.click =
        { mute := false
          lines := Vector.ofFn fun n : Fin 4 =>
            { ClickLine.reset with setup := clickSetupOf (clickBytes ((h.drop 48).take 64) n.val) } }
    ∧ t.dev.change = ChangeUnit.reset ∧ t.dev.tap = TapCapture.reset
    ∧ (∀ n : Fin 8,
        let setup := pedalSetupOf (pedalBytes ((h.drop 112).take 32) n.val)
        t.dev.pedals[n] =
          { high := s.dev.pedals[n].high, pressed := false, setup := setup
            timer := if s.dev.pedals[n].high = decide (setup.polarity = .inverted) then
              some (after s.dev.now (setup.debounce * 1000)) else none })
    ∧ t.dev.sync =
        { SyncFollower.reset with
          division := sync.1, window := sync.2.1, deadband := sync.2.2
          state := if sync.1 = 0 then .off else .absent }
    ∧ t.dev.req = { s.dev.req with notice := true, scan := none, completions := [] }
    ∧ t.dev.jw =
        { mode := journal.1.1, watermark := journal.1.2.1, mask := journal.1.2.2, written := written
          loss := LossRun.clear, armed := true, rearm := false, queue := [] }
    ∧ t.dev.page =
        { s.dev.page with
          editCount := edits + 1, owed := false, retryAt := none, running := some (t.dev.pageImage (edits + 1)) }

/-- The header read of LOADING (R167, R170, R181, R187): a failed read is FAULTED with MEMORY and field code 0; a
layout fault is FAULTED with HEADER and its code; otherwise the page is read, and the engine is ONLINE under the
header, with the edit count and the written count that a whole page shows, else 0; a page that cannot be read counts as
no whole page and sets MEMORY. That the 256 bytes of the header are one access is the model's choice (log 6), as are the
clamps that a program select out of range counts (log 20) and that the rewrite of ONLINE entry shows the fields as its
event leaves them (log 10). -/
def Obligations.HeaderReadEndsLoading : Prop :=
  ∀ (s : State) (bus : Bus), s.isReady = true → s.dev.headerReadUnderWay = true →
    let read := portRead { mem := s.mem, bus := bus } (rigAddress s.dev 0) 256
    (read.1 = none →
      ∃ t, exec (.headerReadCompletion bus) s = .next t ∧ t.mem = read.2.mem
        ∧ t.dev.engine = { s.dev.engine with state := .faulted } ∧ t.dev.regs.fieldCode = 0 ∧ FaultRaised .memory s t
        ∧ EventChanges [.engine, .fieldCode, .faults, .causes, .attnPulse, .mem] s t) ∧
    (∀ h code, read.1 = some h → layoutFault h = some code →
      ∃ t, exec (.headerReadCompletion bus) s = .next t ∧ t.mem = read.2.mem
        ∧ t.dev.engine = { s.dev.engine with state := .faulted } ∧ t.dev.regs.fieldCode = BitVec.ofNat 3 code
        ∧ FaultRaised .header s t ∧ EventChanges [.engine, .fieldCode, .faults, .causes, .attnPulse, .mem] s t) ∧
    (∀ h, read.1 = some h → layoutFault h = none →
      let pageRead := portRead read.2 (rigAddress s.dev (layoutOf h).statePage) 64
      (∀ page, pageRead.1 = some page →
        let whole := fieldAt page 4 4 = 0x53544131 ∧ fieldAt page 0 4 = fieldAt page 60 4
        ∃ t, exec (.headerReadCompletion bus) s = .next t ∧ t.mem = pageRead.2.mem
          ∧ (whole → OnlineUnder h (BitVec.ofNat 32 (fieldAt page 0 4)) (BitVec.ofNat 32 (fieldAt page 36 4)) s t)
          ∧ (¬ whole → OnlineUnder h 0 0 s t)
          ∧ t.dev.regs = s.dev.regs ∧ t.resetLow = s.resetLow ∧ t.pending = s.pending ∧ t.drains = s.drains) ∧
      (pageRead.1 = none →
        ∃ t, exec (.headerReadCompletion bus) s = .next t ∧ t.mem = pageRead.2.mem ∧ OnlineUnder h 0 0 s t
          ∧ FaultRaised .memory s t ∧ t.dev.regs.fieldCode = s.dev.regs.fieldCode
          ∧ t.dev.regs.control = s.dev.regs.control ∧ t.dev.regs.area = s.dev.regs.area
          ∧ t.resetLow = s.resetLow ∧ t.pending = s.pending ∧ t.drains = s.drains))

/-- A drain ends as soon as the voice table and every port are empty (R60, R189): DRAIN_END finds them so, or a frame
completion leaves them so and ends it within itself. The engine is OFFLINE, or LOADING with the restart mark, its timer
stopped and the pedals RELEASED; the entries that wait are taken as it ends, and none waits after it (R157, R167); the
state page is rewritten (R181). While something is left to send, JOURNAL_WRITE_COMPLETION takes the oldest entry and
the engine stays as it is. The drain limit sets DRAIN, discards every voice entry and all but the frames on the lines,
and is OFFLINE at once when no port is sending (R44, R61, R189). The end of a drain as a step of its own (log 31),
the free bus of its last entries (log 8), and one rewrite for the engine's state, the written count and the faults
together, begun at the end of the event with the fields as they stand then (log 10), are the model's choices. -/
def Obligations.DrainEnds : Prop :=
  ∀ s : State, s.resetLow = false → s.dev.engine.state = .draining →
    (s.dev.stage.isQuiet = true → s.dev.stage.entries = [] →
      ∃ t, exec .drainEnd s = .next t ∧ EntriesTaken s t
        ∧ t.dev.engine =
            { s.dev.engine with
              state := if s.dev.engine.restart then .loading else .offline, restart := false, drainAt := none }
        ∧ t.dev.regs.fieldCode = (if s.dev.engine.restart then 0 else s.dev.regs.fieldCode)
        ∧ t.dev.pedals = s.dev.pedals.map (fun p => { p with pressed := false, timer := none })
        ∧ EventChanges [.engine, .fieldCode, .pedals, .pageCause, .journalCounts, .mem, .faults, .causes, .attnPulse,
            .drains] s t) ∧
    (∀ (p : Fin 6) (m : Message) (e : Word), s.isReady = true → s.dev.engine.restart = false →
      (∀ k : Fin 128, s.dev.stage.voices[k] = none) → (∀ q : Fin 6, q ≠ p → s.dev.stage.ports[q].isEmpty = true) →
      s.dev.stage.ports[p].main = [m] → s.dev.stage.ports[p].backlog = [] → s.dev.stage.ports[p].lane = [] →
      s.dev.stage.ports[p].tx = .sendingMain e → reached s.dev.now e = true →
      ∃ t, exec (.mainFrameCompletion p) s = .next t ∧ t.dev.engine.state = .offline ∧ EntriesTaken s t
        ∧ t.dev.stage.ports[p].main = [] ∧ t.dev.stage.ports[p].tx = .idle ∧ PageCaused s t
        ∧ EventChanges [.engine, .pedals, .ports, .journalCounts, .mem, .faults, .causes, .attnPulse, .drains] s t) ∧
    (∀ (bus : Bus) (h : Handed) (rest : List Handed), s.isReady = true → s.dev.jw.queue = h :: rest →
      ∃ t, exec (.journalWriteCompletion bus) s = .next t ∧ t.dev.jw.queue = rest
        ∧ t.mem = (s.dev.takeEntry h { mem := s.mem, bus := bus }).2.mem
        ∧ EventChanges [.journalCounts, .mem, .faults, .causes, .attnPulse] s t) ∧
    (∀ m : Word, s.isReady = true → s.dev.stage.isQuiet = false → s.dev.engine.drainAt = some m →
      reached s.dev.now m = true →
      ∃ t, exec .drainLimit s = .next t
        ∧ (∀ k : Fin 128, t.dev.stage.voices[k] = none) ∧ t.dev.stage.deferrals = []
        ∧ t.dev.stage.ports = s.dev.stage.ports.map ModulePort.discard
        ∧ t.dev.regs.faultSet .drain = true ∧ t.dev.engine.drainAt = none
        ∧ (s.dev.jw.queue = [] ∨ t.dev.engine.state = .draining → FaultRaised .drain s t)
        ∧ ((∀ p : Fin 6, s.dev.stage.ports[p].tx = .idle) → s.dev.engine.restart = false →
            t.dev.engine.state = .offline ∧ t.dev.jw.queue = [] ∧ t.drains = s.drains + 1 ∧ PageCaused s t))

/-- Device reset by power-on, by the pin and by the reset bit of CONTROL (R193): every block stands at its reset
state, with the pins of the pedals as they are; only power-on sets the clock to 0; the pin holds the part in reset
until it is released; the shared memory keeps what was written, and is not touched when no access was made of what was
under way, or nothing was. The values that R193 leaves open are the model's choices (log 23), as is how far a half-done
operation came (log 22), and that POWER_ON keeps the shared memory and the level of the RESET pin (log 30). -/
def Obligations.DeviceResetIsWhole : Prop :=
  ∀ (s : State) (cut : ResetCut) (w : RegWrite),
    let reset (clock : Word) : Device :=
      { Device.reset with
        stage := { Stage.reset with clock := clock }
        pedals := s.dev.pedals.map fun p => { Pedal.reset with high := p.high } }
    (exec (.powerOn cut) s = .next { s with dev := reset 0, mem := cutShort s.dev cut s.mem }) ∧
    (exec (.resetPinAssert cut) s =
      .next { s with dev := reset s.dev.now, mem := cutShort s.dev cut s.mem, resetLow := true }) ∧
    (exec .resetPinRelease s = .next { s with resetLow := false }) ∧
    (s.resetLow = false → (regWord w).getLsbD 31 = true →
      exec (.controlReset w cut) s = .next { s with dev := reset s.dev.now, mem := cutShort s.dev cut s.mem }) ∧
    (cutShort s.dev { page := [], slots := [], retries := [], journal := [] } s.mem = s.mem) ∧
    (s.dev.page.running = none → s.dev.req.completions = [] → (∀ k : Fin 8, s.dev.retryDue k = none) →
      s.dev.jw.queue = [] → cutShort s.dev cut s.mem = s.mem)
end

