-- ==== Sys2Proof/Laws/State.lean ====
section
/-! SUPPORT. The field lemmas of State: what each small update leaves in each field. -/

namespace Sys2Proof.Machine

/-! ## Updates of one block of the part -/

@[simp] theorem Device.onStage_regs (d : Device) (f : Stage → Stage) : (d.onStage f).regs = d.regs := rfl
@[simp] theorem Device.onStage_engine (d : Device) (f : Stage → Stage) : (d.onStage f).engine = d.engine := rfl
@[simp] theorem Device.onStage_layout (d : Device) (f : Stage → Stage) : (d.onStage f).layout = d.layout := rfl
@[simp] theorem Device.onStage_progSelect (d : Device) (f : Stage → Stage) :
    (d.onStage f).progSelect = d.progSelect := rfl
@[simp] theorem Device.onStage_clampCount (d : Device) (f : Stage → Stage) :
    (d.onStage f).clampCount = d.clampCount := rfl
@[simp] theorem Device.onStage_clampSection (d : Device) (f : Stage → Stage) :
    (d.onStage f).clampSection = d.clampSection := rfl
@[simp] theorem Device.onStage_keyPorts (d : Device) (f : Stage → Stage) : (d.onStage f).keyPorts = d.keyPorts := rfl
@[simp] theorem Device.onStage_stage (d : Device) (f : Stage → Stage) : (d.onStage f).stage = f d.stage := rfl
@[simp] theorem Device.onStage_tempo (d : Device) (f : Stage → Stage) : (d.onStage f).tempo = d.tempo := rfl
@[simp] theorem Device.onStage_click (d : Device) (f : Stage → Stage) : (d.onStage f).click = d.click := rfl
@[simp] theorem Device.onStage_change (d : Device) (f : Stage → Stage) : (d.onStage f).change = d.change := rfl
@[simp] theorem Device.onStage_pedals (d : Device) (f : Stage → Stage) : (d.onStage f).pedals = d.pedals := rfl
@[simp] theorem Device.onStage_tap (d : Device) (f : Stage → Stage) : (d.onStage f).tap = d.tap := rfl
@[simp] theorem Device.onStage_sync (d : Device) (f : Stage → Stage) : (d.onStage f).sync = d.sync := rfl
@[simp] theorem Device.onStage_req (d : Device) (f : Stage → Stage) : (d.onStage f).req = d.req := rfl
@[simp] theorem Device.onStage_page (d : Device) (f : Stage → Stage) : (d.onStage f).page = d.page := rfl
@[simp] theorem Device.onStage_jw (d : Device) (f : Stage → Stage) : (d.onStage f).jw = d.jw := rfl
@[simp] theorem Device.onStage_eventStamp (d : Device) (f : Stage → Stage) :
    (d.onStage f).eventStamp = d.eventStamp := rfl
@[simp] theorem Device.onStage_pageCause (d : Device) (f : Stage → Stage) : (d.onStage f).pageCause = d.pageCause := rfl

@[simp] theorem Device.onChange_regs (d : Device) (f : ChangeUnit → ChangeUnit) : (d.onChange f).regs = d.regs := rfl
@[simp] theorem Device.onChange_engine (d : Device) (f : ChangeUnit → ChangeUnit) :
    (d.onChange f).engine = d.engine := rfl
@[simp] theorem Device.onChange_layout (d : Device) (f : ChangeUnit → ChangeUnit) :
    (d.onChange f).layout = d.layout := rfl
@[simp] theorem Device.onChange_progSelect (d : Device) (f : ChangeUnit → ChangeUnit) :
    (d.onChange f).progSelect = d.progSelect := rfl
@[simp] theorem Device.onChange_clampCount (d : Device) (f : ChangeUnit → ChangeUnit) :
    (d.onChange f).clampCount = d.clampCount := rfl
@[simp] theorem Device.onChange_clampSection (d : Device) (f : ChangeUnit → ChangeUnit) :
    (d.onChange f).clampSection = d.clampSection := rfl
@[simp] theorem Device.onChange_keyPorts (d : Device) (f : ChangeUnit → ChangeUnit) :
    (d.onChange f).keyPorts = d.keyPorts := rfl
@[simp] theorem Device.onChange_stage (d : Device) (f : ChangeUnit → ChangeUnit) : (d.onChange f).stage = d.stage := rfl
@[simp] theorem Device.onChange_tempo (d : Device) (f : ChangeUnit → ChangeUnit) : (d.onChange f).tempo = d.tempo := rfl
@[simp] theorem Device.onChange_click (d : Device) (f : ChangeUnit → ChangeUnit) : (d.onChange f).click = d.click := rfl
@[simp] theorem Device.onChange_change (d : Device) (f : ChangeUnit → ChangeUnit) :
    (d.onChange f).change = f d.change := rfl
@[simp] theorem Device.onChange_pedals (d : Device) (f : ChangeUnit → ChangeUnit) :
    (d.onChange f).pedals = d.pedals := rfl
@[simp] theorem Device.onChange_tap (d : Device) (f : ChangeUnit → ChangeUnit) : (d.onChange f).tap = d.tap := rfl
@[simp] theorem Device.onChange_sync (d : Device) (f : ChangeUnit → ChangeUnit) : (d.onChange f).sync = d.sync := rfl
@[simp] theorem Device.onChange_req (d : Device) (f : ChangeUnit → ChangeUnit) : (d.onChange f).req = d.req := rfl
@[simp] theorem Device.onChange_page (d : Device) (f : ChangeUnit → ChangeUnit) : (d.onChange f).page = d.page := rfl
@[simp] theorem Device.onChange_jw (d : Device) (f : ChangeUnit → ChangeUnit) : (d.onChange f).jw = d.jw := rfl
@[simp] theorem Device.onChange_eventStamp (d : Device) (f : ChangeUnit → ChangeUnit) :
    (d.onChange f).eventStamp = d.eventStamp := rfl
@[simp] theorem Device.onChange_pageCause (d : Device) (f : ChangeUnit → ChangeUnit) :
    (d.onChange f).pageCause = d.pageCause := rfl

@[simp] theorem Device.onTempo_regs (d : Device) (f : Tempo → Tempo) : (d.onTempo f).regs = d.regs := rfl
@[simp] theorem Device.onTempo_engine (d : Device) (f : Tempo → Tempo) : (d.onTempo f).engine = d.engine := rfl
@[simp] theorem Device.onTempo_layout (d : Device) (f : Tempo → Tempo) : (d.onTempo f).layout = d.layout := rfl
@[simp] theorem Device.onTempo_progSelect (d : Device) (f : Tempo → Tempo) :
    (d.onTempo f).progSelect = d.progSelect := rfl
@[simp] theorem Device.onTempo_clampCount (d : Device) (f : Tempo → Tempo) :
    (d.onTempo f).clampCount = d.clampCount := rfl
@[simp] theorem Device.onTempo_clampSection (d : Device) (f : Tempo → Tempo) :
    (d.onTempo f).clampSection = d.clampSection := rfl
@[simp] theorem Device.onTempo_keyPorts (d : Device) (f : Tempo → Tempo) : (d.onTempo f).keyPorts = d.keyPorts := rfl
@[simp] theorem Device.onTempo_stage (d : Device) (f : Tempo → Tempo) : (d.onTempo f).stage = d.stage := rfl
@[simp] theorem Device.onTempo_tempo (d : Device) (f : Tempo → Tempo) : (d.onTempo f).tempo = f d.tempo := rfl
@[simp] theorem Device.onTempo_click (d : Device) (f : Tempo → Tempo) : (d.onTempo f).click = d.click := rfl
@[simp] theorem Device.onTempo_change (d : Device) (f : Tempo → Tempo) : (d.onTempo f).change = d.change := rfl
@[simp] theorem Device.onTempo_pedals (d : Device) (f : Tempo → Tempo) : (d.onTempo f).pedals = d.pedals := rfl
@[simp] theorem Device.onTempo_tap (d : Device) (f : Tempo → Tempo) : (d.onTempo f).tap = d.tap := rfl
@[simp] theorem Device.onTempo_sync (d : Device) (f : Tempo → Tempo) : (d.onTempo f).sync = d.sync := rfl
@[simp] theorem Device.onTempo_req (d : Device) (f : Tempo → Tempo) : (d.onTempo f).req = d.req := rfl
@[simp] theorem Device.onTempo_page (d : Device) (f : Tempo → Tempo) : (d.onTempo f).page = d.page := rfl
@[simp] theorem Device.onTempo_jw (d : Device) (f : Tempo → Tempo) : (d.onTempo f).jw = d.jw := rfl
@[simp] theorem Device.onTempo_eventStamp (d : Device) (f : Tempo → Tempo) :
    (d.onTempo f).eventStamp = d.eventStamp := rfl
@[simp] theorem Device.onTempo_pageCause (d : Device) (f : Tempo → Tempo) : (d.onTempo f).pageCause = d.pageCause := rfl

@[simp] theorem Device.onSync_regs (d : Device) (f : SyncFollower → SyncFollower) : (d.onSync f).regs = d.regs := rfl
@[simp] theorem Device.onSync_engine (d : Device) (f : SyncFollower → SyncFollower) :
    (d.onSync f).engine = d.engine := rfl
@[simp] theorem Device.onSync_layout (d : Device) (f : SyncFollower → SyncFollower) :
    (d.onSync f).layout = d.layout := rfl
@[simp] theorem Device.onSync_progSelect (d : Device) (f : SyncFollower → SyncFollower) :
    (d.onSync f).progSelect = d.progSelect := rfl
@[simp] theorem Device.onSync_clampCount (d : Device) (f : SyncFollower → SyncFollower) :
    (d.onSync f).clampCount = d.clampCount := rfl
@[simp] theorem Device.onSync_clampSection (d : Device) (f : SyncFollower → SyncFollower) :
    (d.onSync f).clampSection = d.clampSection := rfl
@[simp] theorem Device.onSync_keyPorts (d : Device) (f : SyncFollower → SyncFollower) :
    (d.onSync f).keyPorts = d.keyPorts := rfl
@[simp] theorem Device.onSync_stage (d : Device) (f : SyncFollower → SyncFollower) : (d.onSync f).stage = d.stage := rfl
@[simp] theorem Device.onSync_tempo (d : Device) (f : SyncFollower → SyncFollower) : (d.onSync f).tempo = d.tempo := rfl
@[simp] theorem Device.onSync_click (d : Device) (f : SyncFollower → SyncFollower) : (d.onSync f).click = d.click := rfl
@[simp] theorem Device.onSync_change (d : Device) (f : SyncFollower → SyncFollower) :
    (d.onSync f).change = d.change := rfl
@[simp] theorem Device.onSync_pedals (d : Device) (f : SyncFollower → SyncFollower) :
    (d.onSync f).pedals = d.pedals := rfl
@[simp] theorem Device.onSync_tap (d : Device) (f : SyncFollower → SyncFollower) : (d.onSync f).tap = d.tap := rfl
@[simp] theorem Device.onSync_sync (d : Device) (f : SyncFollower → SyncFollower) : (d.onSync f).sync = f d.sync := rfl
@[simp] theorem Device.onSync_req (d : Device) (f : SyncFollower → SyncFollower) : (d.onSync f).req = d.req := rfl
@[simp] theorem Device.onSync_page (d : Device) (f : SyncFollower → SyncFollower) : (d.onSync f).page = d.page := rfl
@[simp] theorem Device.onSync_jw (d : Device) (f : SyncFollower → SyncFollower) : (d.onSync f).jw = d.jw := rfl
@[simp] theorem Device.onSync_eventStamp (d : Device) (f : SyncFollower → SyncFollower) :
    (d.onSync f).eventStamp = d.eventStamp := rfl
@[simp] theorem Device.onSync_pageCause (d : Device) (f : SyncFollower → SyncFollower) :
    (d.onSync f).pageCause = d.pageCause := rfl

@[simp] theorem Device.onEngine_regs (d : Device) (f : Engine → Engine) : (d.onEngine f).regs = d.regs := rfl
@[simp] theorem Device.onEngine_engine (d : Device) (f : Engine → Engine) : (d.onEngine f).engine = f d.engine := rfl
@[simp] theorem Device.onEngine_layout (d : Device) (f : Engine → Engine) : (d.onEngine f).layout = d.layout := rfl
@[simp] theorem Device.onEngine_progSelect (d : Device) (f : Engine → Engine) :
    (d.onEngine f).progSelect = d.progSelect := rfl
@[simp] theorem Device.onEngine_clampCount (d : Device) (f : Engine → Engine) :
    (d.onEngine f).clampCount = d.clampCount := rfl
@[simp] theorem Device.onEngine_clampSection (d : Device) (f : Engine → Engine) :
    (d.onEngine f).clampSection = d.clampSection := rfl
@[simp] theorem Device.onEngine_keyPorts (d : Device) (f : Engine → Engine) :
    (d.onEngine f).keyPorts = d.keyPorts := rfl
@[simp] theorem Device.onEngine_stage (d : Device) (f : Engine → Engine) : (d.onEngine f).stage = d.stage := rfl
@[simp] theorem Device.onEngine_tempo (d : Device) (f : Engine → Engine) : (d.onEngine f).tempo = d.tempo := rfl
@[simp] theorem Device.onEngine_click (d : Device) (f : Engine → Engine) : (d.onEngine f).click = d.click := rfl
@[simp] theorem Device.onEngine_change (d : Device) (f : Engine → Engine) : (d.onEngine f).change = d.change := rfl
@[simp] theorem Device.onEngine_pedals (d : Device) (f : Engine → Engine) : (d.onEngine f).pedals = d.pedals := rfl
@[simp] theorem Device.onEngine_tap (d : Device) (f : Engine → Engine) : (d.onEngine f).tap = d.tap := rfl
@[simp] theorem Device.onEngine_sync (d : Device) (f : Engine → Engine) : (d.onEngine f).sync = d.sync := rfl
@[simp] theorem Device.onEngine_req (d : Device) (f : Engine → Engine) : (d.onEngine f).req = d.req := rfl
@[simp] theorem Device.onEngine_page (d : Device) (f : Engine → Engine) : (d.onEngine f).page = d.page := rfl
@[simp] theorem Device.onEngine_jw (d : Device) (f : Engine → Engine) : (d.onEngine f).jw = d.jw := rfl
@[simp] theorem Device.onEngine_eventStamp (d : Device) (f : Engine → Engine) :
    (d.onEngine f).eventStamp = d.eventStamp := rfl
@[simp] theorem Device.onEngine_pageCause (d : Device) (f : Engine → Engine) :
    (d.onEngine f).pageCause = d.pageCause := rfl

@[simp] theorem Device.onReq_regs (d : Device) (f : RequestUnit → RequestUnit) : (d.onReq f).regs = d.regs := rfl
@[simp] theorem Device.onReq_engine (d : Device) (f : RequestUnit → RequestUnit) : (d.onReq f).engine = d.engine := rfl
@[simp] theorem Device.onReq_layout (d : Device) (f : RequestUnit → RequestUnit) : (d.onReq f).layout = d.layout := rfl
@[simp] theorem Device.onReq_progSelect (d : Device) (f : RequestUnit → RequestUnit) :
    (d.onReq f).progSelect = d.progSelect := rfl
@[simp] theorem Device.onReq_clampCount (d : Device) (f : RequestUnit → RequestUnit) :
    (d.onReq f).clampCount = d.clampCount := rfl
@[simp] theorem Device.onReq_clampSection (d : Device) (f : RequestUnit → RequestUnit) :
    (d.onReq f).clampSection = d.clampSection := rfl
@[simp] theorem Device.onReq_keyPorts (d : Device) (f : RequestUnit → RequestUnit) :
    (d.onReq f).keyPorts = d.keyPorts := rfl
@[simp] theorem Device.onReq_stage (d : Device) (f : RequestUnit → RequestUnit) : (d.onReq f).stage = d.stage := rfl
@[simp] theorem Device.onReq_tempo (d : Device) (f : RequestUnit → RequestUnit) : (d.onReq f).tempo = d.tempo := rfl
@[simp] theorem Device.onReq_click (d : Device) (f : RequestUnit → RequestUnit) : (d.onReq f).click = d.click := rfl
@[simp] theorem Device.onReq_change (d : Device) (f : RequestUnit → RequestUnit) : (d.onReq f).change = d.change := rfl
@[simp] theorem Device.onReq_pedals (d : Device) (f : RequestUnit → RequestUnit) : (d.onReq f).pedals = d.pedals := rfl
@[simp] theorem Device.onReq_tap (d : Device) (f : RequestUnit → RequestUnit) : (d.onReq f).tap = d.tap := rfl
@[simp] theorem Device.onReq_sync (d : Device) (f : RequestUnit → RequestUnit) : (d.onReq f).sync = d.sync := rfl
@[simp] theorem Device.onReq_req (d : Device) (f : RequestUnit → RequestUnit) : (d.onReq f).req = f d.req := rfl
@[simp] theorem Device.onReq_page (d : Device) (f : RequestUnit → RequestUnit) : (d.onReq f).page = d.page := rfl
@[simp] theorem Device.onReq_jw (d : Device) (f : RequestUnit → RequestUnit) : (d.onReq f).jw = d.jw := rfl
@[simp] theorem Device.onReq_eventStamp (d : Device) (f : RequestUnit → RequestUnit) :
    (d.onReq f).eventStamp = d.eventStamp := rfl
@[simp] theorem Device.onReq_pageCause (d : Device) (f : RequestUnit → RequestUnit) :
    (d.onReq f).pageCause = d.pageCause := rfl

@[simp] theorem Device.onPage_regs (d : Device) (f : PageWriter → PageWriter) : (d.onPage f).regs = d.regs := rfl
@[simp] theorem Device.onPage_engine (d : Device) (f : PageWriter → PageWriter) : (d.onPage f).engine = d.engine := rfl
@[simp] theorem Device.onPage_layout (d : Device) (f : PageWriter → PageWriter) : (d.onPage f).layout = d.layout := rfl
@[simp] theorem Device.onPage_progSelect (d : Device) (f : PageWriter → PageWriter) :
    (d.onPage f).progSelect = d.progSelect := rfl
@[simp] theorem Device.onPage_clampCount (d : Device) (f : PageWriter → PageWriter) :
    (d.onPage f).clampCount = d.clampCount := rfl
@[simp] theorem Device.onPage_clampSection (d : Device) (f : PageWriter → PageWriter) :
    (d.onPage f).clampSection = d.clampSection := rfl
@[simp] theorem Device.onPage_keyPorts (d : Device) (f : PageWriter → PageWriter) :
    (d.onPage f).keyPorts = d.keyPorts := rfl
@[simp] theorem Device.onPage_stage (d : Device) (f : PageWriter → PageWriter) : (d.onPage f).stage = d.stage := rfl
@[simp] theorem Device.onPage_tempo (d : Device) (f : PageWriter → PageWriter) : (d.onPage f).tempo = d.tempo := rfl
@[simp] theorem Device.onPage_click (d : Device) (f : PageWriter → PageWriter) : (d.onPage f).click = d.click := rfl
@[simp] theorem Device.onPage_change (d : Device) (f : PageWriter → PageWriter) : (d.onPage f).change = d.change := rfl
@[simp] theorem Device.onPage_pedals (d : Device) (f : PageWriter → PageWriter) : (d.onPage f).pedals = d.pedals := rfl
@[simp] theorem Device.onPage_tap (d : Device) (f : PageWriter → PageWriter) : (d.onPage f).tap = d.tap := rfl
@[simp] theorem Device.onPage_sync (d : Device) (f : PageWriter → PageWriter) : (d.onPage f).sync = d.sync := rfl
@[simp] theorem Device.onPage_req (d : Device) (f : PageWriter → PageWriter) : (d.onPage f).req = d.req := rfl
@[simp] theorem Device.onPage_page (d : Device) (f : PageWriter → PageWriter) : (d.onPage f).page = f d.page := rfl
@[simp] theorem Device.onPage_jw (d : Device) (f : PageWriter → PageWriter) : (d.onPage f).jw = d.jw := rfl
@[simp] theorem Device.onPage_eventStamp (d : Device) (f : PageWriter → PageWriter) :
    (d.onPage f).eventStamp = d.eventStamp := rfl
@[simp] theorem Device.onPage_pageCause (d : Device) (f : PageWriter → PageWriter) :
    (d.onPage f).pageCause = d.pageCause := rfl

@[simp] theorem Device.onJournal_regs (d : Device) (f : JournalWriter → JournalWriter) :
    (d.onJournal f).regs = d.regs := rfl
@[simp] theorem Device.onJournal_engine (d : Device) (f : JournalWriter → JournalWriter) :
    (d.onJournal f).engine = d.engine := rfl
@[simp] theorem Device.onJournal_layout (d : Device) (f : JournalWriter → JournalWriter) :
    (d.onJournal f).layout = d.layout := rfl
@[simp] theorem Device.onJournal_progSelect (d : Device) (f : JournalWriter → JournalWriter) :
    (d.onJournal f).progSelect = d.progSelect := rfl
@[simp] theorem Device.onJournal_clampCount (d : Device) (f : JournalWriter → JournalWriter) :
    (d.onJournal f).clampCount = d.clampCount := rfl
@[simp] theorem Device.onJournal_clampSection (d : Device) (f : JournalWriter → JournalWriter) :
    (d.onJournal f).clampSection = d.clampSection := rfl
@[simp] theorem Device.onJournal_keyPorts (d : Device) (f : JournalWriter → JournalWriter) :
    (d.onJournal f).keyPorts = d.keyPorts := rfl
@[simp] theorem Device.onJournal_stage (d : Device) (f : JournalWriter → JournalWriter) :
    (d.onJournal f).stage = d.stage := rfl
@[simp] theorem Device.onJournal_tempo (d : Device) (f : JournalWriter → JournalWriter) :
    (d.onJournal f).tempo = d.tempo := rfl
@[simp] theorem Device.onJournal_click (d : Device) (f : JournalWriter → JournalWriter) :
    (d.onJournal f).click = d.click := rfl
@[simp] theorem Device.onJournal_change (d : Device) (f : JournalWriter → JournalWriter) :
    (d.onJournal f).change = d.change := rfl
@[simp] theorem Device.onJournal_pedals (d : Device) (f : JournalWriter → JournalWriter) :
    (d.onJournal f).pedals = d.pedals := rfl
@[simp] theorem Device.onJournal_tap (d : Device) (f : JournalWriter → JournalWriter) :
    (d.onJournal f).tap = d.tap := rfl
@[simp] theorem Device.onJournal_sync (d : Device) (f : JournalWriter → JournalWriter) :
    (d.onJournal f).sync = d.sync := rfl
@[simp] theorem Device.onJournal_req (d : Device) (f : JournalWriter → JournalWriter) :
    (d.onJournal f).req = d.req := rfl
@[simp] theorem Device.onJournal_page (d : Device) (f : JournalWriter → JournalWriter) :
    (d.onJournal f).page = d.page := rfl
@[simp] theorem Device.onJournal_jw (d : Device) (f : JournalWriter → JournalWriter) :
    (d.onJournal f).jw = f d.jw := rfl
@[simp] theorem Device.onJournal_eventStamp (d : Device) (f : JournalWriter → JournalWriter) :
    (d.onJournal f).eventStamp = d.eventStamp := rfl
@[simp] theorem Device.onJournal_pageCause (d : Device) (f : JournalWriter → JournalWriter) :
    (d.onJournal f).pageCause = d.pageCause := rfl

@[simp] theorem Device.onPedal_regs (d : Device) (n : Fin 8) (f : Pedal → Pedal) : (d.onPedal n f).regs = d.regs := rfl
@[simp] theorem Device.onPedal_engine (d : Device) (n : Fin 8) (f : Pedal → Pedal) :
    (d.onPedal n f).engine = d.engine := rfl
@[simp] theorem Device.onPedal_layout (d : Device) (n : Fin 8) (f : Pedal → Pedal) :
    (d.onPedal n f).layout = d.layout := rfl
@[simp] theorem Device.onPedal_progSelect (d : Device) (n : Fin 8) (f : Pedal → Pedal) :
    (d.onPedal n f).progSelect = d.progSelect := rfl
@[simp] theorem Device.onPedal_clampCount (d : Device) (n : Fin 8) (f : Pedal → Pedal) :
    (d.onPedal n f).clampCount = d.clampCount := rfl
@[simp] theorem Device.onPedal_clampSection (d : Device) (n : Fin 8) (f : Pedal → Pedal) :
    (d.onPedal n f).clampSection = d.clampSection := rfl
@[simp] theorem Device.onPedal_keyPorts (d : Device) (n : Fin 8) (f : Pedal → Pedal) :
    (d.onPedal n f).keyPorts = d.keyPorts := rfl
@[simp] theorem Device.onPedal_stage (d : Device) (n : Fin 8) (f : Pedal → Pedal) :
    (d.onPedal n f).stage = d.stage := rfl
@[simp] theorem Device.onPedal_tempo (d : Device) (n : Fin 8) (f : Pedal → Pedal) :
    (d.onPedal n f).tempo = d.tempo := rfl
@[simp] theorem Device.onPedal_click (d : Device) (n : Fin 8) (f : Pedal → Pedal) :
    (d.onPedal n f).click = d.click := rfl
@[simp] theorem Device.onPedal_change (d : Device) (n : Fin 8) (f : Pedal → Pedal) :
    (d.onPedal n f).change = d.change := rfl
@[simp] theorem Device.onPedal_pedals (d : Device) (n : Fin 8) (f : Pedal → Pedal) :
    (d.onPedal n f).pedals = vecModify d.pedals n f := rfl
@[simp] theorem Device.onPedal_tap (d : Device) (n : Fin 8) (f : Pedal → Pedal) : (d.onPedal n f).tap = d.tap := rfl
@[simp] theorem Device.onPedal_sync (d : Device) (n : Fin 8) (f : Pedal → Pedal) : (d.onPedal n f).sync = d.sync := rfl
@[simp] theorem Device.onPedal_req (d : Device) (n : Fin 8) (f : Pedal → Pedal) : (d.onPedal n f).req = d.req := rfl
@[simp] theorem Device.onPedal_page (d : Device) (n : Fin 8) (f : Pedal → Pedal) : (d.onPedal n f).page = d.page := rfl
@[simp] theorem Device.onPedal_jw (d : Device) (n : Fin 8) (f : Pedal → Pedal) : (d.onPedal n f).jw = d.jw := rfl
@[simp] theorem Device.onPedal_eventStamp (d : Device) (n : Fin 8) (f : Pedal → Pedal) :
    (d.onPedal n f).eventStamp = d.eventStamp := rfl
@[simp] theorem Device.onPedal_pageCause (d : Device) (n : Fin 8) (f : Pedal → Pedal) :
    (d.onPedal n f).pageCause = d.pageCause := rfl

/-! ## Events, entries, causes and faults -/

@[simp] theorem Device.beginEvent_regs (d : Device) : (d.beginEvent).regs = d.regs := rfl
@[simp] theorem Device.beginEvent_engine (d : Device) : (d.beginEvent).engine = d.engine := rfl
@[simp] theorem Device.beginEvent_layout (d : Device) : (d.beginEvent).layout = d.layout := rfl
@[simp] theorem Device.beginEvent_progSelect (d : Device) : (d.beginEvent).progSelect = d.progSelect := rfl
@[simp] theorem Device.beginEvent_clampCount (d : Device) : (d.beginEvent).clampCount = d.clampCount := rfl
@[simp] theorem Device.beginEvent_clampSection (d : Device) : (d.beginEvent).clampSection = d.clampSection := rfl
@[simp] theorem Device.beginEvent_keyPorts (d : Device) : (d.beginEvent).keyPorts = d.keyPorts := rfl
@[simp] theorem Device.beginEvent_stage (d : Device) : (d.beginEvent).stage = d.stage := rfl
@[simp] theorem Device.beginEvent_tempo (d : Device) : (d.beginEvent).tempo = d.tempo := rfl
@[simp] theorem Device.beginEvent_click (d : Device) : (d.beginEvent).click = d.click := rfl
@[simp] theorem Device.beginEvent_change (d : Device) : (d.beginEvent).change = d.change := rfl
@[simp] theorem Device.beginEvent_pedals (d : Device) : (d.beginEvent).pedals = d.pedals := rfl
@[simp] theorem Device.beginEvent_tap (d : Device) : (d.beginEvent).tap = d.tap := rfl
@[simp] theorem Device.beginEvent_sync (d : Device) : (d.beginEvent).sync = d.sync := rfl
@[simp] theorem Device.beginEvent_req (d : Device) : (d.beginEvent).req = d.req := rfl
@[simp] theorem Device.beginEvent_page (d : Device) : (d.beginEvent).page = d.page := rfl
@[simp] theorem Device.beginEvent_jw (d : Device) : (d.beginEvent).jw = d.jw := rfl
@[simp] theorem Device.beginEvent_eventStamp (d : Device) : (d.beginEvent).eventStamp = d.stampNow := rfl
@[simp] theorem Device.beginEvent_pageCause (d : Device) : (d.beginEvent).pageCause = d.pageCause := rfl

@[simp] theorem Device.restamp_regs (d : Device) : (d.restamp).regs = d.regs := rfl
@[simp] theorem Device.restamp_engine (d : Device) : (d.restamp).engine = d.engine := rfl
@[simp] theorem Device.restamp_layout (d : Device) : (d.restamp).layout = d.layout := rfl
@[simp] theorem Device.restamp_progSelect (d : Device) : (d.restamp).progSelect = d.progSelect := rfl
@[simp] theorem Device.restamp_clampCount (d : Device) : (d.restamp).clampCount = d.clampCount := rfl
@[simp] theorem Device.restamp_clampSection (d : Device) : (d.restamp).clampSection = d.clampSection := rfl
@[simp] theorem Device.restamp_keyPorts (d : Device) : (d.restamp).keyPorts = d.keyPorts := rfl
@[simp] theorem Device.restamp_stage (d : Device) : (d.restamp).stage = d.stage := rfl
@[simp] theorem Device.restamp_tempo (d : Device) : (d.restamp).tempo = d.tempo := rfl
@[simp] theorem Device.restamp_click (d : Device) : (d.restamp).click = d.click := rfl
@[simp] theorem Device.restamp_change (d : Device) : (d.restamp).change = d.change := rfl
@[simp] theorem Device.restamp_pedals (d : Device) : (d.restamp).pedals = d.pedals := rfl
@[simp] theorem Device.restamp_tap (d : Device) : (d.restamp).tap = d.tap := rfl
@[simp] theorem Device.restamp_sync (d : Device) : (d.restamp).sync = d.sync := rfl
@[simp] theorem Device.restamp_req (d : Device) : (d.restamp).req = d.req := rfl
@[simp] theorem Device.restamp_page (d : Device) : (d.restamp).page = d.page := rfl
@[simp] theorem Device.restamp_jw (d : Device) : (d.restamp).jw = d.jw := rfl
@[simp] theorem Device.restamp_eventStamp (d : Device) : (d.restamp).eventStamp = d.stampHere := rfl
@[simp] theorem Device.restamp_pageCause (d : Device) : (d.restamp).pageCause = d.pageCause := rfl

@[simp] theorem Device.emit_regs (d : Device) (e : Entry) : (d.emit e).regs = d.regs := rfl
@[simp] theorem Device.emit_engine (d : Device) (e : Entry) : (d.emit e).engine = d.engine := rfl
@[simp] theorem Device.emit_layout (d : Device) (e : Entry) : (d.emit e).layout = d.layout := rfl
@[simp] theorem Device.emit_progSelect (d : Device) (e : Entry) : (d.emit e).progSelect = d.progSelect := rfl
@[simp] theorem Device.emit_clampCount (d : Device) (e : Entry) : (d.emit e).clampCount = d.clampCount := rfl
@[simp] theorem Device.emit_clampSection (d : Device) (e : Entry) : (d.emit e).clampSection = d.clampSection := rfl
@[simp] theorem Device.emit_keyPorts (d : Device) (e : Entry) : (d.emit e).keyPorts = d.keyPorts := rfl
@[simp] theorem Device.emit_stage (d : Device) (e : Entry) : (d.emit e).stage = d.stage.emit e := rfl
@[simp] theorem Device.emit_tempo (d : Device) (e : Entry) : (d.emit e).tempo = d.tempo := rfl
@[simp] theorem Device.emit_click (d : Device) (e : Entry) : (d.emit e).click = d.click := rfl
@[simp] theorem Device.emit_change (d : Device) (e : Entry) : (d.emit e).change = d.change := rfl
@[simp] theorem Device.emit_pedals (d : Device) (e : Entry) : (d.emit e).pedals = d.pedals := rfl
@[simp] theorem Device.emit_tap (d : Device) (e : Entry) : (d.emit e).tap = d.tap := rfl
@[simp] theorem Device.emit_sync (d : Device) (e : Entry) : (d.emit e).sync = d.sync := rfl
@[simp] theorem Device.emit_req (d : Device) (e : Entry) : (d.emit e).req = d.req := rfl
@[simp] theorem Device.emit_page (d : Device) (e : Entry) : (d.emit e).page = d.page := rfl
@[simp] theorem Device.emit_jw (d : Device) (e : Entry) : (d.emit e).jw = d.jw := rfl
@[simp] theorem Device.emit_eventStamp (d : Device) (e : Entry) : (d.emit e).eventStamp = d.eventStamp := rfl
@[simp] theorem Device.emit_pageCause (d : Device) (e : Entry) : (d.emit e).pageCause = d.pageCause := rfl

@[simp] theorem Device.latch_regs (d : Device) (c : Cause) : (d.latch c).regs = d.regs.latch d.now c := rfl
@[simp] theorem Device.latch_engine (d : Device) (c : Cause) : (d.latch c).engine = d.engine := rfl
@[simp] theorem Device.latch_layout (d : Device) (c : Cause) : (d.latch c).layout = d.layout := rfl
@[simp] theorem Device.latch_progSelect (d : Device) (c : Cause) : (d.latch c).progSelect = d.progSelect := rfl
@[simp] theorem Device.latch_clampCount (d : Device) (c : Cause) : (d.latch c).clampCount = d.clampCount := rfl
@[simp] theorem Device.latch_clampSection (d : Device) (c : Cause) : (d.latch c).clampSection = d.clampSection := rfl
@[simp] theorem Device.latch_keyPorts (d : Device) (c : Cause) : (d.latch c).keyPorts = d.keyPorts := rfl
@[simp] theorem Device.latch_stage (d : Device) (c : Cause) : (d.latch c).stage = d.stage := rfl
@[simp] theorem Device.latch_tempo (d : Device) (c : Cause) : (d.latch c).tempo = d.tempo := rfl
@[simp] theorem Device.latch_click (d : Device) (c : Cause) : (d.latch c).click = d.click := rfl
@[simp] theorem Device.latch_change (d : Device) (c : Cause) : (d.latch c).change = d.change := rfl
@[simp] theorem Device.latch_pedals (d : Device) (c : Cause) : (d.latch c).pedals = d.pedals := rfl
@[simp] theorem Device.latch_tap (d : Device) (c : Cause) : (d.latch c).tap = d.tap := rfl
@[simp] theorem Device.latch_sync (d : Device) (c : Cause) : (d.latch c).sync = d.sync := rfl
@[simp] theorem Device.latch_req (d : Device) (c : Cause) : (d.latch c).req = d.req := rfl
@[simp] theorem Device.latch_page (d : Device) (c : Cause) : (d.latch c).page = d.page := rfl
@[simp] theorem Device.latch_jw (d : Device) (c : Cause) : (d.latch c).jw = d.jw := rfl
@[simp] theorem Device.latch_eventStamp (d : Device) (c : Cause) : (d.latch c).eventStamp = d.eventStamp := rfl
@[simp] theorem Device.latch_pageCause (d : Device) (c : Cause) : (d.latch c).pageCause = d.pageCause := rfl

@[simp] theorem Device.setFault_regs (d : Device) (f : StickyFault) :
    (d.setFault f).regs = d.regs.setFault d.now f := rfl
@[simp] theorem Device.setFault_engine (d : Device) (f : StickyFault) : (d.setFault f).engine = d.engine := rfl
@[simp] theorem Device.setFault_layout (d : Device) (f : StickyFault) : (d.setFault f).layout = d.layout := rfl
@[simp] theorem Device.setFault_progSelect (d : Device) (f : StickyFault) :
    (d.setFault f).progSelect = d.progSelect := rfl
@[simp] theorem Device.setFault_clampCount (d : Device) (f : StickyFault) :
    (d.setFault f).clampCount = d.clampCount := rfl
@[simp] theorem Device.setFault_clampSection (d : Device) (f : StickyFault) :
    (d.setFault f).clampSection = d.clampSection := rfl
@[simp] theorem Device.setFault_keyPorts (d : Device) (f : StickyFault) : (d.setFault f).keyPorts = d.keyPorts := rfl
@[simp] theorem Device.setFault_stage (d : Device) (f : StickyFault) : (d.setFault f).stage = d.stage := rfl
@[simp] theorem Device.setFault_tempo (d : Device) (f : StickyFault) : (d.setFault f).tempo = d.tempo := rfl
@[simp] theorem Device.setFault_click (d : Device) (f : StickyFault) : (d.setFault f).click = d.click := rfl
@[simp] theorem Device.setFault_change (d : Device) (f : StickyFault) : (d.setFault f).change = d.change := rfl
@[simp] theorem Device.setFault_pedals (d : Device) (f : StickyFault) : (d.setFault f).pedals = d.pedals := rfl
@[simp] theorem Device.setFault_tap (d : Device) (f : StickyFault) : (d.setFault f).tap = d.tap := rfl
@[simp] theorem Device.setFault_sync (d : Device) (f : StickyFault) : (d.setFault f).sync = d.sync := rfl
@[simp] theorem Device.setFault_req (d : Device) (f : StickyFault) : (d.setFault f).req = d.req := rfl
@[simp] theorem Device.setFault_page (d : Device) (f : StickyFault) : (d.setFault f).page = d.page := rfl
@[simp] theorem Device.setFault_jw (d : Device) (f : StickyFault) : (d.setFault f).jw = d.jw := rfl
@[simp] theorem Device.setFault_eventStamp (d : Device) (f : StickyFault) :
    (d.setFault f).eventStamp = d.eventStamp := rfl
@[simp] theorem Device.setFault_pageCause (d : Device) (f : StickyFault) : (d.setFault f).pageCause = d.pageCause := rfl

@[simp] theorem Device.causePage_regs (d : Device) : (d.causePage).regs = d.regs := rfl
@[simp] theorem Device.causePage_engine (d : Device) : (d.causePage).engine = d.engine := rfl
@[simp] theorem Device.causePage_layout (d : Device) : (d.causePage).layout = d.layout := rfl
@[simp] theorem Device.causePage_progSelect (d : Device) : (d.causePage).progSelect = d.progSelect := rfl
@[simp] theorem Device.causePage_clampCount (d : Device) : (d.causePage).clampCount = d.clampCount := rfl
@[simp] theorem Device.causePage_clampSection (d : Device) : (d.causePage).clampSection = d.clampSection := rfl
@[simp] theorem Device.causePage_keyPorts (d : Device) : (d.causePage).keyPorts = d.keyPorts := rfl
@[simp] theorem Device.causePage_stage (d : Device) : (d.causePage).stage = d.stage := rfl
@[simp] theorem Device.causePage_tempo (d : Device) : (d.causePage).tempo = d.tempo := rfl
@[simp] theorem Device.causePage_click (d : Device) : (d.causePage).click = d.click := rfl
@[simp] theorem Device.causePage_change (d : Device) : (d.causePage).change = d.change := rfl
@[simp] theorem Device.causePage_pedals (d : Device) : (d.causePage).pedals = d.pedals := rfl
@[simp] theorem Device.causePage_tap (d : Device) : (d.causePage).tap = d.tap := rfl
@[simp] theorem Device.causePage_sync (d : Device) : (d.causePage).sync = d.sync := rfl
@[simp] theorem Device.causePage_req (d : Device) : (d.causePage).req = d.req := rfl
@[simp] theorem Device.causePage_page (d : Device) : (d.causePage).page = d.page := rfl
@[simp] theorem Device.causePage_jw (d : Device) : (d.causePage).jw = d.jw := rfl
@[simp] theorem Device.causePage_eventStamp (d : Device) : (d.causePage).eventStamp = d.eventStamp := rfl
@[simp] theorem Device.causePage_pageCause (d : Device) : (d.causePage).pageCause = true := rfl

@[simp] theorem Device.complete_regs (d : Device) (slot : Fin 8) (tag : Word) (code : ResultCode) (value : Word) :
    (d.complete slot tag code value).regs = d.regs := rfl
@[simp] theorem Device.complete_engine (d : Device) (slot : Fin 8) (tag : Word) (code : ResultCode) (value : Word) :
    (d.complete slot tag code value).engine = d.engine := rfl
@[simp] theorem Device.complete_layout (d : Device) (slot : Fin 8) (tag : Word) (code : ResultCode) (value : Word) :
    (d.complete slot tag code value).layout = d.layout := rfl
@[simp] theorem Device.complete_progSelect (d : Device) (slot : Fin 8) (tag : Word) (code : ResultCode) (value : Word) :
    (d.complete slot tag code value).progSelect = d.progSelect := rfl
@[simp] theorem Device.complete_clampCount (d : Device) (slot : Fin 8) (tag : Word) (code : ResultCode) (value : Word) :
    (d.complete slot tag code value).clampCount = d.clampCount := rfl
@[simp] theorem Device.complete_clampSection (d : Device) (slot : Fin 8) (tag : Word) (code : ResultCode) (value : Word) :
    (d.complete slot tag code value).clampSection = d.clampSection := rfl
@[simp] theorem Device.complete_keyPorts (d : Device) (slot : Fin 8) (tag : Word) (code : ResultCode) (value : Word) :
    (d.complete slot tag code value).keyPorts = d.keyPorts := rfl
@[simp] theorem Device.complete_stage (d : Device) (slot : Fin 8) (tag : Word) (code : ResultCode) (value : Word) :
    (d.complete slot tag code value).stage = d.stage := rfl
@[simp] theorem Device.complete_tempo (d : Device) (slot : Fin 8) (tag : Word) (code : ResultCode) (value : Word) :
    (d.complete slot tag code value).tempo = d.tempo := rfl
@[simp] theorem Device.complete_click (d : Device) (slot : Fin 8) (tag : Word) (code : ResultCode) (value : Word) :
    (d.complete slot tag code value).click = d.click := rfl
@[simp] theorem Device.complete_change (d : Device) (slot : Fin 8) (tag : Word) (code : ResultCode) (value : Word) :
    (d.complete slot tag code value).change = d.change := rfl
@[simp] theorem Device.complete_pedals (d : Device) (slot : Fin 8) (tag : Word) (code : ResultCode) (value : Word) :
    (d.complete slot tag code value).pedals = d.pedals := rfl
@[simp] theorem Device.complete_tap (d : Device) (slot : Fin 8) (tag : Word) (code : ResultCode) (value : Word) :
    (d.complete slot tag code value).tap = d.tap := rfl
@[simp] theorem Device.complete_sync (d : Device) (slot : Fin 8) (tag : Word) (code : ResultCode) (value : Word) :
    (d.complete slot tag code value).sync = d.sync := rfl
@[simp] theorem Device.complete_page (d : Device) (slot : Fin 8) (tag : Word) (code : ResultCode) (value : Word) :
    (d.complete slot tag code value).page = d.page := rfl
@[simp] theorem Device.complete_jw (d : Device) (slot : Fin 8) (tag : Word) (code : ResultCode) (value : Word) :
    (d.complete slot tag code value).jw = d.jw := rfl
@[simp] theorem Device.complete_eventStamp (d : Device) (slot : Fin 8) (tag : Word) (code : ResultCode) (value : Word) :
    (d.complete slot tag code value).eventStamp = d.eventStamp := rfl
@[simp] theorem Device.complete_pageCause (d : Device) (slot : Fin 8) (tag : Word) (code : ResultCode) (value : Word) :
    (d.complete slot tag code value).pageCause = d.pageCause := rfl

/-! ## The stage -/

@[simp] theorem Stage.emit_clock (st : Stage) (e : Entry) : (st.emit e).clock = st.clock := rfl
@[simp] theorem Stage.emit_voices (st : Stage) (e : Entry) : (st.emit e).voices = st.voices := rfl
@[simp] theorem Stage.emit_dampers (st : Stage) (e : Entry) : (st.emit e).dampers = st.dampers := rfl
@[simp] theorem Stage.emit_ports (st : Stage) (e : Entry) : (st.emit e).ports = st.ports := rfl
@[simp] theorem Stage.emit_deferrals (st : Stage) (e : Entry) : (st.emit e).deferrals = st.deferrals := rfl
@[simp] theorem Stage.emit_entries (st : Stage) (e : Entry) : (st.emit e).entries = st.entries ++ [e] := rfl

@[simp] theorem Stage.modifyPort_clock (st : Stage) (p : Fin 6) (f : ModulePort → ModulePort) :
    (st.modifyPort p f).clock = st.clock := rfl
@[simp] theorem Stage.modifyPort_voices (st : Stage) (p : Fin 6) (f : ModulePort → ModulePort) :
    (st.modifyPort p f).voices = st.voices := rfl
@[simp] theorem Stage.modifyPort_dampers (st : Stage) (p : Fin 6) (f : ModulePort → ModulePort) :
    (st.modifyPort p f).dampers = st.dampers := rfl
@[simp] theorem Stage.modifyPort_ports (st : Stage) (p : Fin 6) (f : ModulePort → ModulePort) :
    (st.modifyPort p f).ports = vecModify st.ports p f := rfl
@[simp] theorem Stage.modifyPort_deferrals (st : Stage) (p : Fin 6) (f : ModulePort → ModulePort) :
    (st.modifyPort p f).deferrals = st.deferrals := rfl
@[simp] theorem Stage.modifyPort_entries (st : Stage) (p : Fin 6) (f : ModulePort → ModulePort) :
    (st.modifyPort p f).entries = st.entries := rfl

@[simp] theorem Stage.setVoice_clock (st : Stage) (k : Fin 128) (v : Option Voice) :
    (st.setVoice k v).clock = st.clock := rfl
@[simp] theorem Stage.setVoice_voices (st : Stage) (k : Fin 128) (v : Option Voice) :
    (st.setVoice k v).voices = st.voices.set k v := rfl
@[simp] theorem Stage.setVoice_dampers (st : Stage) (k : Fin 128) (v : Option Voice) :
    (st.setVoice k v).dampers = st.dampers := rfl
@[simp] theorem Stage.setVoice_ports (st : Stage) (k : Fin 128) (v : Option Voice) :
    (st.setVoice k v).ports = st.ports := rfl
@[simp] theorem Stage.setVoice_deferrals (st : Stage) (k : Fin 128) (v : Option Voice) :
    (st.setVoice k v).deferrals = st.deferrals := rfl
@[simp] theorem Stage.setVoice_entries (st : Stage) (k : Fin 128) (v : Option Voice) :
    (st.setVoice k v).entries = st.entries := rfl

/-! ## The whole machine -/

@[simp] theorem State.withCommand_dev (s : State) (c : Sys2Proof.Instr) : (s.withCommand c).dev = s.dev := rfl
@[simp] theorem State.withCommand_resetLow (s : State) (c : Sys2Proof.Instr) :
    (s.withCommand c).resetLow = s.resetLow := rfl
@[simp] theorem State.withCommand_mem (s : State) (c : Sys2Proof.Instr) : (s.withCommand c).mem = s.mem := rfl
@[simp] theorem State.withCommand_pending (s : State) (c : Sys2Proof.Instr) :
    (s.withCommand c).pending = c :: s.pending := rfl

@[simp] theorem State.microsecond_resetLow (s : State) : s.microsecond.resetLow = s.resetLow := rfl
@[simp] theorem State.microsecond_mem (s : State) : s.microsecond.mem = s.mem := rfl
@[simp] theorem State.microsecond_pending (s : State) : s.microsecond.pending = s.pending := rfl
@[simp] theorem State.microsecond_clock (s : State) : s.microsecond.dev.stage.clock = s.dev.stage.clock + 1 := rfl

/-! ## Vectors by index -/

/-- The element that was changed. -/
@[simp] theorem vecModify_get_same {α : Type} {n : Nat} (v : Vector α n) (k : Fin n) (f : α → α) :
    (vecModify v k f)[k] = f v[k] := by
  simp [vecModify]

/-- Every other element. -/
theorem vecModify_get_other {α : Type} {n : Nat} (v : Vector α n) (k j : Fin n) (f : α → α) (h : k ≠ j) :
    (vecModify v k f)[j] = v[j] := by
  have hv : k.val ≠ j.val := fun e => h (Fin.ext e)
  simp [vecModify, hv]

end Sys2Proof.Machine
end

