-- ==== Sys2Proof/Laws/Journal.lean ====
section
/-! SUPPORT. What the taking of a journal entry can do (R155 to R164): counts, loss run and armed flag of the writer, and
the causes and faults that it latches; its queue loses the entry taken, and nothing else of the part changes. -/

namespace Sys2Proof.Machine

/-- The journal writer may have counted, lost or called; its settings and queue, and everything else, are as they were. -/
structure Device.OnlyJournals (d d' : Device) : Prop where
  rest : d' = { d with jw := d'.jw, regs := d'.regs }
  setup : d'.jw.mode = d.jw.mode ∧ d'.jw.watermark = d.jw.watermark ∧ d'.jw.mask = d.jw.mask
  queue : d'.jw.queue = d.jw.queue ∧ d'.jw.rearm = d.jw.rearm
  regs : d'.regs = { d.regs with causes := d'.regs.causes, faults := d'.regs.faults, attnPulse := d'.regs.attnPulse }
  kept : ∀ f, d.regs.faultSet f = true → d'.regs.faultSet f = true

/-- Nothing done is within the relation. -/
theorem Device.OnlyJournals.refl (d : Device) : d.OnlyJournals d :=
  ⟨rfl, ⟨rfl, rfl, rfl⟩, ⟨rfl, rfl⟩, rfl, fun _ h => h⟩

/-- The relation composes. -/
theorem Device.OnlyJournals.trans {a b c : Device} (h : a.OnlyJournals b) (h' : b.OnlyJournals c) : a.OnlyJournals c where
  rest := by
    have := h'.rest
    rw [h.rest] at this
    exact this
  setup := ⟨h'.setup.1.trans h.setup.1, h'.setup.2.1.trans h.setup.2.1, h'.setup.2.2.trans h.setup.2.2⟩
  queue := ⟨h'.queue.1.trans h.queue.1, h'.queue.2.trans h.queue.2⟩
  regs := by
    have := h'.regs
    rw [h.regs] at this
    exact this
  kept := fun f hf => h'.kept f (h.kept f hf)

/-- A change of counts, loss run and armed flag. -/
theorem Device.OnlyJournals.ofCounts (d : Device) (w : Word) (l : LossRun) (a : Bool) :
    d.OnlyJournals { d with jw := { d.jw with written := w, loss := l, armed := a } } :=
  ⟨rfl, ⟨rfl, rfl, rfl⟩, ⟨rfl, rfl⟩, rfl, fun _ h => h⟩

/-- A latched cause. -/
theorem Device.latch_onlyJournals (d : Device) (c : Cause) : d.OnlyJournals (d.latch c) :=
  ⟨rfl, ⟨rfl, rfl, rfl⟩, ⟨rfl, rfl⟩, rfl, fun _ h => h⟩

/-- A sticky fault that is set stays set when one is set. -/
theorem Registers.setFault_keeps (r : Registers) (now : Word) (f g : StickyFault) (h : r.faultSet g = true) :
    (r.setFault now f).faultSet g = true := by
  unfold Registers.setFault
  split
  · exact h
  · simp_all [Registers.faultSet, Registers.latch]

/-- A sticky fault. -/
theorem Device.setFault_onlyJournals (d : Device) (f : StickyFault) : d.OnlyJournals (d.setFault f) :=
  ⟨rfl, ⟨rfl, rfl, rfl⟩, ⟨rfl, rfl⟩, by unfold Device.setFault Registers.setFault; split <;> rfl,
    fun g h => Registers.setFault_keeps d.regs d.now f g h⟩

/-- An entry lost (R159). -/
theorem Device.loseEntry_onlyJournals (d : Device) (h : Handed) (m : Bool) : d.OnlyJournals (d.loseEntry h m) :=
  .ofCounts d d.jw.written (d.jw.loss.join h m) d.jw.armed

/-- An entry lost to a failure (R163). -/
theorem Device.loseToFailure_onlyJournals (d : Device) (h : Handed) : d.OnlyJournals (d.loseToFailure h) :=
  (d.loseEntry_onlyJournals h true).trans (Device.setFault_onlyJournals _ _)

/-- The watermark tests (R164). -/
theorem Device.watermarkTests_onlyJournals (d : Device) (w u : Nat) : d.OnlyJournals (d.watermarkTests w u) := by
  unfold Device.watermarkTests
  dsimp only
  split
  · exact (Device.OnlyJournals.ofCounts d d.jw.written d.jw.loss false).trans (Device.latch_onlyJournals _ _)
  · exact .ofCounts d d.jw.written d.jw.loss _

/-- A body written or not (R155, R164). -/
theorem Device.writeBody_onlyJournals (d : Device) (h : Handed) (body : List Byte) (c : Option Word) (run : PortRun) :
    d.OnlyJournals (d.writeBody h body c run).2.1 := by
  unfold Device.writeBody
  split
  · exact .refl d
  · have h1 := Device.OnlyJournals.ofCounts d (d.jw.written + 1) d.jw.loss d.jw.armed
    dsimp only
    split
    · exact h1
    · exact h1.trans (Device.watermarkTests_onlyJournals _ _ _)

/-- The entry itself (R159, R163). -/
theorem Device.writeOwn_onlyJournals (d : Device) (h : Handed) (c : Option Word) (run : PortRun) :
    d.OnlyJournals (d.writeOwn h c run).1 := by
  unfold Device.writeOwn
  split
  · have h1 := d.writeBody_onlyJournals h (entryBody h.entry.kindCode h.stamp h.entry.details) c run
    split <;> rename_i e <;> rw [e] at h1
    · exact h1
    · exact h1.trans (Device.loseToFailure_onlyJournals _ _)
  · exact d.loseEntry_onlyJournals h false

/-- A GAP and the entry after it (R159, R160). -/
theorem Device.writeEntry_onlyJournals (d : Device) (h : Handed) (c : Option Word) (run : PortRun) :
    d.OnlyJournals (d.writeEntry h c run).1 := by
  unfold Device.writeEntry
  split
  · exact d.writeOwn_onlyJournals h c run
  · have h1 := d.writeBody_onlyJournals h (entryBody gapKindCode h.stamp d.jw.loss.details) c run
    split <;> rename_i e <;> rw [e] at h1
    · exact (h1.trans (.ofCounts _ _ LossRun.clear _)).trans (Device.writeOwn_onlyJournals _ _ _ _)
    · exact h1.trans (Device.loseToFailure_onlyJournals _ _)

/-- The record of an entry that passed the class test (R158 to R164). -/
theorem Device.recordEntry_onlyJournals (d : Device) (h : Handed) (run : PortRun) :
    d.OnlyJournals (d.recordEntry h run).1 := by
  unfold Device.recordEntry
  split
  · exact d.writeEntry_onlyJournals h none run
  · split
    · exact d.loseToFailure_onlyJournals h
    · unfold Device.roomTest
      split
      · exact (d.loseEntry_onlyJournals h false).trans (Device.setFault_onlyJournals _ _)
      · split
        · exact d.loseEntry_onlyJournals h false
        · exact d.writeEntry_onlyJournals h _ _

/-- All that the taking of an entry can do: the queue loses it, the first after a RELOAD sets the level armed flag, and
from there only counts, loss run, armed flag, causes and faults change (R157, R166). -/
theorem Device.takeEntry_spec (d : Device) (h : Handed) (run : PortRun) :
    (d.onJournal (·.pop h)).OnlyJournals (d.takeEntry h run).1 := by
  unfold Device.takeEntry
  dsimp only
  split
  · exact Device.recordEntry_onlyJournals _ h run
  · exact .refl _

/-- The queue after a taking. -/
theorem Device.takeEntry_queue (d : Device) (h : Handed) (run : PortRun) :
    (d.takeEntry h run).1.jw.queue = d.jw.queue.tail := (d.takeEntry_spec h run).queue.1

/-! ## Every entry taken -/

/-- The journal writer with another queue. -/
def Device.withQueue (d : Device) (q : List Handed) : Device := d.onJournal fun jw => { jw with queue := q }

/-- The relation holds under any queue that both sides take. -/
theorem Device.OnlyJournals.withQueue {d d' : Device} (h : d.OnlyJournals d') (q : List Handed) :
    (d.withQueue q).OnlyJournals (d'.withQueue q) where
  rest := by rw [h.rest]; rfl
  setup := h.setup
  queue := ⟨rfl, h.queue.2⟩
  regs := h.regs
  kept := h.kept

/-- All that the taking of one entry can do, beside the queue. -/
theorem Device.takeEntry_onlyJournals (d : Device) (h : Handed) (run : PortRun) :
    (d.withQueue d.jw.queue.tail).OnlyJournals (d.takeEntry h run).1 :=
  (Device.OnlyJournals.ofCounts (d.withQueue d.jw.queue.tail) d.jw.written d.jw.loss (d.jw.armed || h.rearm)).trans
    (d.takeEntry_spec h run)

/-- All that the taking of some entries can do, beside the queue. -/
theorem Device.takeEntries_spec (d : Device) (run : PortRun) (hs : List Handed) :
    (d.withQueue (d.jw.queue.drop hs.length)).OnlyJournals (d.takeEntries run hs).1 := by
  induction hs generalizing d run with
  | nil => exact .refl _
  | cons h hs ih =>
    have h1 := (d.takeEntry_onlyJournals h run).withQueue (d.jw.queue.drop (hs.length + 1))
    have h2 := ih (d.takeEntry h run).1 (d.takeEntry h run).2
    rw [Device.takeEntry_queue, List.drop_tail] at h2
    exact h1.trans h2

/-- All that the taking of every entry that waits can do: the queue is empty then, and counts, loss run, armed flag,
causes and faults may have changed (R157, R167). -/
theorem Device.takeAll_spec (d : Device) (run : PortRun) : (d.withQueue []).OnlyJournals (d.takeAll run).1 := by
  simpa [Device.takeAll] using d.takeEntries_spec run d.jw.queue

/-- With no entry that waits nothing is taken. -/
theorem Device.takeAll_of_nil {d : Device} (h : d.jw.queue = []) (run : PortRun) : d.takeAll run = (d, run) := by
  simp [Device.takeAll, h, Device.takeEntries]

/-! ## What the taking depends on -/

/-- Two parts that the journal writer cannot tell apart: the same journal writer, registers, map and clock. -/
structure Device.JournalAlike (d e : Device) : Prop where
  jw : e.jw = d.jw
  regs : e.regs = d.regs
  layout : e.layout = d.layout
  now : e.now = d.now

/-- Outcomes of an operation at two parts that are alike, with the same accesses made. -/
def AlikeOutcomes (x y : Device × PortRun) : Prop := x.1.JournalAlike y.1 ∧ x.2 = y.2

/-- A change of the journal writer keeps parts alike. -/
theorem Device.JournalAlike.onJournal {d e : Device} (a : d.JournalAlike e) (f : JournalWriter → JournalWriter) :
    (d.onJournal f).JournalAlike (e.onJournal f) := ⟨congrArg f a.jw, a.regs, a.layout, a.now⟩

/-- A latched cause keeps parts alike. -/
theorem Device.JournalAlike.latch {d e : Device} (a : d.JournalAlike e) (c : Cause) :
    (d.latch c).JournalAlike (e.latch c) := ⟨a.jw, by simp [Device.latch, a.regs, a.now], a.layout, a.now⟩

/-- A sticky fault keeps parts alike. -/
theorem Device.JournalAlike.setFault {d e : Device} (a : d.JournalAlike e) (f : StickyFault) :
    (d.setFault f).JournalAlike (e.setFault f) := ⟨a.jw, by simp [Device.setFault, a.regs, a.now], a.layout, a.now⟩

/-- An entry lost keeps parts alike. -/
theorem Device.JournalAlike.loseEntry {d e : Device} (a : d.JournalAlike e) (h : Handed) (memory : Bool) :
    (d.loseEntry h memory).JournalAlike (e.loseEntry h memory) := a.onJournal _

/-- An entry lost to a failure keeps parts alike. -/
theorem Device.JournalAlike.loseToFailure {d e : Device} (a : d.JournalAlike e) (h : Handed) :
    (d.loseToFailure h).JournalAlike (e.loseToFailure h) := (a.loseEntry h true).setFault _

/-- The watermark tests keep parts alike. -/
theorem Device.JournalAlike.watermarkTests {d e : Device} (a : d.JournalAlike e) (w u : Nat) :
    (d.watermarkTests w u).JournalAlike (e.watermarkTests w u) := by
  unfold Device.watermarkTests
  simp only [a.jw]
  split
  · exact (a.onJournal _).latch _
  · exact a.onJournal _

/-- Alike parts put a slot of the ring at one address. -/
theorem Device.JournalAlike.journalAddress {d e : Device} (a : d.JournalAlike e) (w : Word) :
    e.journalAddress w = d.journalAddress w := by
  simp [Device.journalAddress, rigAddress, a.layout, a.regs]

/-- A body written at alike parts. -/
theorem Device.JournalAlike.writeBody {d e : Device} (a : d.JournalAlike e) (h : Handed) (body : List Byte)
    (c : Option Word) (run : PortRun) :
    (d.writeBody h body c run).1 = (e.writeBody h body c run).1
      ∧ AlikeOutcomes (d.writeBody h body c run).2 (e.writeBody h body c run).2 := by
  unfold Device.writeBody
  rw [a.journalAddress, a.jw]
  split
  · exact ⟨rfl, a, rfl⟩
  · refine ⟨rfl, ?_, rfl⟩
    have a' := a.onJournal fun jw => { jw with written := jw.written + 1 }
    cases c with
    | none => exact a'
    | some c =>
      dsimp only
      rw [show e.unread c = d.unread c by unfold Device.unread; rw [a.jw]]
      exact a'.watermarkTests _ _

/-- The entry itself at alike parts. -/
theorem Device.JournalAlike.writeOwn {d e : Device} (a : d.JournalAlike e) (h : Handed) (c : Option Word)
    (run : PortRun) : AlikeOutcomes (d.writeOwn h c run) (e.writeOwn h c run) := by
  have hr : e.hasRoom c = d.hasRoom c := by
    unfold Device.hasRoom Device.unread; rw [a.jw, a.layout]
  unfold Device.writeOwn
  rw [hr]
  split
  · have hb := a.writeBody h (entryBody h.entry.kindCode h.stamp h.entry.details) c run
    generalize d.writeBody h _ c run = x at hb
    generalize e.writeBody h _ c run = y at hb
    obtain ⟨x1, x2, x3⟩ := x
    obtain ⟨y1, y2, y3⟩ := y
    obtain ⟨h1, h2, h3⟩ := hb
    simp only at h1 h2 h3
    subst h1 h3
    cases x1
    · exact ⟨h2.loseToFailure h, rfl⟩
    · exact ⟨h2, rfl⟩
  · exact ⟨a.loseEntry h false, rfl⟩

/-- A GAP and the entry after it at alike parts. -/
theorem Device.JournalAlike.writeEntry {d e : Device} (a : d.JournalAlike e) (h : Handed) (c : Option Word)
    (run : PortRun) : AlikeOutcomes (d.writeEntry h c run) (e.writeEntry h c run) := by
  unfold Device.writeEntry
  rw [a.jw]
  split
  · exact a.writeOwn h c run
  · have hb := a.writeBody h (entryBody gapKindCode h.stamp d.jw.loss.details) c run
    generalize d.writeBody h _ c run = x at hb
    generalize e.writeBody h _ c run = y at hb
    obtain ⟨x1, x2, x3⟩ := x
    obtain ⟨y1, y2, y3⟩ := y
    obtain ⟨h1, h2, h3⟩ := hb
    simp only at h1 h2 h3
    subst h1 h3
    cases x1
    · exact ⟨h2.loseToFailure h, rfl⟩
    · exact (h2.onJournal _).writeOwn h c x3

/-- The taking of an entry at alike parts. -/
theorem Device.JournalAlike.takeEntry {d e : Device} (a : d.JournalAlike e) (h : Handed) (run : PortRun) :
    AlikeOutcomes (d.takeEntry h run) (e.takeEntry h run) := by
  have a' := a.onJournal (·.pop h)
  unfold Device.takeEntry
  dsimp only
  split
  · generalize d.onJournal (·.pop h) = d' at a'
    generalize e.onJournal (·.pop h) = e' at a'
    unfold Device.recordEntry
    split
    · exact a'.writeEntry h none run
    · rw [show rigAddress e' 44 = rigAddress d' 44 by simp [rigAddress, a'.regs]]
      split
      · exact ⟨a'.loseToFailure h, rfl⟩
      · unfold Device.roomTest
        unfold Device.unread
        rw [a'.jw, a'.layout]
        by_cases h1 : d'.layout.capacity < (d'.jw.written - BitVec.ofNat 32 (natOf ‹List Byte›)).toNat
        · rw [if_pos h1, if_pos h1]
          exact ⟨(a'.loseEntry h false).setFault _, rfl⟩
        · rw [if_neg h1, if_neg h1]
          split
          · exact ⟨a'.loseEntry h false, rfl⟩
          · exact a'.writeEntry h _ _
  · exact ⟨a', rfl⟩

/-- The taking of every entry that waits at alike parts: an event may have changed what it likes of the rest. -/
theorem Device.JournalAlike.takeAll {d e : Device} (a : d.JournalAlike e) (run : PortRun) :
    AlikeOutcomes (d.takeAll run) (e.takeAll run) := by
  have key : ∀ (hs : List Handed) (d e : Device) (run : PortRun), d.JournalAlike e →
      AlikeOutcomes (d.takeEntries run hs) (e.takeEntries run hs) := by
    intro hs
    induction hs with
    | nil => exact fun d e run a => ⟨a, rfl⟩
    | cons h hs ih =>
      intro d e run a
      have h1 := a.takeEntry h run
      have h2 := ih _ _ (d.takeEntry h run).2 h1.1
      simpa only [Device.takeEntries, ← h1.2] using h2
  unfold Device.takeAll
  rw [a.jw]
  exact key _ d e run a

end Sys2Proof.Machine
end

