-- ==== Sys2Proof/Laws/Event.lean ====
section
/-! SUPPORT. What ends an event, once: `settle_eq` says all that settling can do to a part whose drain is not over,
`endEvent_over` with `drainTaken_eq` and `endDrain_eq` what it does at a drain's end, and the lemmas after them say which
invariants every event leaves behind. -/

namespace Sys2Proof.Machine

/-! ## The pieces of settling -/

/-- The entries that an event hands over, when the engine was ONLINE or DRAINING as it began (R157). -/
def Device.handedOver (d : Device) (before : EngineState) : List Entry :=
  if before.isRunning then d.stage.entries else []

/-- A rewrite begins or is owed: only the page writer changes. -/
theorem Device.rewriteCaused_eq (d : Device) : d.rewriteCaused = { d with page := d.rewriteCaused.page } := by
  unfold Device.rewriteCaused Device.beginRewrite
  split <;> rfl

/-- The page takes the causes: only the page writer and the noted cause change. -/
theorem Device.pageSettle_eq (d before : Device) :
    d.pageSettle before = { d with page := (d.pageSettle before).page, pageCause := false } := by
  unfold Device.pageSettle
  dsimp only
  split
  · conv_lhs => rw [Device.rewriteCaused_eq]
  · rfl

/-- The entries of the event wait for the journal writer (R157). -/
theorem Device.journalSettle_eq (d : Device) (before : EngineState) :
    d.journalSettle before =
      { d with
        jw := { d.jw with
          queue := d.jw.queue ++ d.jw.hand d.eventStamp (d.handedOver before)
          rearm := d.jw.rearm && (d.handedOver before).isEmpty }
        stage := { d.stage with entries := [] } } := rfl

/-- What an event leaves when its entries have been handed over, but for the end of a drain and the state page. -/
def Device.afterHanding (d : Device) (before : EngineState) : Device := d.restamp.journalSettle before

/-- Handing entries over does not touch what a drain waits for. -/
theorem Device.afterHanding_drainOver (d : Device) (before : EngineState) :
    (d.afterHanding before).drainOver = d.drainOver := rfl

/-- What ends an event whose drain goes on, or that is in none. -/
theorem State.endEvent_not_over {s : State} {d : Device} (m : Mem) (page : Device → Device)
    (h : d.drainOver = false) :
    s.endEvent d m page = { s with dev := page (d.afterHanding s.dev.engine.state), mem := m } := by
  have h' : (d.restamp.journalSettle s.dev.engine.state).drainOver = false := h
  simp [State.endEvent, h', Device.afterHanding]

/-- The entries that wait at a drain's end, those of the event that ends it among them, as they are taken (R157, R167). -/
def State.drainTaken (s : State) (d : Device) (m : Mem) : Device × PortRun :=
  (d.afterHanding s.dev.engine.state).takeAll { mem := m, bus := Config.drainBus s.drains }

/-- What ends an event that leaves a drain over: the entries that wait are taken, and the drain ends (R189). -/
theorem State.endEvent_over {s : State} {d : Device} (m : Mem) (page : Device → Device) (h : d.drainOver = true) :
    s.endEvent d m page =
      { s with
        dev := page (s.drainTaken d m).1.endDrain, mem := (s.drainTaken d m).2.mem, drains := s.drains + 1 } := by
  have h' : (d.restamp.journalSettle s.dev.engine.state).drainOver = true := h
  simp [State.endEvent, h', State.drainTaken, Device.afterHanding]

/-- All that settling does to a part whose drain is not over: the event's stamp shows its position, its entries go to the
journal's queue, and the page writer may take a cause. -/
theorem State.settle_eq {s : State} {d : Device} (m : Mem) (h : d.drainOver = false) :
    s.settle d m =
      { s with
        mem := m
        dev :=
          { d with
            eventStamp := d.stampHere
            jw := { d.jw with
              queue := d.jw.queue ++ d.jw.hand d.stampHere (d.handedOver s.dev.engine.state)
              rearm := d.jw.rearm && (d.handedOver s.dev.engine.state).isEmpty }
            stage := { d.stage with entries := [] }
            page := (s.settle d m).dev.page
            pageCause := false } } := by
  unfold State.settle
  rw [State.endEvent_not_over m _ h]
  conv_lhs => rw [Device.pageSettle_eq]
  rfl

/-- The drain's end: the engine leaves DRAINING, the pedals are RELEASED, and LOADING may begin (R189). -/
theorem Device.endDrain_state (d : Device) : d.endDrain.engine.state ≠ .draining := by
  unfold Device.endDrain Device.beginLoading
  dsimp only
  split <;> simp

/-- All that the end of a drain can touch: the engine, the pedals, the field code and a page retry (R145, R189). -/
theorem Device.endDrain_eq (d : Device) :
    d.endDrain =
      { d with
        engine := d.endDrain.engine
        pedals := d.endDrain.pedals
        regs := { d.regs with fieldCode := d.endDrain.regs.fieldCode }
        page := d.endDrain.page } := by
  unfold Device.endDrain Device.beginLoading
  dsimp only
  split <;> rfl

/-- All that taking the entries of a drain's end can touch: the journal writer, and causes, faults and pulse (R157). -/
theorem State.drainTaken_eq (s : State) (d : Device) (m : Mem) :
    (s.drainTaken d m).1 =
      { d.afterHanding s.dev.engine.state with
        jw := (s.drainTaken d m).1.jw
        regs :=
          { d.regs with
            causes := (s.drainTaken d m).1.regs.causes
            faults := (s.drainTaken d m).1.regs.faults
            attnPulse := (s.drainTaken d m).1.regs.attnPulse } } := by
  have h := Device.takeAll_spec (d.afterHanding s.dev.engine.state) { mem := m, bus := Config.drainBus s.drains }
  have h1 := h.rest
  have h2 := h.regs
  unfold State.drainTaken
  generalize ((d.afterHanding s.dev.engine.state).takeAll { mem := m, bus := Config.drainBus s.drains }).1 = x at h1 h2
  rw [h2] at h1
  exact h1

/-- Every event ends settled: no entries, no cause, no drain that is over. -/
theorem State.settle_isSettled (s : State) (d : Device) (m : Mem) : (s.settle d m).isSettled = true := by
  unfold State.settle
  cases h : d.drainOver
  · rw [State.endEvent_not_over m _ h]
    have h' : (d.afterHanding s.dev.engine.state).drainOver = false := h
    rw [Device.pageSettle_eq]
    unfold Device.drainOver at h'
    simp only [State.isSettled, Device.isSettled, Device.drainOver]
    rw [h']
    rfl
  · rw [State.endEvent_over m _ h, Device.pageSettle_eq]
    have he := Device.endDrain_state (s.drainTaken d m).1
    have hs : (s.drainTaken d m).1.endDrain.stage.entries = [] := by
      rw [Device.endDrain_eq, State.drainTaken_eq]; rfl
    simp [State.isSettled, Device.isSettled, Device.drainOver, he, hs]

/-- The stage of a part after settling. -/
theorem State.settle_stage (s : State) (d : Device) (m : Mem) :
    (s.settle d m).dev.stage = { d.stage with entries := [] } := by
  unfold State.settle
  cases h : d.drainOver
  · rw [State.endEvent_not_over m _ h, Device.pageSettle_eq]; rfl
  · rw [State.endEvent_over m _ h, Device.pageSettle_eq, Device.endDrain_eq, State.drainTaken_eq]; rfl

/-- The tempo generator is not touched by settling. -/
theorem State.settle_tempo (s : State) (d : Device) (m : Mem) : (s.settle d m).dev.tempo = d.tempo := by
  unfold State.settle
  cases h : d.drainOver
  · rw [State.endEvent_not_over m _ h, Device.pageSettle_eq]; rfl
  · rw [State.endEvent_over m _ h, Device.pageSettle_eq, Device.endDrain_eq, State.drainTaken_eq]; rfl

/-- The request unit is not touched by settling. -/
theorem State.settle_req (s : State) (d : Device) (m : Mem) : (s.settle d m).dev.req = d.req := by
  unfold State.settle
  cases h : d.drainOver
  · rw [State.endEvent_not_over m _ h, Device.pageSettle_eq]; rfl
  · rw [State.endEvent_over m _ h, Device.pageSettle_eq, Device.endDrain_eq, State.drainTaken_eq]; rfl

/-- Settling touches no register but the field code, which a restart clears, and at a drain's end the causes, faults and
pulse that the taking of its entries brings. -/
theorem State.settle_regs (s : State) (d : Device) (m : Mem) :
    (s.settle d m).dev.regs.control = d.regs.control ∧ (s.settle d m).dev.regs.area = d.regs.area
      ∧ (d.drainOver = false → (s.settle d m).dev.regs = d.regs) := by
  unfold State.settle
  cases h : d.drainOver
  · rw [State.endEvent_not_over m _ h, Device.pageSettle_eq]; exact ⟨rfl, rfl, fun _ => rfl⟩
  · rw [State.endEvent_over m _ h, Device.pageSettle_eq, Device.endDrain_eq, State.drainTaken_eq]
    exact ⟨rfl, rfl, fun e => by simp at e⟩

/-- Outside DRAINING no drain is over. -/
theorem Device.drainOver_of_state {d : Device} (h : d.engine.state ≠ .draining) : d.drainOver = false := by
  simp [Device.drainOver, h]

/-! ## Events of the machine -/

/-- An event that is due. -/
theorem State.event_due {s : State} (hr : s.resetLow = false) (body : Device → Device) :
    s.event true body = s.settle (body s.dev.beginEvent) s.mem := by
  simp [State.event, hr]

/-- An event that is not due, or one in reset, changes nothing (log 3). -/
theorem State.event_not_due (s : State) (due : Bool) (body : Device → Device)
    (h : s.resetLow = true ∨ due = false) : s.event due body = s := by
  unfold State.event
  rcases h with h | h <;> simp [h]

/-- What ends an event leaves the pin. -/
@[simp] theorem State.endEvent_resetLow (s : State) (d : Device) (m : Mem) (page : Device → Device) :
    (s.endEvent d m page).resetLow = s.resetLow := by
  unfold State.endEvent; dsimp only; split <;> rfl

/-- What ends an event leaves the queue. -/
@[simp] theorem State.endEvent_pending (s : State) (d : Device) (m : Mem) (page : Device → Device) :
    (s.endEvent d m page).pending = s.pending := by
  unfold State.endEvent; dsimp only; split <;> rfl

/-- An event leaves the pin. -/
@[simp] theorem State.event_resetLow (s : State) (due : Bool) (body : Device → Device) :
    (s.event due body).resetLow = s.resetLow := by
  unfold State.event State.settle; split <;> simp

/-- An event leaves the queue. -/
@[simp] theorem State.event_pending (s : State) (due : Bool) (body : Device → Device) :
    (s.event due body).pending = s.pending := by
  unfold State.event State.settle; split <;> simp

/-- A port event leaves the pin. -/
@[simp] theorem State.portEvent_resetLow (s : State) (due : Bool) (bus : Sys2Proof.Bus)
    (body : Device → PortRun → Device × PortRun) : (s.portEvent due bus body).resetLow = s.resetLow := by
  unfold State.portEvent State.settle; split <;> simp

/-- A port event leaves the queue. -/
@[simp] theorem State.portEvent_pending (s : State) (due : Bool) (bus : Sys2Proof.Bus)
    (body : Device → PortRun → Device × PortRun) : (s.portEvent due bus body).pending = s.pending := by
  unfold State.portEvent State.settle; split <;> simp

/-- Everything that an event does to the machine when no drain is over at its end: the body's work, the entries handed
to the journal's queue, and whatever the page writer makes of it. -/
theorem State.event_spec {s : State} (hr : s.resetLow = false) {body : Device → Device}
    (hd : (body s.dev.beginEvent).drainOver = false) :
    ∃ p : PageWriter, s.event true body =
      { s with
        dev :=
          { body s.dev.beginEvent with
            eventStamp := (body s.dev.beginEvent).stampHere
            jw :=
              { (body s.dev.beginEvent).jw with
                queue := (body s.dev.beginEvent).jw.queue
                  ++ (body s.dev.beginEvent).jw.hand (body s.dev.beginEvent).stampHere
                    ((body s.dev.beginEvent).handedOver s.dev.engine.state)
                rearm := (body s.dev.beginEvent).jw.rearm
                  && ((body s.dev.beginEvent).handedOver s.dev.engine.state).isEmpty }
            stage := { (body s.dev.beginEvent).stage with entries := [] }
            page := p
            pageCause := false } } := by
  refine ⟨(s.settle (body s.dev.beginEvent) s.mem).dev.page, ?_⟩
  rw [State.event_due hr]
  conv_lhs => rw [State.settle_eq s.mem hd]

/-- The same for a command that makes accesses of the memory port. -/
theorem State.portEvent_spec {s : State} (hr : s.resetLow = false) {bus : Sys2Proof.Bus}
    {body : Device → PortRun → Device × PortRun} {d : Device} {run : PortRun}
    (hb : body s.dev.beginEvent { mem := s.mem, bus := bus } = (d, run)) (hd : d.drainOver = false) :
    ∃ p : PageWriter, s.portEvent true bus body =
      { s with
        mem := run.mem
        dev :=
          { d with
            eventStamp := d.stampHere
            jw := { d.jw with
              queue := d.jw.queue ++ d.jw.hand d.stampHere (d.handedOver s.dev.engine.state)
              rearm := d.jw.rearm && (d.handedOver s.dev.engine.state).isEmpty }
            stage := { d.stage with entries := [] }
            page := p
            pageCause := false } } := by
  refine ⟨(s.settle d run.mem).dev.page, ?_⟩
  unfold State.portEvent
  rw [if_neg (by simp [hr])]
  simp only [hb]
  conv_lhs => rw [State.settle_eq run.mem hd]

/-- A frame over every block, field by field: the way to prove an `OnlyChanges`. -/
theorem onlyChanges_of_forall {bs : List Block} {s t : State} (h : ∀ b : Block, b ∈ bs ∨ b.agrees s t) :
    OnlyChanges bs s t := fun b hb => (h b).resolve_left hb

/-- A frame with more blocks named is weaker. -/
theorem OnlyChanges.mono {bs cs : List Block} {s t : State} (h : OnlyChanges bs s t) (hsub : ∀ b ∈ bs, b ∈ cs) :
    OnlyChanges cs s t := fun b hb => h b fun hb' => hb (hsub b hb')

end Sys2Proof.Machine
end

