-- ==== Sys2Proof/Laws/Command.lean ====
section
/-! SUPPORT. The kinds of command, once each: an event, one with accesses of the memory port, an arrival at the routing
unit, a request that the scan handed. Each lemma gives the next state, what was handed to the journal, and the frame. -/

namespace Sys2Proof.Machine

open Sys2Proof

/-! ## What the premises of statements say -/

/-- A machine that is ONLINE, out of reset and between events. -/
theorem State.isOnline_spec {s : State} (h : s.isOnline = true) :
    s.resetLow = false ∧ s.dev.engine.state = .online ∧ s.dev.stage.entries = [] ∧ s.dev.pageCause = false := by
  simp [State.isOnline, State.isSettled, Device.isSettled] at h
  simp_all

/-- A machine that is out of reset and between events. -/
theorem State.isReady_spec {s : State} (h : s.isReady = true) :
    s.resetLow = false ∧ s.dev.stage.entries = [] ∧ s.dev.pageCause = false ∧ s.dev.drainOver = false := by
  simp [State.isReady, State.isSettled, Device.isSettled] at h
  simp_all

/-- A machine that is out of reset, not DRAINING, and between events. -/
theorem State.isSteady_spec {s : State} (h : s.isSteady = true) :
    s.resetLow = false ∧ s.dev.engine.state ≠ .draining ∧ s.dev.stage.entries = [] ∧ s.dev.pageCause = false := by
  simp [State.isSteady, State.isSettled, Device.isSettled] at h
  simp_all

/-- ONLINE is one of the engine states in which the machine is ready. -/
theorem State.isReady_of_isOnline {s : State} (h : s.isOnline = true) : s.isReady = true := by
  simp [State.isOnline, State.isReady] at h ⊢
  exact ⟨h.1.1, h.2⟩

/-! ## Sticky faults (R190) -/

/-- Setting a fault that is set changes nothing. -/
theorem or_faultBit_of_set (r : Registers) (f : StickyFault) (h : r.faultSet f = true) :
    r.faults ||| (1#6 <<< f.index) = r.faults := by
  have key : ∀ (x : BitVec 6) (k : Fin 6), x.getLsbD k.val = true → x ||| (1#6 <<< k.val) = x := by decide +kernel
  cases f
  · exact key r.faults 0 h
  · exact key r.faults 1 h
  · exact key r.faults 2 h
  · exact key r.faults 3 h
  · exact key r.faults 4 h
  · exact key r.faults 5 h

/-- What `FaultRaised` asks is what `setFault` does. -/
theorem FaultRaised.of_setFault {s t : State} {f : StickyFault} {now : Word}
    (h : t.dev.regs = s.dev.regs.setFault now f) : FaultRaised f s t := by
  simp only [FaultRaised, h, Registers.setFault]
  split <;> rename_i h' <;> simp_all [Registers.latch, or_faultBit_of_set]

@[simp] theorem Registers.setFault_control (r : Registers) (now : Word) (f : StickyFault) :
    (r.setFault now f).control = r.control := by unfold Registers.setFault; split <;> rfl
@[simp] theorem Registers.setFault_area (r : Registers) (now : Word) (f : StickyFault) :
    (r.setFault now f).area = r.area := by unfold Registers.setFault; split <;> rfl
@[simp] theorem Registers.setFault_fieldCode (r : Registers) (now : Word) (f : StickyFault) :
    (r.setFault now f).fieldCode = r.fieldCode := by unfold Registers.setFault; split <;> rfl

/-! ## Events -/

/-- An event that is due, whole: given the part that its work leaves and the entries that it hands over, the next state,
the journal's queue and the frame. -/
theorem State.event_outcome {s : State} {body : Device → Device} {due : Bool} (d : Device) (es : List Entry)
    (bs : List Block) (hdue : due = true) (hr : s.resetLow = false) (hen : s.dev.stage.entries = [])
    (hpc : s.dev.pageCause = false) (hrun : s.dev.engine.state.isRunning = true ∨ es = [])
    (hb : body s.dev.beginEvent = d) (hes : d.stage.entries = es) (hjw : d.jw = s.dev.jw) (hd : d.drainOver = false)
    (hbs : ∀ b : Block, b ∈ bs ∨ b ∈ [Block.entries, .eventStamp, .page, .pageCause] ∨
      b.agrees s { s with dev := d }) :
    ∃ t, t = s.event due body
      ∧ (∃ (p : PageWriter) (q : JournalWriter),
          t = { s with
                dev :=
                  { d with
                    eventStamp := d.stampHere, jw := q, stage := { d.stage with entries := [] }, page := p
                    pageCause := false } })
      ∧ Journaled es s t ∧ EventChanges bs s t := by
  subst hdue
  obtain ⟨p, hp⟩ := State.event_spec (s := s) (body := body) hr (by rw [hb]; exact hd)
  rw [hb] at hp
  refine ⟨_, rfl, ⟨p, _, hp⟩, ?_, ?_⟩
  · rw [hp]
    rcases hrun with h | h
    · simp [Journaled, Device.handedOver, h, hes, JournalWriter.hand, hjw]
    · subst h; simp [Journaled, Device.handedOver, hes, JournalWriter.hand, hjw]
  · rw [hp]
    intro b hb
    have := hbs b
    cases b <;> simp [Block.agrees, bookkeeping, hjw] at hb this ⊢ <;>
      first | exact this.resolve_left hb | exact hen.symm | exact hpc.symm | skip
    all_goals simp_all

/-- The same for a command that makes accesses of the memory port. -/
theorem State.portEvent_outcome {s : State} {bus : Bus} {body : Device → PortRun → Device × PortRun} {due : Bool}
    (d : Device) (run : PortRun) (es : List Entry) (bs : List Block) (hdue : due = true) (hr : s.resetLow = false)
    (hen : s.dev.stage.entries = []) (hpc : s.dev.pageCause = false)
    (hrun : s.dev.engine.state.isRunning = true ∨ es = [])
    (hb : body s.dev.beginEvent { mem := s.mem, bus := bus } = (d, run)) (hes : d.stage.entries = es)
    (hjw : d.jw = s.dev.jw) (hd : d.drainOver = false) (hm : Block.mem ∈ bs ∨ run.mem = s.mem)
    (hbs : ∀ b : Block, b ∈ bs ∨ b ∈ [Block.mem, .entries, .eventStamp, .page, .pageCause] ∨
      b.agrees s { s with dev := d }) :
    ∃ t, t = s.portEvent due bus body ∧ t.mem = run.mem
      ∧ (∃ (p : PageWriter) (q : JournalWriter),
          t = { s with
                mem := run.mem
                dev :=
                  { d with
                    eventStamp := d.stampHere, jw := q, stage := { d.stage with entries := [] }, page := p
                    pageCause := false } })
      ∧ Journaled es s t ∧ EventChanges bs s t := by
  subst hdue
  obtain ⟨p, hp⟩ := State.portEvent_spec (s := s) (bus := bus) hr hb hd
  refine ⟨_, rfl, by rw [hp], ⟨p, _, hp⟩, ?_, ?_⟩
  · rw [hp]
    rcases hrun with h | h
    · simp [Journaled, Device.handedOver, h, hes, JournalWriter.hand, hjw]
    · subst h; simp [Journaled, Device.handedOver, hes, JournalWriter.hand, hjw]
  · rw [hp]
    intro b hb
    have := hbs b
    cases b <;> simp [Block.agrees, bookkeeping, hjw] at hb this ⊢ <;>
      first | exact this.resolve_left hb | exact hen.symm | exact hpc.symm | exact hm.resolve_left hb | skip
    all_goals simp_all

/-- An arrival at the routing unit that its row takes (R34 to R40). -/
theorem State.arrival_outcome {s : State} {port : Fin 4} {a : Arrival} {fits : Message → Bool}
    {body : Message → Device → Device} (d : Device) (es : List Entry) (bs : List Block) (hon : s.isOnline = true)
    (ha : s.dev.nextArrival port = some a) (hf : fits a.msg = true)
    (hb : body a.msg (s.dev.beginEvent.takeArrival port a) = d) (he : d.engine = s.dev.engine)
    (hes : d.stage.entries = es) (hjw : d.jw = s.dev.jw)
    (hbs : ∀ b : Block, b ∈ bs ∨ b ∈ [Block.entries, .eventStamp, .page, .pageCause] ∨
      b.agrees s { s with dev := d }) :
    ∃ t, t = s.arrival port fits body
      ∧ (∃ (p : PageWriter) (q : JournalWriter),
          t = { s with
                dev :=
                  { d with
                    eventStamp := d.stampHere, jw := q, stage := { d.stage with entries := [] }, page := p
                    pageCause := false } })
      ∧ Journaled es s t ∧ EventChanges bs s t := by
  obtain ⟨hr, hst, hen, hpc⟩ := State.isOnline_spec hon
  obtain ⟨t, e, h⟩ := State.event_outcome (s := s) (body := fun d => body a.msg (d.takeArrival port a)) d es bs
    (due := true) rfl hr hen hpc (Or.inl (by simp [hst, EngineState.isRunning])) hb hes hjw
    (Device.drainOver_of_state (by simp [he, hst])) hbs
  refine ⟨t, ?_, h⟩
  rw [e]
  simp [State.arrival, ha, hst, hf]

/-! ## Requests (R175 to R177) -/

/-- A request that the scan has handed stands in the scan. -/
theorem RequestUnit.handedRequest_spec {q : RequestUnit} {r : Request} (h : q.handedRequest = some r) :
    ∃ n, q.scan = some { slot := n, phase := .handed r } := by
  unfold RequestUnit.handedRequest at h
  split at h
  · simp at h; subst h; exact ⟨_, by assumption⟩
  · simp at h

/-- No completion of a slot awaits a retry: what the test says of the list (R173). -/
theorem RequestUnit.awaitsRetry_eq_false {q : RequestUnit} {slot : Fin 8} :
    q.awaitsRetry slot = false ↔ ∀ x ∈ q.retries, x.completion.slot ≠ slot := by
  simp [RequestUnit.awaitsRetry]

/-- The retry list holds at most one for each slot, and a slot that has none may join it (R173, R179). -/
theorem RequestUnit.retryLater_pairwise {q : RequestUnit} (r : Retry) (hr : q.awaitsRetry r.completion.slot = false)
    (h : q.retries.Pairwise fun x y => x.completion.slot ≠ y.completion.slot) :
    (q.retryLater r).retries.Pairwise fun x y => x.completion.slot ≠ y.completion.slot := by
  simp only [RequestUnit.retryLater, List.pairwise_append]
  exact ⟨h, by simp, fun x hx y hy => by
    rw [List.mem_singleton] at hy
    subst hy
    exact RequestUnit.awaitsRetry_eq_false.1 hr x hx⟩

/-- A retry taken out of a list with one for each slot leaves none of its slot, so it may join again (R173, R179). -/
theorem RequestUnit.awaitsRetry_erase {q : RequestUnit} {r : Retry} (hr : r ∈ q.retries)
    (h : q.retries.Pairwise fun x y => x.completion.slot ≠ y.completion.slot) :
    ({ q with retries := q.retries.erase r } : RequestUnit).awaitsRetry r.completion.slot = false := by
  rw [RequestUnit.awaitsRetry_eq_false]
  intro x hx e
  have hn : q.retries.Nodup := h.imp fun hxy e => hxy (by rw [e])
  obtain ⟨hne, hm⟩ := hn.mem_erase_iff.1 hx
  exact hne (List.inj_on_of_nodup_map (List.pairwise_map.2 h) hm hr e)

/-- A request that its row carries out ONLINE: the owner's work, and the scan that goes on. -/
theorem State.request_outcome {s : State} {r : Request} {fits : Byte → Bool} {body : Request → Device → Device}
    (d : Device) (es : List Entry) (bs : List Block) (hon : s.isOnline = true)
    (hreq : s.dev.req.handedRequest = some r) (hf : fits r.kind = true)
    (hb : body r (s.dev.beginEvent.onReq RequestUnit.beginWork) = d) (hes : d.stage.entries = es)
    (hjw : d.jw = s.dev.jw) (he : d.engine = s.dev.engine) (hreqb : Block.req ∈ bs)
    (hbs : ∀ b : Block, b ∈ bs ∨ b ∈ [Block.entries, .eventStamp, .page, .pageCause] ∨
      b.agrees s { s with dev := d }) :
    ∃ t, t = s.request fits body
      ∧ (∃ (p : PageWriter) (q : JournalWriter),
          t = { s with
                dev :=
                  { d with
                    eventStamp := d.stampHere, req := d.req.nextSlot, jw := q, page := p, pageCause := false
                    stage := { d.stage with entries := [] } } })
      ∧ Journaled es s t ∧ EventChanges bs s t := by
  obtain ⟨hr, hst, hen, hpc⟩ := State.isOnline_spec hon
  obtain ⟨t, e, h⟩ := State.event_outcome (s := s) (body := fun d => d.carryOut r (body r))
    { d with req := d.req.nextSlot } es bs (due := fits r.kind) hf hr hen hpc
    (Or.inl (by simp [hst, EngineState.isRunning]))
    (by unfold Device.carryOut; dsimp only; rw [if_pos (by exact hst), hb]; rfl) hes hjw
    (Device.drainOver_of_state (by simp [he, hst]))
    (by intro b; have := hbs b; cases b <;> simp_all [Block.agrees])
  refine ⟨t, ?_, h⟩
  rw [e]
  simp [State.request, hreq]

/-- A request whose owner completes it last: the completion of `Answered`, beside what the owner did before. -/
theorem State.request_answered {s : State} {r : Request} {fits : Byte → Bool} {body : Request → Device → Device}
    {code : ResultCode} {value : Nat} (d : Device) (es : List Entry) (bs : List Block) (hon : s.isOnline = true)
    (hreq : s.dev.req.handedRequest = some r) (hf : fits r.kind = true)
    (hb : body r (s.dev.beginEvent.onReq RequestUnit.beginWork) = d.answer r code value)
    (hq : d.req = s.dev.req.beginWork) (hl : d.layout = s.dev.layout) (ha : d.regs.area = s.dev.regs.area)
    (hes : d.stage.entries = es) (hjw : d.jw = s.dev.jw) (he : d.engine = s.dev.engine) (hreqb : Block.req ∈ bs)
    (hbs : ∀ b : Block, b ∈ bs ∨ b ∈ [Block.req, .entries, .eventStamp, .page, .pageCause] ∨
      b.agrees s { s with dev := d }) :
    ∃ t, t = s.request fits body
      ∧ (∃ (p : PageWriter) (q : JournalWriter) (rq : RequestUnit),
          t = { s with
                dev :=
                  { d with
                    eventStamp := d.stampHere, req := rq, jw := q, page := p, pageCause := false
                    stage := { d.stage with entries := [] } } })
      ∧ Answered r code value s t ∧ Journaled es s t ∧ EventChanges bs s t := by
  obtain ⟨t, e, ⟨p, q, ht⟩, hj, hc⟩ := State.request_outcome (s := s) (fits := fits) (body := body) _ es bs hon hreq hf
    hb hes hjw he hreqb
    (by intro b; have := hbs b; cases b <;> simp_all [Block.agrees, Device.answer, Device.complete])
  refine ⟨t, e, ⟨p, q, _, ht⟩, ?_, hj, hc⟩
  obtain ⟨n, hn⟩ := RequestUnit.handedRequest_spec hreq
  subst ht
  simp [Answered, Device.answer, Device.complete, hq, RequestUnit.beginWork, hn, RequestUnit.nextSlot,
    RequestUnit.endScan, RequestUnit.scanWaits, RequestUnit.working, slotOffset, rigAddress, hl, ha, Device.stampHere]

end Sys2Proof.Machine
end

