-- ==== Sys2Proof/Laws/Memory.lean ====
section
/-! SUPPORT. The shared memory: a read after a write, and the canonical form kept by every operation on it. -/

namespace Sys2Proof.Machine

/-! ## A read after a write -/

/-- Below every listed address nothing is listed. -/
theorem memRead_of_all_gt {m : Mem} {a : Nat} (h : ∀ c ∈ m, a < c.1) : memRead m a = unlistedByte := by
  induction m with
  | nil => rfl
  | cons c m ih =>
    obtain ⟨k, b⟩ := c
    have hk : a < k := h (k, b) (by simp)
    have : a ≠ k := by omega
    simp only [memRead, this, if_false]
    exact ih fun c hc => h c (by simp [hc])

/-- The canonical form, head and tail. -/
theorem Mem.wf_cons {k : Nat} {b : Byte} {m : Mem} :
    Mem.wf ((k, b) :: m) = true ↔ b ≠ unlistedByte ∧ (∀ c ∈ m, k < c.1) ∧ Mem.wf m = true := by
  simp [Mem.wf, and_assoc]

/-- Reading an address that was just written gives the value written. -/
theorem memRead_memWrite_same {m : Mem} (h : Mem.wf m = true) (a : Nat) (v : Byte) :
    memRead (memWrite m a v) a = v := by
  induction m with
  | nil =>
    by_cases hv : v = unlistedByte <;> simp [memWrite, memRead, hv]
  | cons c m ih =>
    obtain ⟨k, b⟩ := c
    obtain ⟨hb, hgt, hw⟩ := Mem.wf_cons.1 h
    by_cases h1 : a < k
    · have hne : a ≠ k := by omega
      by_cases hv : v = unlistedByte
      · simp only [memWrite, h1, hv, if_true, memRead, hne, if_false]
        exact memRead_of_all_gt fun c hc => by have := hgt c hc; omega
      · simp [memWrite, h1, hv, memRead]
    · by_cases h2 : a = k
      · subst h2
        by_cases hv : v = unlistedByte
        · simp only [memWrite, lt_irrefl, if_false, if_true, hv]
          exact memRead_of_all_gt hgt
        · simp [memWrite, hv, memRead]
      · simp [memWrite, h1, h2, memRead, ih hw]

/-- A write leaves every other address as it was. -/
theorem memRead_memWrite_other {m : Mem} (h : Mem.wf m = true) {a a' : Nat} (v : Byte) (hne : a' ≠ a) :
    memRead (memWrite m a v) a' = memRead m a' := by
  induction m with
  | nil =>
    by_cases hv : v = unlistedByte <;> simp [memWrite, memRead, hv, hne]
  | cons c m ih =>
    obtain ⟨k, b⟩ := c
    obtain ⟨hb, hgt, hw⟩ := Mem.wf_cons.1 h
    by_cases h1 : a < k
    · by_cases hv : v = unlistedByte <;> simp [memWrite, h1, hv, memRead, hne]
    · by_cases h2 : a = k
      · subst h2
        by_cases hv : v = unlistedByte
        · simp only [memWrite, lt_irrefl, if_false, if_true, hv, memRead, hne]
        · simp [memWrite, hv, memRead, hne]
      · by_cases h3 : a' = k <;> simp [memWrite, h1, h2, memRead, h3, ih hw]

/-! ## The canonical form is kept -/

/-- The addresses of a memory after a write. -/
theorem memWrite_mem {m : Mem} {a : Nat} {v : Byte} {c : Host.Cell} (h : c ∈ memWrite m a v) :
    c.1 = a ∨ c ∈ m := by
  induction m with
  | nil =>
    by_cases hv : v = unlistedByte
    · simp [memWrite, hv] at h
    · simp [memWrite, hv] at h; simp [h]
  | cons d m ih =>
    obtain ⟨k, b⟩ := d
    simp only [memWrite] at h
    split at h
    · split at h
      · exact Or.inr h
      · rcases List.mem_cons.1 h with h | h
        · exact Or.inl (by simp [h])
        · exact Or.inr h
    · split at h
      · split at h
        · exact Or.inr (List.mem_cons_of_mem _ h)
        · rcases List.mem_cons.1 h with h | h
          · rename_i hk _ _
            exact Or.inl (by simp [h, hk])
          · exact Or.inr (List.mem_cons_of_mem _ h)
      · rcases List.mem_cons.1 h with h | h
        · exact Or.inr (by simp [h])
        · rcases ih h with h | h
          · exact Or.inl h
          · exact Or.inr (List.mem_cons_of_mem _ h)

/-- One byte stored keeps the canonical form. -/
theorem memWrite_wf {m : Mem} (h : Mem.wf m = true) (a : Nat) (v : Byte) : Mem.wf (memWrite m a v) = true := by
  induction m with
  | nil =>
    by_cases hv : v = unlistedByte <;> simp [memWrite, hv, Mem.wf]
  | cons c m ih =>
    obtain ⟨k, b⟩ := c
    obtain ⟨hb, hgt, hw⟩ := Mem.wf_cons.1 h
    simp only [memWrite]
    split
    · rename_i hlt
      split
      · exact h
      · rename_i hv
        refine Mem.wf_cons.2 ⟨hv, ?_, h⟩
        intro c hc
        rcases List.mem_cons.1 hc with hc | hc
        · simp [hc, hlt]
        · exact lt_trans hlt (hgt c hc)
    · split
      · split
        · exact hw
        · rename_i hv
          exact Mem.wf_cons.2 ⟨hv, hgt, hw⟩
      · rename_i h1 h2
        refine Mem.wf_cons.2 ⟨hb, ?_, ih hw⟩
        intro c hc
        rcases memWrite_mem hc with hc | hc
        · omega
        · exact hgt c hc

/-- Bytes stored keep the canonical form. -/
theorem memWriteBytes_wf {m : Mem} (h : Mem.wf m = true) (a : Nat) (bs : List Byte) :
    Mem.wf (memWriteBytes m a bs) = true := by
  induction bs generalizing m a with
  | nil => exact h
  | cons b bs ih => exact ih (memWrite_wf h _ _) _

/-- The host's stores keep the canonical form. -/
theorem memHostWrites_wf {m : Mem} (h : Mem.wf m = true) (ws : List (Word × Byte)) :
    Mem.wf (memHostWrites m ws) = true := by
  induction ws generalizing m with
  | nil => exact h
  | cons w ws ih => exact ih (memWrite_wf h _ _)

/-- A read access keeps the canonical form. -/
theorem portRead_wf {r : PortRun} (h : Mem.wf r.mem = true) (a n : Nat) :
    Mem.wf (portRead r a n).2.mem = true := memHostWrites_wf h _

/-- A write access keeps the canonical form. -/
theorem portWrite_wf {r : PortRun} (h : Mem.wf r.mem = true) (a : Nat) (bs : List Byte) :
    Mem.wf (portWrite r a bs).2.mem = true := memWriteBytes_wf (memHostWrites_wf h _) _ _

/-- Write accesses in order keep the canonical form. -/
theorem portWriteAll_wf {r : PortRun} (h : Mem.wf r.mem = true) (ws : List (Nat × List Byte)) :
    Mem.wf (portWriteAll r ws).2.mem = true := by
  induction ws generalizing r with
  | nil => exact h
  | cons w ws ih =>
    obtain ⟨a, bs⟩ := w
    simp only [portWriteAll]
    have h1 := portWrite_wf h a bs
    generalize portWrite r a bs = q at h1 ⊢
    obtain ⟨ok, r'⟩ := q
    cases ok
    · simpa using h1
    · simpa using ih h1

/-- Writing a journal body keeps the canonical form. -/
theorem writeBody_wf {d : Device} {h : Handed} {body : List Byte} {consumed : Option Word} {r : PortRun}
    (hr : Mem.wf r.mem = true) : Mem.wf (d.writeBody h body consumed r).2.2.mem = true := by
  have h1 := portWriteAll_wf hr (journalWrites (d.journalAddress d.jw.written) body d.jw.written)
  unfold Device.writeBody
  split <;> rename_i e <;> rw [e] at h1 <;> exact h1

/-- The entry itself keeps the canonical form. -/
theorem writeOwn_wf {d : Device} {h : Handed} {consumed : Option Word} {r : PortRun} (hr : Mem.wf r.mem = true) :
    Mem.wf (d.writeOwn h consumed r).2.mem = true := by
  unfold Device.writeOwn
  split
  · have h1 := writeBody_wf (d := d) (h := h) (body := entryBody h.entry.kindCode h.stamp h.entry.details)
      (consumed := consumed) hr
    split <;> rename_i e <;> rw [e] at h1 <;> exact h1
  · exact hr

/-- A GAP and the entry after it keep the canonical form. -/
theorem writeEntry_wf {d : Device} {h : Handed} {consumed : Option Word} {r : PortRun} (hr : Mem.wf r.mem = true) :
    Mem.wf (d.writeEntry h consumed r).2.mem = true := by
  unfold Device.writeEntry
  split
  · exact writeOwn_wf hr
  · have h1 := writeBody_wf (d := d) (h := h) (body := entryBody gapKindCode h.stamp d.jw.loss.details)
      (consumed := consumed) hr
    split <;> rename_i e <;> rw [e] at h1
    · exact writeOwn_wf h1
    · exact h1

/-- The taking of a journal entry keeps the canonical form. -/
theorem takeEntry_wf {d : Device} {h : Handed} {r : PortRun} (hr : Mem.wf r.mem = true) :
    Mem.wf (d.takeEntry h r).2.mem = true := by
  unfold Device.takeEntry
  dsimp only
  split
  · unfold Device.recordEntry
    split
    · exact writeEntry_wf hr
    · have h1 := portRead_wf hr (rigAddress (d.onJournal (·.pop h)) 44) 4
      split <;> rename_i e <;> rw [e] at h1
      · exact h1
      · unfold Device.roomTest
        split
        · exact h1
        · split
          · exact h1
          · exact writeEntry_wf h1
  · exact hr

/-- The taking of some entries keeps the canonical form. -/
theorem takeEntries_wf {d : Device} {r : PortRun} (hr : Mem.wf r.mem = true) (hs : List Handed) :
    Mem.wf (d.takeEntries r hs).2.mem = true := by
  induction hs generalizing d r with
  | nil => exact hr
  | cons h hs ih => exact ih (takeEntry_wf hr)

/-- What ends an event keeps the canonical form, a drain's end with its entries too. -/
theorem State.endEvent_wf {s : State} {d : Device} {m : Mem} (h : Mem.wf m = true) (page : Device → Device) :
    Mem.wf (s.endEvent d m page).mem = true := by
  unfold State.endEvent
  dsimp only
  split
  · exact takeEntries_wf h _
  · exact h

/-- An event keeps the canonical form. -/
theorem State.event_wf {s : State} (h : Mem.wf s.mem = true) (due : Bool) (body : Device → Device) :
    Mem.wf (s.event due body).mem = true := by
  unfold State.event
  split
  · exact h
  · exact State.endEvent_wf h _

/-- An operation that a reset cut short keeps the canonical form when the operation does. -/
theorem cutOperation_wf {op : PortRun → PortRun} (hop : ∀ r, Mem.wf r.mem = true → Mem.wf (op r).mem = true) {m : Mem}
    (h : Mem.wf m = true) (made : Sys2Proof.Bus) : Mem.wf (cutOperation op made m) = true := hop _ h

/-- Writes that a reset cut short keep the canonical form. -/
theorem cutWrites_wf {m : Mem} (h : Mem.wf m = true) (ws : List (Nat × List Byte)) (made : Sys2Proof.Bus) :
    Mem.wf (cutWrites ws made m) = true := cutOperation_wf (fun r hr => portWriteAll_wf (r := r) hr ws) h made

/-- A fold of operations that keep the canonical form keeps it. -/
theorem Mem.wf_foldl {α : Type} {f : Mem → α → Mem} (hf : ∀ m a, Mem.wf m = true → Mem.wf (f m a) = true) (as : List α)
    {m : Mem} (h : Mem.wf m = true) : Mem.wf (as.foldl f m) = true := by
  induction as generalizing m with
  | nil => exact h
  | cons a as ih => exact ih (hf m a h)

/-- A device reset keeps the canonical form (R193). -/
theorem cutShort_wf {m : Mem} (h : Mem.wf m = true) (d : Device) (cut : Sys2Proof.ResetCut) :
    Mem.wf (cutShort d cut m) = true := by
  have page : Mem.wf (cutPage d cut.page m) = true := by
    unfold cutPage; split
    · exact h
    · exact cutWrites_wf h _ _
  have slots := Mem.wf_foldl (f := cutSlot d) (fun m c h => by
    unfold cutSlot; split
    · exact h
    · exact cutWrites_wf h _ _) cut.slots page
  have retries := Mem.wf_foldl (f := cutRetry d) (fun m c h => by
    unfold cutRetry; split
    · exact h
    · exact cutWrites_wf h _ _) cut.retries slots
  unfold cutShort cutJournal
  split
  · exact retries
  · exact cutOperation_wf (fun r hr => takeEntry_wf (r := r) hr) retries _

/-! ## Bytes stored and read -/

/-- An address that bytes are not stored to reads as before. -/
theorem memRead_memWriteBytes_other {m : Mem} (h : Mem.wf m = true) {a x : Nat} (bs : List Byte)
    (hx : ∀ j, j < bs.length → x ≠ busAddress (a + j)) : memRead (memWriteBytes m a bs) x = memRead m x := by
  induction bs generalizing m a with
  | nil => rfl
  | cons b bs ih =>
    simp only [memWriteBytes]
    rw [ih (memWrite_wf h _ _) (fun j hj => by
      have := hx (j + 1) (by simp; omega)
      rwa [Nat.add_assoc, Nat.add_comm 1 j])]
    exact memRead_memWrite_other h _ (by simpa using hx 0 (by simp))

/-! ## A journal entry cut short (R167) -/

/-- A number of `k` bytes takes `k` bytes. -/
theorem bytesOf_length (k n : Nat) : (bytesOf k n).length = k := by
  induction k generalizing n with
  | zero => rfl
  | succ k ih => simp [bytesOf, ih]

/-- A body takes the 28 bytes of a slot behind its sequence (R155). -/
theorem entryBody_length (kind : Nat) (s : Stamp) (details : Word × Word × Word) :
    (entryBody kind s details).length = 28 := by
  simp [entryBody, bytesOf_length]

/-- With no GAP due, an entry makes its two accesses when it has room, and none otherwise (R159). -/
theorem writeEntry_bus (d : Device) (h : Handed) (c : Option Word) (hl : d.jw.loss.count = 0) {b1 b2 : BusAccess} (bus : Bus)
    (m : Mem) (f1 : b1.fails = false) (f2 : b2.fails = false) :
    (d.writeEntry h c { mem := m, bus := b1 :: b2 :: bus }).2.bus = if d.hasRoom c then bus else b1 :: b2 :: bus := by
  simp only [Device.writeEntry, hl, if_true, Device.writeOwn]
  split
  · simp [Device.writeBody, journalWrites, portWriteAll, portWrite, busHead, *]
  · rfl

/-- With no GAP due, an entry struck at its body or at its sequence leaves the sequence field as it was (R155, R167). -/
theorem writeEntry_struck (d : Device) (h : Handed) (c : Option Word) (hl : d.jw.loss.count = 0) {made : Bus} {m : Mem}
    (hm : Mem.wf m = true) (hq : ∀ b ∈ made, b.hostWrites = []) (hn : d.hasRoom c = true → made.length ≤ 1) {k : Nat}
    (hk : k < 4) :
    memRead (d.writeEntry h c (struckRun made m)).2.mem (busAddress (d.journalAddress d.jw.written + k)) =
      memRead m (busAddress (d.journalAddress d.jw.written + k)) := by
  simp only [Device.writeEntry, hl, if_true, Device.writeOwn]
  split
  · rcases made with _ | ⟨b, _ | ⟨b2, made⟩⟩
    · simp [Device.writeBody, journalWrites, portWriteAll, portWrite, busHead, struckRun, struckBus, memHostWrites,
        memWriteBytes]
    · simp [Device.writeBody, journalWrites, portWriteAll, portWrite, busHead, struckRun, struckBus, memHostWrites,
        memWriteBytes, hq b (by simp)]
      exact memRead_memWriteBytes_other hm _ fun j hj => by
        rw [entryBody_length] at hj; unfold busAddress; omega
    · rename_i hr; simpa using hn hr
  · rfl

/-- The accesses given, and those after them, on a bus on which none fails and the host stores nothing. -/
theorem acceptedBus {made : Bus} (hq : ∀ b ∈ made, b.hostWrites = []) :
    ∃ b1 b2 b3 bus, made.map (fun b => { b with fails := false }) ++ List.replicate 5 quietAccess = b1 :: b2 :: b3 :: bus
      ∧ b1.fails = false ∧ b2.fails = false ∧ b3.fails = false ∧ b1.hostWrites = [] := by
  rcases made with _ | ⟨b1, _ | ⟨b2, _ | ⟨b3, made⟩⟩⟩
  · exact ⟨_, _, _, _, rfl, rfl, rfl, rfl, rfl⟩
  all_goals exact ⟨_, _, _, _, rfl, rfl, rfl, rfl, hq b1 (by simp)⟩

/-- The taking of an entry cut short, with no GAP due and no store of the host meanwhile: the sequence field of its slot
was not written, whatever accesses the operand gives (R167). -/
theorem cutJournal_sequence (d : Device) {h : Handed} {rest : List Handed} {made : Bus} {m : Mem} (hm : Mem.wf m = true)
    (hd : d.jw.queue = h :: rest) (hl : d.jw.loss.count = 0) (hq : ∀ b ∈ made, b.hostWrites = []) {k : Nat} (hk : k < 4) :
    memRead (cutJournal d made m) (busAddress (d.journalAddress d.jw.written + k)) =
      memRead m (busAddress (d.journalAddress d.jw.written + k)) := by
  have hq' (n : Nat) : ∀ b ∈ made.take n, b.hostWrites = [] := fun b hb => hq b (List.mem_of_mem_take hb)
  obtain ⟨b1, b2, b3, bus, hw, f1, f2, f3, q1⟩ := acceptedBus hq
  simp only [cutJournal, hd, cutOperation, accessCount, hw, Device.takeEntry]
  generalize hD : d.onJournal (·.pop h) = D
  have hlD : D.jw.loss.count = 0 := by subst hD; exact hl
  have ha : d.journalAddress d.jw.written = D.journalAddress D.jw.written := by subst hD; rfl
  rw [ha]
  split
  · unfold Device.recordEntry
    split
    · rw [writeEntry_bus D h none hlD _ m f1 f2]
      exact writeEntry_struck D h none hlD hm (hq' _) (fun hr => by simp [hr]) hk
    · have hr : portRead { mem := m, bus := b1 :: b2 :: b3 :: bus } (rigAddress D 44) 4 =
          (some (memReadBytes m (rigAddress D 44) 4), { mem := m, bus := b2 :: b3 :: bus }) := by
        simp [portRead, busHead, f1, q1, memHostWrites]
      rw [hr]
      dsimp only
      generalize hc : BitVec.ofNat 32 (natOf (memReadBytes m (rigAddress D 44) 4)) = c
      rcases made with _ | ⟨b, made⟩
      · simp [struckRun, struckBus, portRead, busHead, memHostWrites]
      · generalize hn : (b1 :: b2 :: b3 :: bus).length - (D.roomTest h c { mem := m, bus := b2 :: b3 :: bus }).2.bus.length - 1 = n
        rcases n with _ | n
        · simp [struckRun, struckBus, portRead, busHead, memHostWrites]
        · have hs : portRead (struckRun (List.take (n + 1) (b :: made)) m) (rigAddress D 44) 4 =
              (some (memReadBytes m (rigAddress D 44) 4), struckRun (made.take n) m) := by
            simp [portRead, struckRun, struckBus, busHead, memHostWrites, hq b (by simp)]
          rw [hs]
          simp only [hc]
          unfold Device.roomTest at hn ⊢
          split
          · rfl
          · split
            · rfl
            · rename_i h1 h2
              refine writeEntry_struck D h (some c) hlD hm
                (fun x hx => hq x (List.mem_cons_of_mem _ (List.mem_of_mem_take hx))) (fun hr => ?_) hk
              rw [if_neg h1, if_neg h2, writeEntry_bus D h (some c) hlD _ m f2 f3, if_pos hr] at hn
              simp only [List.length_cons, List.length_take] at hn ⊢
              omega
  · rfl

end Sys2Proof.Machine
end

