-- ==== Sys2Proof/Laws/PerInstr.lean ====
section
/-! SUPPORT. What holds of every command as syntax, one lemma for each constructor (R202). -/

namespace Sys2Proof.Laws.RegisterWrites

open Sys2Proof

/-- The write on the register bus that a command is, if it is one (R185, R202). -/
def written : Instr → Option RegWrite
  | .keyByteArrival _ _ _ => none
  | .keyDown _ => none
  | .keyUp _ => none
  | .damperArrival _ => none
  | .controlArrival _ => none
  | .programArrival _ => none
  | .mainFrameCompletion _ => none
  | .laneFrameCompletion _ => none
  | .owedReleaseRetry _ => none
  | .backlogMove _ => none
  | .deferralReleaseEnding _ _ => none
  | .deferDeadline _ _ => none
  | .tick => none
  | .clickWidthExpiry _ => none
  | .attnPulseEnd => none
  | .pedalInputChange _ _ => none
  | .debounceExpiry _ => none
  | .tapLapse => none
  | .syncEdge => none
  | .syncLost => none
  | .setListReadCompletion _ => none
  | .sceneReadCompletion _ => none
  | .sceneReadRetry => none
  | .notice w => some w
  | .scanBegin => none
  | .slotVisit _ => none
  | .cueScene => none
  | .cuePosition => none
  | .go => none
  | .hold => none
  | .resume => none
  | .cancel => none
  | .unlockZones => none
  | .start => none
  | .stop => none
  | .locate => none
  | .setTempo => none
  | .applySync => none
  | .releaseAll => none
  | .reload _ => none
  | .unknownRequest => none
  | .slotCompletion _ _ => none
  | .completionRetry _ _ => none
  | .statePageRewrite _ => none
  | .statePageRetry => none
  | .journalWriteCompletion _ => none
  | .controlEnableSet w => some w
  | .controlEnableClear w => some w
  | .attentionMode w => some w
  | .causeEnable w => some w
  | .controlReset w _ => some w
  | .area w => some w
  | .ack w => some w
  | .ignoredRegisterWrite _ w => some w
  | .headerReadCompletion _ => none
  | .drainEnd => none
  | .drainLimit => none
  | .powerOn _ => none
  | .resetPinAssert _ => none
  | .resetPinRelease => none

/-- A well-formed command that is a register write writes at least one byte (R202). -/
def Statement (i : Instr) : Prop := i.wellFormed = true → ∀ w, written i = some w → w.lanes ≠ 0

/-- A command that is no register write has none. -/
theorem ofNone {w : RegWrite} {P : Prop} (e : (none : Option RegWrite) = some w) : P := nomatch e

/-- The lanes of the one write that a command is. -/
theorem ofLanes {v w : RegWrite} (h : lanesWritten v = true) (e : some v = some w) : w.lanes ≠ 0 :=
  Option.some.inj e ▸ (bne_iff_ne.1 h)

theorem keyByteArrival (port : Fin 4) (byte : Byte) (stopBit : Bool) : Statement (.keyByteArrival port byte stopBit) :=
  fun _ _ e => ofNone e

theorem keyDown (port : Fin 4) : Statement (.keyDown port) :=
  fun _ _ e => ofNone e

theorem keyUp (port : Fin 4) : Statement (.keyUp port) :=
  fun _ _ e => ofNone e

theorem damperArrival (port : Fin 4) : Statement (.damperArrival port) :=
  fun _ _ e => ofNone e

theorem controlArrival (port : Fin 4) : Statement (.controlArrival port) :=
  fun _ _ e => ofNone e

theorem programArrival (port : Fin 4) : Statement (.programArrival port) :=
  fun _ _ e => ofNone e

theorem mainFrameCompletion (port : Fin 6) : Statement (.mainFrameCompletion port) :=
  fun _ _ e => ofNone e

theorem laneFrameCompletion (port : Fin 6) : Statement (.laneFrameCompletion port) :=
  fun _ _ e => ofNone e

theorem owedReleaseRetry (port : Fin 6) : Statement (.owedReleaseRetry port) :=
  fun _ _ e => ofNone e

theorem backlogMove (port : Fin 6) : Statement (.backlogMove port) :=
  fun _ _ e => ofNone e

theorem deferralReleaseEnding (port : Fin 6) (channel : BitVec 4) : Statement (.deferralReleaseEnding port channel) :=
  fun _ _ e => ofNone e

theorem deferDeadline (port : Fin 6) (channel : BitVec 4) : Statement (.deferDeadline port channel) :=
  fun _ _ e => ofNone e

theorem tick : Statement (.tick) :=
  fun _ _ e => ofNone e

theorem clickWidthExpiry (line : Fin 4) : Statement (.clickWidthExpiry line) :=
  fun _ _ e => ofNone e

theorem attnPulseEnd : Statement (.attnPulseEnd) :=
  fun _ _ e => ofNone e

theorem pedalInputChange (pedal : Fin 8) (high : Bool) : Statement (.pedalInputChange pedal high) :=
  fun _ _ e => ofNone e

theorem debounceExpiry (pedal : Fin 8) : Statement (.debounceExpiry pedal) :=
  fun _ _ e => ofNone e

theorem tapLapse : Statement (.tapLapse) :=
  fun _ _ e => ofNone e

theorem syncEdge : Statement (.syncEdge) :=
  fun _ _ e => ofNone e

theorem syncLost : Statement (.syncLost) :=
  fun _ _ e => ofNone e

theorem setListReadCompletion (bus : Bus) : Statement (.setListReadCompletion bus) :=
  fun _ _ e => ofNone e

theorem sceneReadCompletion (bus : Bus) : Statement (.sceneReadCompletion bus) :=
  fun _ _ e => ofNone e

theorem sceneReadRetry : Statement (.sceneReadRetry) :=
  fun _ _ e => ofNone e

theorem notice (w : RegWrite) : Statement (.notice w) :=
  fun h _ e => ofLanes h e

theorem scanBegin : Statement (.scanBegin) :=
  fun _ _ e => ofNone e

theorem slotVisit (bus : Bus) : Statement (.slotVisit bus) :=
  fun _ _ e => ofNone e

theorem cueScene : Statement (.cueScene) :=
  fun _ _ e => ofNone e

theorem cuePosition : Statement (.cuePosition) :=
  fun _ _ e => ofNone e

theorem go : Statement (.go) :=
  fun _ _ e => ofNone e

theorem hold : Statement (.hold) :=
  fun _ _ e => ofNone e

theorem resume : Statement (.resume) :=
  fun _ _ e => ofNone e

theorem cancel : Statement (.cancel) :=
  fun _ _ e => ofNone e

theorem unlockZones : Statement (.unlockZones) :=
  fun _ _ e => ofNone e

theorem start : Statement (.start) :=
  fun _ _ e => ofNone e

theorem stop : Statement (.stop) :=
  fun _ _ e => ofNone e

theorem locate : Statement (.locate) :=
  fun _ _ e => ofNone e

theorem setTempo : Statement (.setTempo) :=
  fun _ _ e => ofNone e

theorem applySync : Statement (.applySync) :=
  fun _ _ e => ofNone e

theorem releaseAll : Statement (.releaseAll) :=
  fun _ _ e => ofNone e

theorem reload (bus : Bus) : Statement (.reload bus) :=
  fun _ _ e => ofNone e

theorem unknownRequest : Statement (.unknownRequest) :=
  fun _ _ e => ofNone e

theorem slotCompletion (slot : Fin 8) (bus : Bus) : Statement (.slotCompletion slot bus) :=
  fun _ _ e => ofNone e

theorem completionRetry (slot : Fin 8) (bus : Bus) : Statement (.completionRetry slot bus) :=
  fun _ _ e => ofNone e

theorem statePageRewrite (bus : Bus) : Statement (.statePageRewrite bus) :=
  fun _ _ e => ofNone e

theorem statePageRetry : Statement (.statePageRetry) :=
  fun _ _ e => ofNone e

theorem journalWriteCompletion (bus : Bus) : Statement (.journalWriteCompletion bus) :=
  fun _ _ e => ofNone e

theorem controlEnableSet (w : RegWrite) : Statement (.controlEnableSet w) :=
  fun h _ e => ofLanes (Bool.and_eq_true_iff.1 (Bool.and_eq_true_iff.1 h).1).1 e

theorem controlEnableClear (w : RegWrite) : Statement (.controlEnableClear w) :=
  fun h _ e => ofLanes (Bool.and_eq_true_iff.1 (Bool.and_eq_true_iff.1 h).1).1 e

theorem attentionMode (w : RegWrite) : Statement (.attentionMode w) :=
  fun h _ e => ofLanes (Bool.and_eq_true_iff.1 h).1 e

theorem causeEnable (w : RegWrite) : Statement (.causeEnable w) :=
  fun h _ e => ofLanes (Bool.and_eq_true_iff.1 h).1 e

theorem controlReset (w : RegWrite) (cut : ResetCut) : Statement (.controlReset w cut) :=
  fun h _ e => ofLanes (Bool.and_eq_true_iff.1 (Bool.and_eq_true_iff.1 h).1).1 e

theorem area (w : RegWrite) : Statement (.area w) :=
  fun h _ e => ofLanes h e

theorem ack (w : RegWrite) : Statement (.ack w) :=
  fun h _ e => ofLanes h e

theorem ignoredRegisterWrite (addr : Word) (w : RegWrite) : Statement (.ignoredRegisterWrite addr w) :=
  fun h _ e => ofLanes (Bool.and_eq_true_iff.1 h).1 e

theorem headerReadCompletion (bus : Bus) : Statement (.headerReadCompletion bus) :=
  fun _ _ e => ofNone e

theorem drainEnd : Statement (.drainEnd) :=
  fun _ _ e => ofNone e

theorem drainLimit : Statement (.drainLimit) :=
  fun _ _ e => ofNone e

theorem powerOn (cut : ResetCut) : Statement (.powerOn cut) :=
  fun _ _ e => ofNone e

theorem resetPinAssert (cut : ResetCut) : Statement (.resetPinAssert cut) :=
  fun _ _ e => ofNone e

theorem resetPinRelease : Statement (.resetPinRelease) :=
  fun _ _ e => ofNone e

end Sys2Proof.Laws.RegisterWrites
end

