-- ==== Sys2Proof/Laws/Stage.lean ====
section
/-! SUPPORT. What the stage's shared operations can do (R27 to R32, R47 to R50, R107 to R112, R134 to R137): one lemma for
each offer, and one relation that every release, cut and ending of a deferral keeps. -/

namespace Sys2Proof.Machine

open Sys2Proof

/-! ## Vectors -/

/-- A changed vector at any index. -/
theorem getElem_vecModify {α : Type} {n : Nat} (v : Vector α n) (k j : Fin n) (f : α → α) :
    (vecModify v k f)[j] = if k = j then f v[j] else v[j] := by
  unfold vecModify
  by_cases h : k = j
  · subst h; simp
  · have h' : (k : Nat) ≠ j := fun e => h (Fin.ext e)
    simp [h, h']

/-! ## Lists of a module port -/

/-- Admission to the main queue appends to it and touches neither other list. -/
@[simp] theorem ModulePort.admitMain_lists (mp : ModulePort) (now : Word) (m : Message) :
    (mp.admitMain now m).main = mp.main ++ [m] ∧ (mp.admitMain now m).backlog = mp.backlog
      ∧ (mp.admitMain now m).lane = mp.lane := ⟨rfl, rfl, rfl⟩

/-- Admission to the lane appends to it and touches neither other list. -/
@[simp] theorem ModulePort.admitLane_lists (mp : ModulePort) (now : Word) (m : Message) :
    (mp.admitLane now m).main = mp.main ∧ (mp.admitLane now m).backlog = mp.backlog
      ∧ (mp.admitLane now m).lane = mp.lane ++ [m] := ⟨rfl, rfl, rfl⟩

/-- The bounds of R46 as three inequalities. -/
theorem ModulePort.within_iff (mp : ModulePort) :
    mp.within = true ↔ mp.main.length ≤ 32 ∧ mp.backlog.length ≤ 16 ∧ mp.lane.length ≤ 8 := by
  unfold ModulePort.within
  rw [Bool.and_eq_true, Bool.and_eq_true, decide_eq_true_eq, decide_eq_true_eq, decide_eq_true_eq]
  exact and_assoc

/-! ## The relation that releases keep -/

/-- What a release, a cut, an offer or the ending of a deferral may do: the clock and the dampers stay, main queues only
grow, the bounds of R46 are kept, every entry left stands where it stood with the state it had, and no deferral is new. -/
structure Stage.Releases (st st' : Stage) : Prop where
  clock : st'.clock = st.clock
  dampers : st'.dampers = st.dampers
  main : ∀ p : Fin 6, ∃ ms, st'.ports[p].main = st.ports[p].main ++ ms
  within : (∀ p : Fin 6, st.ports[p].within = true) → ∀ p : Fin 6, st'.ports[p].within = true
  voices : ∀ (k : Fin 128) (v' : Voice), st'.voices[k] = some v' →
    ∃ v, st.voices[k] = some v ∧ v'.source = v.source ∧ v'.velIn = v.velIn ∧ v'.state = v.state
  deferrals : ∀ df ∈ st'.deferrals, df ∈ st.deferrals


/-- Nothing done is within the relation. -/
theorem Stage.Releases.refl (st : Stage) : st.Releases st :=
  ⟨rfl, rfl, fun _ => ⟨[], by simp⟩, id, fun _ v h => ⟨v, h, rfl, rfl, rfl⟩, fun _ h => h⟩

/-- The relation composes. -/
theorem Stage.Releases.trans {a b c : Stage} (h : a.Releases b) (h' : b.Releases c) : a.Releases c where
  clock := h'.clock.trans h.clock
  dampers := h'.dampers.trans h.dampers
  main p := by
    obtain ⟨ms, e⟩ := h.main p
    obtain ⟨ms', e'⟩ := h'.main p
    exact ⟨ms ++ ms', by rw [e', e, List.append_assoc]⟩
  within hw := h'.within (h.within hw)
  voices k v'' hv := by
    obtain ⟨v', hv', a1, a2, a3⟩ := h'.voices k v'' hv
    obtain ⟨v, hv0, b1, b2, b3⟩ := h.voices k v' hv'
    exact ⟨v, hv0, a1.trans b1, a2.trans b2, a3.trans b3⟩
  deferrals df hd := h.deferrals df (h'.deferrals df hd)

/-- A fold of operations that keep the relation keeps it. -/
theorem Stage.Releases.foldl {α : Type} (f : Stage → α → Stage) (hf : ∀ (st : Stage) (a : α), st.Releases (f st a)) (as : List α) (st : Stage) :
    st.Releases (as.foldl f st) := by
  induction as generalizing st with
  | nil => exact .refl st
  | cons a as ih => exact (hf st a).trans (ih _)

/-- A change of one port that grows its main queue and keeps its bounds. -/
theorem Stage.Releases.ofPort (st : Stage) (p : Fin 6) (f : ModulePort → ModulePort)
    (hm : ∃ ms, (f st.ports[p]).main = st.ports[p].main ++ ms)
    (hw : st.ports[p].within = true → (f st.ports[p]).within = true) : st.Releases (st.modifyPort p f) where
  clock := rfl
  dampers := rfl
  main q := by
    simp only [modifyPort, getElem_vecModify]
    split
    · rename_i e; subst e; exact hm
    · exact ⟨[], by simp⟩
  within h q := by
    simp only [modifyPort, getElem_vecModify]
    split
    · rename_i e; subst e; exact hw (h p)
    · exact h q
  voices _ v h := ⟨v, h, rfl, rfl, rfl⟩
  deferrals _ h := h

/-- Emitting an entry changes nothing that the relation speaks of. -/
theorem Stage.Releases.ofEmit (st : Stage) (e : Entry) : st.Releases (st.emit e) :=
  ⟨rfl, rfl, fun _ => ⟨[], by simp [emit]⟩, id, fun _ v h => ⟨v, h, rfl, rfl, rfl⟩, fun _ h => h⟩

/-! ## Offers -/

/-- An offered release (R47). -/
theorem Stage.offerRelease_releases (st : Stage) (p : Fin 6) (m : Message) : st.Releases (st.offerRelease p m) := by
  unfold offerRelease
  split
  · rename_i h
    refine .ofPort st p _ ⟨[m], rfl⟩ fun hw => ?_
    have h : st.ports[p].main.length < 32 := of_decide_eq_true h
    rw [ModulePort.within_iff] at hw ⊢
    simp only [ModulePort.admitMain, List.length_append, List.length_singleton]
    omega
  · exact .refl st

/-- An offered non-release message (R48). -/
theorem Stage.offerNonRelease_releases (st : Stage) (p : Fin 6) (m : Message) : st.Releases (st.offerNonRelease p m) := by
  unfold offerNonRelease
  split
  · rename_i h
    refine .ofPort st p _ ⟨[m], rfl⟩ fun hw => ?_
    have h : st.ports[p].main.length + st.ports[p].backlog.length < 24 := of_decide_eq_true h
    rw [ModulePort.within_iff] at hw ⊢
    simp only [ModulePort.admitMain, List.length_append, List.length_singleton]
    omega
  · exact .ofEmit st _

/-- An offered entry message (R49). -/
theorem Stage.offerEntry_releases (st : Stage) (p : Fin 6) (m : Message) : st.Releases (st.offerEntry p m) := by
  unfold offerEntry
  split
  · rename_i h
    refine .ofPort st p _ ⟨[m], rfl⟩ fun hw => ?_
    have h : st.ports[p].main.length < 32 := h
    rw [ModulePort.within_iff] at hw ⊢
    simp only [ModulePort.admitMain, List.length_append, List.length_singleton]
    omega
  · split
    · rename_i h
      refine .ofPort st p _ ⟨[], by simp⟩ fun hw => ?_
      have h : st.ports[p].backlog.length < 16 := h
      rw [ModulePort.within_iff] at hw ⊢
      simp only [List.length_append, List.length_singleton]
      omega
    · exact .ofEmit st _

/-- An offered click message (R50). -/
theorem Stage.offerClick_releases (st : Stage) (p : Fin 6) (line : Fin 4) (m : Message) :
    st.Releases (st.offerClick p line m) := by
  unfold offerClick
  split
  · rename_i h
    refine .ofPort st p _ ⟨[], by simp⟩ fun hw => ?_
    have h : st.ports[p].lane.length < 8 := of_decide_eq_true h
    rw [ModulePort.within_iff] at hw ⊢
    simp only [ModulePort.admitLane, List.length_append, List.length_singleton]
    omega
  · exact .ofEmit st _

/-- Entry messages offered in order. -/
theorem Stage.offerEntries_releases (st : Stage) (p : Fin 6) (ms : List Message) : st.Releases (st.offerEntries p ms) :=
  .foldl _ (fun st m => st.offerEntry_releases p m) ms st

/-- An offer of entry messages changes ports and entries alone. -/
theorem Stage.offerEntries_frame (st : Stage) (p : Fin 6) (ms : List Message) :
    st.offerEntries p ms =
      { st with ports := (st.offerEntries p ms).ports, entries := (st.offerEntries p ms).entries } := by
  induction ms generalizing st with
  | nil => rfl
  | cons m ms ih =>
    have h : st.offerEntry p m =
        { st with ports := (st.offerEntry p m).ports, entries := (st.offerEntry p m).entries } := by
      unfold offerEntry; split
      · rfl
      · split <;> rfl
    have h' := ih (st.offerEntry p m)
    simp only [offerEntries, List.foldl_cons] at h' ⊢
    rw [h', h]

/-! ## Deferrals -/

/-- The ending of a deferral (R135). -/
theorem Stage.endDeferral_releases (st : Stage) (df : Deferral) : st.Releases (st.endDeferral df) := by
  unfold endDeferral
  refine Releases.trans ?_ (offerEntries_releases _ _ _)
  exact ⟨rfl, rfl, fun _ => ⟨[], by simp⟩, id, fun _ v h => ⟨v, h, rfl, rfl, rfl⟩, fun _ h => List.mem_of_mem_erase h⟩

/-- The check that a release makes (R135). -/
theorem Stage.deferralCheck_releases (st : Stage) (d : Dest) : st.Releases (st.deferralCheck d) := by
  unfold deferralCheck
  split
  · exact .refl st
  · split
    · exact .refl st
    · exact st.endDeferral_releases _

/-! ## Releases of records -/

/-- Writing one place of the table with what stood there, but for its records, or with nothing. -/
theorem Stage.setVoice_releases (st : Stage) (k : Fin 128) (o : Option Voice)
    (h : ∀ v', o = some v' →
      ∃ v, st.voices[k] = some v ∧ v'.source = v.source ∧ v'.velIn = v.velIn ∧ v'.state = v.state) :
    st.Releases (st.setVoice k o) where
  clock := rfl
  dampers := rfl
  main _ := ⟨[], by simp [setVoice]⟩
  within h := h
  voices j v' hv := by
    simp only [setVoice, Fin.getElem_fin, Vector.getElem_set] at hv
    split at hv
    · rename_i e
      have e' : k = j := Fin.ext e
      subst e'; exact h v' hv
    · exact ⟨v', hv, rfl, rfl, rfl⟩
  deferrals _ h := h

/-- A release flag written. -/
theorem Stage.setFlag_releases (st : Stage) (k : Fin 128) (j : Nat) (f : ReleaseFlag) : st.Releases (st.setFlag k j f) := by
  refine setVoice_releases st k _ fun v' hv => ?_
  obtain ⟨v, e, rfl⟩ := Option.map_eq_some_iff.1 hv
  exact ⟨v, e, rfl, rfl, rfl⟩

/-- The removal of a finished entry (R28, R32). -/
theorem Stage.removeIfDone_releases (st : Stage) (k : Fin 128) : st.Releases (st.removeIfDone k) := by
  unfold removeIfDone
  split
  · exact .refl st
  · split
    · exact (setVoice_releases st k none (by simp)).trans (.foldl _ (fun st d => st.deferralCheck_releases d) _ _)
    · exact .refl st

/-- A record that becomes DONE (R32). -/
theorem Stage.recordDone_releases (st : Stage) (k : Fin 128) (j : Nat) (d : Dest) : st.Releases (st.recordDone k j d) :=
  ((st.setFlag_releases k j .done).trans (deferralCheck_releases _ d)).trans (removeIfDone_releases _ k)

/-- The release of one record (R29). -/
theorem Stage.releaseRecord_releases (st : Stage) (k : Fin 128) (j : Nat) : st.Releases (st.releaseRecord k j) := by
  unfold releaseRecord
  split
  · exact .refl st
  · split
    · exact .refl st
    · split
      · exact st.recordDone_releases k j _
      · split
        · exact (st.offerRelease_releases _ _).trans (recordDone_releases _ k j _)
        · exact st.setFlag_releases k j .owed

/-- The release of records in order. -/
theorem Stage.releaseRecords_releases (st : Stage) (ps : List (Fin 128 × Nat)) : st.Releases (st.releaseRecords ps) :=
  .foldl (fun (st : Stage) (kj : Fin 128 × Nat) => st.releaseRecord kj.1 kj.2) (fun st kj => st.releaseRecord_releases kj.1 kj.2) ps st

/-- The walk over owed releases (R30). -/
theorem Stage.owedWalk_releases (p : Fin 6) (ps : List (Fin 128 × Nat)) (st : Stage) : st.Releases (owedWalk p ps st) := by
  induction ps generalizing st with
  | nil => exact .refl st
  | cons kj ps ih =>
    obtain ⟨k, j⟩ := kj
    unfold owedWalk
    split
    · exact ih st
    · split
      · exact ((st.offerRelease_releases _ _).trans (recordDone_releases _ k j _)).trans (ih _)
      · exact .refl st

/-- The owed releases of a port (R30). -/
theorem Stage.retryOwed_releases (st : Stage) (p : Fin 6) : st.Releases (st.retryOwed p) := owedWalk_releases p _ st

/-- A cut (R31). -/
theorem Stage.cut_releases (st : Stage) (d : Dest) : st.Releases (st.cut d) := st.releaseRecords_releases _

/-- The ending of a deferral by a cut (R136, R137). -/
theorem Stage.endDeferralByCut_releases (st : Stage) (df : Deferral) : st.Releases (st.endDeferralByCut df) := by
  unfold endDeferralByCut
  refine Releases.trans ?_ (offerEntries_releases _ _ _)
  refine Releases.trans ?_ (cut_releases _ _)
  exact ⟨rfl, rfl, fun _ => ⟨[], by simp⟩, id, fun _ v h => ⟨v, h, rfl, rfl, rfl⟩, fun _ h => List.mem_of_mem_erase h⟩

/-- The deadline and new-note endings (R136, R137). -/
theorem Stage.endDestByCut_releases (st : Stage) (d : Dest) : st.Releases (st.endDestByCut d) := by
  unfold endDestByCut
  split
  · exact .refl st
  · exact st.endDeferralByCut_releases _

/-- The third step of RELEASE_ALL: every deferral that stood aside ends (R137). -/
theorem Stage.endDeferralsByCut_releases (st : Stage) (dfs : List Deferral) :
    st.Releases (dfs.foldl Stage.endDeferralByCut st) :=
  .foldl _ (fun st df => st.endDeferralByCut_releases df) dfs st


/-- Releases of entries make no deferral. -/
theorem Stage.releaseVoices_deferrals (ks : List (Fin 128)) (st : Stage) :
    ∀ df ∈ (st.releaseVoices ks).deferrals, df ∈ st.deferrals := by
  induction ks generalizing st with
  | nil => exact fun _ h => h
  | cons k ks ih =>
    intro df h
    have h' := ih (st.releaseVoice k) df h
    unfold releaseVoice at h'
    exact (releaseRecords_releases (st.modifyVoice k _) _).deferrals df h'

/-- The releases of RELEASE_ALL leave the list aside (R137). -/
@[simp] theorem Stage.releaseHeld_deferrals (st : Stage) : st.releaseHeld.deferrals = [] :=
  List.eq_nil_iff_forall_not_mem.2 fun df h => by
    simpa using releaseVoices_deferrals _ { st with dampers := _, deferrals := [] } df h

/-! ## Click notes (R107 to R112) -/

/-- An operation over the click lines whose every part changes ports and entries alone does so as a whole. -/
theorem Device.onLines_frame (d : Device) (f : Fin 4 → ClickLine → Stage → ClickLine × Stage)
    (hf : ∀ n l st, (f n l st).2 = { st with ports := (f n l st).2.ports, entries := (f n l st).2.entries }) :
    d.onLines f =
      { d with
        click := (d.onLines f).click
        stage := { d.stage with ports := (d.onLines f).stage.ports, entries := (d.onLines f).stage.entries } } := by
  unfold Device.onLines
  generalize List.finRange 4 = ns
  induction ns generalizing d with
  | nil => rfl
  | cons n ns ih =>
    rw [List.foldl_cons, ih (d.onLine n (f n))]
    simp only [Device.onLine]
    rw [hf n d.click.lines[n] d.stage]

/-- A click message changes ports and entries alone. -/
theorem Stage.offerClick_frame (st : Stage) (p : Fin 6) (n : Fin 4) (m : Message) :
    st.offerClick p n m =
      { st with ports := (st.offerClick p n m).ports, entries := (st.offerClick p n m).entries } := by
  unfold Stage.offerClick; split <;> rfl

/-- Ending a click note changes ports and entries alone. -/
theorem endNote_frame (n : Fin 4) (l : ClickLine) (st : Stage) :
    (endNote n l st).2 = { st with ports := (endNote n l st).2.ports, entries := (endNote n l st).2.entries } := by
  unfold endNote; split
  · rfl
  · exact st.offerClick_frame _ _ _

/-- Ending the pulse of an ACTIVE line changes ports and entries alone. -/
theorem endActive_frame (n : Fin 4) (l : ClickLine) (st : Stage) :
    (endActive n l st).2 = { st with ports := (endActive n l st).2.ports, entries := (endActive n l st).2.entries } := by
  unfold endActive; split
  · exact endNote_frame n _ st
  · rfl

/-- A click that sounds changes ports and entries alone. -/
theorem soundClick_frame (n : Fin 4) (a : Bool) (l : ClickLine) (st : Stage) :
    (soundClick n a l st).2 =
      { st with ports := (soundClick n a l st).2.ports, entries := (soundClick n a l st).2.entries } := by
  unfold soundClick beginNote
  dsimp only
  split
  · exact endNote_frame n l st
  · rw [Stage.offerClick_frame (endNote n l st).2, endNote_frame n l st]

/-- A click line's tick changes ports and entries alone. -/
theorem takeClickTick_frame (mute : Bool) (tr : Transport) (beat tick : Nat) (n : Fin 4) (l : ClickLine) (st : Stage) :
    (takeClickTick mute tr beat tick n l st).2 =
      { st with
        ports := (takeClickTick mute tr beat tick n l st).2.ports
        entries := (takeClickTick mute tr beat tick n l st).2.entries } := by
  unfold takeClickTick
  dsimp only
  split
  · exact soundClick_frame _ _ _ _
  · rfl

/-- The click unit's tick changes the click unit, ports and entries alone. -/
theorem Device.clickTick_frame (d : Device) :
    d.clickTick =
      { d with
        click := d.clickTick.click
        stage := { d.stage with ports := d.clickTick.stage.ports, entries := d.clickTick.stage.entries } } :=
  d.onLines_frame _ (takeClickTick_frame _ _ _ _)

/-- The click unit's stop changes the click unit, ports and entries alone. -/
theorem Device.clickStop_frame (d : Device) :
    d.clickStop =
      { d with
        click := d.clickStop.click
        stage := { d.stage with ports := d.clickStop.stage.ports, entries := d.clickStop.stage.entries } } :=
  d.onLines_frame _ endActive_frame

/-- After its stop the click unit has no line ACTIVE (R112). -/
theorem Device.clickStop_idle (d : Device) (n : Fin 4) : d.clickStop.click.lines[n].endsAt = none := by
  have hactive : ∀ (n : Fin 4) (l : ClickLine) (st : Stage), (endActive n l st).1.endsAt = none := by
    intro n l st
    unfold endActive endPulse endNote
    split
    · split <;> rfl
    · rename_i h; simpa using h
  have key : ∀ (ns : List (Fin 4)) (d : Device), n ∈ ns ∨ d.click.lines[n].endsAt = none →
      (ns.foldl (fun d n => d.onLine n (endActive n)) d).click.lines[n].endsAt = none := by
    intro ns
    induction ns with
    | nil => intro d h; simpa using h
    | cons m ns ih =>
      intro d h
      refine ih _ ?_
      by_cases hm : m = n
      · subst hm; right; simp [Device.onLine, hactive]
      · have hm' : (m : Nat) ≠ n := fun e => hm (Fin.ext e)
        rcases h with h | h
        · left; exact (List.mem_cons.1 h).resolve_left fun e => hm e.symm
        · right; simpa [Device.onLine, Vector.getElem_set, hm'] using h
  exact key _ d (Or.inl (List.mem_finRange n))

end Sys2Proof.Machine
end

