-- ==== Sys2Proof/Tests/Slice0.lean ====
section
/-! SUPPORT. Tests: ill-formed terms that the check refuses, single steps against the spec's worked figures, and for every
statement with premises a machine that meets them, clause by clause. Expected values are the spec's, or sums made by hand. -/

namespace Sys2Proof.Tests

set_option Elab.async false

open Sys2Proof Sys2Proof.Machine

/-! ## Small machines -/

/-- A map of the rig area: set list at 256, slots at 512, page at 768, journal of 64 entries at 1024, scenes at 4096. -/
def map : Layout :=
  { sceneTable := 4096, setList := 256, slotArea := 512, statePage := 768, journal := 1024, setListLength := 6
    capacity := 64 }

/-- A part that is ONLINE under the map, with every class of entry selected, in an OVERWRITE journal. -/
def base : Device :=
  { Device.reset with
    engine := { Engine.reset with state := .online }
    layout := map
    jw := { JournalWriter.reset with mode := .overwrite, mask := 7 } }

/-- A machine around a part that differs from the base as given. -/
def on (f : Device → Device) : State := { State.reset with dev := f base }

/-- The same in another engine state. -/
def inState (e : EngineState) (f : Device → Device) : State :=
  on fun d => f { d with engine := { d.engine with state := e } }

/-- What the machine is after a command. -/
def run (c : Instr) (s : State) : State :=
  match exec c s with
  | .next t => t
  | _ => s

/-- The entries that wait for the journal. -/
def handed (s : State) : List Entry := s.dev.jw.queue.map (·.entry)

def withPort (p : Fin 6) (mp : ModulePort) (d : Device) : Device :=
  { d with stage := { d.stage with ports := d.stage.ports.set p mp } }

def withVoice (k : Fin 128) (v : Voice) (d : Device) : Device :=
  { d with stage := { d.stage with voices := d.stage.voices.set k (some v) } }

def withClock (now : Word) (d : Device) : Device := { d with stage := { d.stage with clock := now } }

def withPedal (n : Fin 8) (p : Pedal) (d : Device) : Device := { d with pedals := d.pedals.set n p }

/-- A message that K`port` has handed on. -/
def arrived (port : Fin 4) (m : Message) (d : Device) : Device :=
  { d with keyPorts := d.keyPorts.set port { KeyPort.reset with handed := [{ msg := m, clock := 7 }] } }

/-- A request that the scan has taken from its slot. -/
def asked (r : Request) (d : Device) : Device :=
  { d with req := { d.req with scan := some { slot := r.slot.val, phase := .handed r } } }

def request (kind : Byte) (arg1 arg2 : Word) : Request :=
  { slot := 2, kind := kind, tag := 501, arg1 := arg1, arg2 := arg2, arg3 := 0 }

def write (w : Word) : RegWrite := { value := w, lanes := 15 }

def msg (kind : FrameKind) (ch : BitVec 4) (d1 d2 : BitVec 7) : Message :=
  { kind := kind, channel := ch, data1 := d1, data2 := d2 }

/-- Zone 0 of the worked sequence of section 2.10. -/
def zone0 : Zone :=
  { ports := 1, channel := some 0, keyLow := 36, keyHigh := 84, velLow := 1, velHigh := 127, transpose := 0
    curve := .scale, gain := 80, offset := -5, fixedValue := 1, dest := { port := 2, channel := 0 }
    passControls := true, lock := true }

/-- Zone 1 of it. -/
def zone1 : Zone :=
  { zone0 with
    keyLow := 60, keyHigh := 96, gain := 64, offset := 0, dest := { port := 3, channel := 4 }, passControls := false
    lock := false }

/-- Zone 2 of it. -/
def zone2 : Zone :=
  { zone0 with
    ports := 2, channel := none, keyLow := 0, keyHigh := 127, transpose := 12, curve := .fixed, fixedValue := 90
    passControls := false, lock := false }

def withZones (d : Device) : Device := { d with change := { d.change with zones := [zone0, zone1, zone2] } }

/-- A scene copy of one zone and one entry message. -/
def scene : SceneCopy :=
  { number := 23, position := some 3, headCount := 9, clamps := 6, name := [], meter := 3, tempo := 0, glideBeats := 0
    boundary := .now, countInBars := 0, startTransport := false, source := .manual, spill := .keep, deferLimit := 0
    accents := 1, subdivisions := Vector.replicate 4 1, zones := [zone1]
    entryMessages := [{ port := 3, msg := msg .program 4 12 3 }] }

/-- The scene with the boundary BAR. -/
def sceneAtBar : SceneCopy := { scene with boundary := .bar }

/-- A change unit in a state, with the scene as its pending copy. -/
def withCopy (st : ChangeState) (sc : SceneCopy) (d : Device) : Device :=
  { d with change := { d.change with state := st, copy := some sc } }

def withChange (st : ChangeState) (d : Device) : Device := { d with change := { d.change with state := st } }

def playing (d : Device) : Device :=
  { d with tempo := { d.tempo with transport := .playing, tickAt := some 0 } }

/-- A bus whose next access fails. -/
def failing : Bus := [{ hostWrites := [], fails := true, landed := 0 }]

/-- A quiet bus before whose next access the host stores bytes from an address on. -/
def stored (addr : Nat) (bs : List Byte) : BusAccess :=
  { hostWrites := bs.zipIdx.map fun b => (BitVec.ofNat 32 (addr + b.2), b.1), fails := false, landed := 0 }

/-! ## The check of commands refuses ill-formed terms -/

/-- A register write that writes no byte (R202). -/
theorem test_noLanes_refused :
    Instr.wellFormed (.notice { value := 0, lanes := 0 }) = false
      ∧ Instr.wellFormed (.area { value := 0, lanes := 0 }) = false
      ∧ Instr.wellFormed (.ack { value := 0, lanes := 0 }) = false := by decide

/-- A CONTROL write under a row whose bits it does not carry (R201). -/
theorem test_controlRows_refused :
    Instr.wellFormed (.controlEnableSet (write 0)) = false ∧ Instr.wellFormed (.controlEnableClear (write 1)) = false
      ∧ Instr.wellFormed (.attentionMode (write 0x80000000)) = false
      ∧ Instr.wellFormed (.causeEnable (write 0x80000010)) = false
      ∧ Instr.wellFormed (.controlReset (write 1) Machine.ResetCut.clean) = false := by decide

/-- An ignored write that aims at a register that takes writes (R202). -/
theorem test_ignoredRow_refused :
    Instr.wellFormed (.ignoredRegisterWrite 0x04 (write 0)) = false
      ∧ Instr.wellFormed (.ignoredRegisterWrite 0x17 (write 0)) = false
      ∧ Instr.wellFormed (.ignoredRegisterWrite 0x10 (write 0)) = true := by decide

/-- A reset that cuts an operation after its last access (R155, R159, R177, R181). -/
theorem test_longCut_refused :
    let made (n : Nat) : Bus := List.replicate n quietAccess
    Instr.wellFormed (.powerOn { Machine.ResetCut.clean with page := made 3 }) = false
      ∧ Instr.wellFormed (.powerOn { Machine.ResetCut.clean with slots := [(2, made 5)] }) = false
      ∧ Instr.wellFormed (.resetPinAssert { Machine.ResetCut.clean with retries := [(2, made 5)] }) = false
      ∧ Instr.wellFormed (.resetPinAssert { Machine.ResetCut.clean with journal := made 5 }) = false
      ∧ Instr.wellFormed (.powerOn { page := made 2, slots := [(2, made 4)], retries := [], journal := made 4 }) = true := by
  decide

/-! ## Single steps against worked figures -/

/-- The worked velocities of section 2.2. -/
theorem test_velocities :
    zone0.velocityOut 100 = 120 ∧ zone0.velocityOut 80 = 95 ∧ ({ zone0 with gain := 255, offset := 0 }).velocityOut 127 = 127
      ∧ ({ zone0 with gain := 16, offset := -10 }).velocityOut 10 = 1 ∧ zone1.velocityOut 100 = 100
      ∧ ({ zone0 with gain := 16, offset := 0 }).velocityOut 1 = 1 ∧ zone2.velocityOut 45 = 90 := by decide

/-- Steps 1 and 2 of the worked sequence of section 2.10. -/
theorem test_candidates :
    (candidates [zone0, zone1, zone2] { port := 0, channel := 0, key := 72 } 100).map (fun c => (c.key.dest.port.val, c.velocity))
        = [(2, 120), (3, 100)]
      ∧ (candidates [zone0, zone1, zone2] { port := 1, channel := 3, key := 60 } 45).map (fun c => (c.key.key, c.velocity))
        = [(72, 90)] := by decide

/-- The worked tick timings of section 4.2 at T = 12000: 2083, 2083, 2084 µs. -/
theorem test_tickLengths :
    let t0 := (Tempo.reset).fixTick 0
    let t1 := t0.fixTick 2083
    t0.tickAt = some 2083 ∧ t0.acc = 4000 ∧ t1.tickAt = some 4166 ∧ (t1.fixTick 4166).tickAt = some 6250
      ∧ (t1.fixTick 4166).acc = 0 := by decide

/-- The glide of R74 from 12000 to 9735 over 8 beats. -/
theorem test_glide :
    (List.range 9).map (fun n => (glideSteps n (glideOf 12000 9735 8) 12000).1)
      = [12000, 11717, 11434, 11151, 10868, 10585, 10302, 10019, 9735] := by decide

/-- The worked tap series of section 5.1. -/
theorem test_tapTempo :
    tapTempo [500000, 500400] = 11995 ∧ tapTempo [500000, 500400, 499800] = 11998
      ∧ tapTempo [500000, 500400, 499800, 499800] = 12000 ∧ tapTempo [500400, 499800, 499800, 500100] = 11999 := by decide

/-- The worked estimates of R95. -/
theorem test_estimates : tempoOfBeat (24 * 20833) = 12000 ∧ tempoOfBeat (4 * 45000) = 33333 := by decide

/-- A KEY_DOWN frame: bytes 81h, channel, key, velocity (R200). -/
theorem test_keyFrame :
    checkFrame 0x81 0x03 0x3C 0x2D = .ok (msg .keyDown 3 60 45)
      ∧ frameBytes (msg .keyUp 4 67 0) = [0x82#8, 0x04#8, 0x43#8, 0x00#8] := by decide

/-- The clock of a taken arrival is the event's (R21, R81); the new voice stands at index 0 (R28). -/
theorem test_keyDown_claims :
    let t := run (.keyDown 0) (on fun d => arrived 0 (msg .keyDown 0 72 100) (withZones d))
    (t.dev.stage.destsAt 0).map (·.key.dest.port.val) = [2, 3] ∧ t.dev.eventStamp.clock = 7
      ∧ (t.dev.stage.ports[2]).main = [msg .keyDown 0 72 120] := by decide +kernel

/-- The switch on a crowded port of section 3.7 at 20 µs: 30 messages and four entry messages. -/
theorem test_crowdedPort :
    let mp : ModulePort :=
      { ModulePort.reset with main := List.replicate 30 (msg .keyDown 4 60 1), tx := .sendingMain 160 }
    let st := (withPort 3 mp base).stage
    let st' := st.offerEntries 3 (List.replicate 4 (msg .control 4 7 96))
    (st'.ports[3]).main.length = 32 ∧ (st'.ports[3]).backlog.length = 2 ∧ (st'.ports[3]).level = 34
      ∧ st'.nonReleaseAdmitted 3 = false ∧ st'.releaseAdmitted 3 = false := by decide +kernel

/-- The click of section 6.7: an accent of 30,000 µs with KEY_DOWN 37 at 127 on M5 channel 9. -/
theorem test_click :
    let setup : ClickSetup :=
      { ClickSetup.reset with
        enable := true, accentWidth := 30000, normalWidth := 15000, route := some 5, channel := 9, accentKey := 37
        accentVelocity := 127, normalKey := 42, normalVelocity := 90 }
    let r := takeClickTick false .countIn 1 0 0 { ClickLine.reset with setup := setup } Stage.reset
    r.1.endsAt = some 30000 ∧ (r.2.ports[5]).lane = [msg .keyDown 9 37 127]
      ∧ (endPulse 0 r.1 r.2).2.ports[5].lane = [msg .keyDown 9 37 127, msg .keyUp 9 37 0] := by decide +kernel

/-- The record of the worked cue of section 1.8, as the host wrote it. -/
def workedCue : List Byte :=
  let zone (ports lo hi vlo vhi : Nat) (transpose : Int) (kind gain : Nat) (offset : Int) (value port ch flags : Nat) :=
    [byteOf ports, 255, byteOf lo, byteOf hi, byteOf vlo, byteOf vhi, BitVec.ofInt 8 transpose, byteOf kind, byteOf gain,
      BitVec.ofInt 8 offset, byteOf value, byteOf port, byteOf ch, byteOf flags] ++ bytesOf 18 0
  bytesOf 4 5 ++ bytesOf 16 0 ++ [0, 2] ++ bytesOf 2 9735 ++ [80, 4, 1, 0, 2, 3] ++ bytesOf 2 4000 ++ bytesOf 2 1 ++ [2, 0]
    ++ [1, 2, 0, 4]
    ++ zone 1 0 59 1 127 (-12) 0 80 (-5) 0 2 0 0 ++ zone 1 60 127 0 140 0 0 64 0 0 3 4 0 ++ zone 2 0 127 1 127 60 1 0 0 100 4 1 2
    ++ bytesOf 160 0 ++ [2, 0, 0, 12, 3] ++ [3, 4, 1, 7, 96] ++ bytesOf 74 0 ++ bytesOf 4 5

/-- Its copy: six fields are clamped (meter, glide, C2's subdivision, zone 1's velocities, zone 2's transpose). -/
theorem test_workedCue :
    let sc := sceneCopyOf 23 none workedCue
    workedCue.length = 384 ∧ sceneError workedCue = none ∧ sc.clamps = 6 ∧ sc.meter = 1 ∧ sc.glideBeats = 64
      ∧ sc.boundary = .bar ∧ sc.subdivisions.toList = [1, 2, 1, 4] ∧ sc.zones.map (·.transpose) = [-12, 0, 48]
      ∧ sc.zones.map (·.lock) = [false, false, true]
      ∧ sc.entryMessages.map (·.msg) = [msg .program 0 12 3, msg .control 4 7 96] := by decide +kernel

/-- A destination port beyond M5 in zone 2 is item 3, field 17 of R10: 3 × 256 + 17. -/
theorem test_sceneError :
    let zone (port : Nat) : List Byte := [1, 255, 0, 127, 1, 127, 0, 0, 64, 0, 0, byteOf port, 0, 0] ++ bytesOf 18 0
    let record := bytesOf 21 0 ++ [0] ++ bytesOf 5 0 ++ [0, 0, 3] ++ bytesOf 4 0 ++ [0] ++ bytesOf 5 0 ++ zone 0 ++ zone 5
      ++ zone 6 ++ bytesOf 248 0
    sceneError record = some 785 := by decide +kernel

/-- The journal of section 9.7: entry 1000 of 64 goes into slot 40. -/
theorem test_journalSlot : (on id).dev.journalAddress 1000 = 1024 + 40 * 32 := by decide

/-- A register byte write: the bytes that are not written count as 0 (R202). -/
theorem test_byteWrite : regWord { value := 0xAABBCCDD, lanes := 5 } = 0x00BB00DD#32 := by decide

/-- STATUS of a FAULTED part with HEADER set, FAULT latched and field code 3 (R201). -/
theorem test_status :
    statusWord { Registers.reset with faults := 1, causes := 4, fieldCode := 3 } .faulted = 0x00030144#32 := by decide

/-- The worked press of section 8.8: set position 11, NEXT cues position 12. -/
theorem test_nextPress :
    let s := on fun d =>
      { withPedal 0 { Pedal.reset with setup := { PedalSetup.reset with function := .next }, timer := some 0 } d with
        layout := { map with setListLength := 40 }
        change := { d.change with setPosition := some 11 } }
    let t := run (.debounceExpiry 0) s
    t.dev.change.reads = [{ target := .setListEntry 12, abandoned := false }] ∧ t.dev.change.state = .loading
      ∧ handed t = [.pedal 0 .next .press .input .acted 12 0] := by decide +kernel

/-- The command of an empty queue: the event that is due, or a microsecond (log 1, log 2). -/
theorem test_idle :
    (match step (on id) with | .next t => t.dev.now | _ => 9) = 1
      ∧ (match step (on fun d => { d with regs := { d.regs with attnPulse := some 0 } }) with
          | .next t => t.dev.regs.attnPulse | _ => some 1) = none := by decide +kernel

/-- The table gives no row any bits, so a fetched word puts no command in the queue. -/
theorem test_noWords : decodeTableWord 8 1 = none ∧ (State.reset.withFetchWord 8 1) = State.reset := ⟨rfl, rfl⟩

/-! ## Machines that meet the premises of the statements, clause by clause -/

/-- `MemoryStaysCanonical`, `EventsEndSettled`, `TempoStaysInRange`, `RegistersStayClean`, `QueuesStayWithin`: a machine with
bytes in memory and a completion to write. -/
theorem witness_invariants :
    let s : State := { on playing with mem := [(4, 1)], pending := [.tick] }
    Mem.wf s.mem = true ∧ s.isSettled = true ∧ (2000 ≤ s.dev.tempo.t ∧ s.dev.tempo.t ≤ 30000)
      ∧ (s.dev.regs.control &&& ~~~controlMask = 0 ∧ s.dev.regs.area &&& 0x0000000F#32 = 0)
      ∧ (∀ p : Fin 6, s.dev.stage.ports[p].within = true)
      ∧ (match step s with | .next t => t.dev.tempo.tick | _ => 0) = 1 := by decide +kernel

/-- `ResetPinHoldsThePart`. -/
theorem witness_resetPin :
    ({ State.reset with resetLow := true } : State).resetLow = true ∧ actsInReset .tick = false := by decide

/-- A key port whose assembler stands as given. -/
def assembling (a : AsmState) (bytes : List Byte) : State :=
  on fun d => { d with keyPorts := d.keyPorts.set 1 { KeyPort.reset with asm := a, held := bytes } }

/-- `KeyBytesAssemble` and `BrokenFramesAreReported`: each state of an assembler with the bytes that meet each clause, at
the lowest and highest channel of a frame and the first beyond. -/
theorem witness_keyBytes :
    State.reset.dev.engine.state ≠ .online
      ∧ (assembling .seeking []).isOnline = true ∧ isStartByte 0x80 = true ∧ isStartByte 0x7F = false
      ∧ (assembling .waiting []).dev.keyPorts[1].asm = .waiting
      ∧ (assembling .collecting [0x81, 0x0F]).dev.keyPorts[1].held.length < 3
      ∧ (assembling .collecting [0x81, 0x0F, 1]).dev.keyPorts[1].held = [0x81, 0x0F, 1]
      ∧ frameKindOf 0x81 = some .keyDown ∧ frameKindOf 0x86 = none ∧ (0x0F#8).toNat ≤ 15 ∧ 15 < (0x10#8).toNat := by
  decide +kernel

/-- A machine to which K0 hands a message, under the worked zones. -/
def handing (m : Message) (f : Device → Device) : State := on fun d => arrived 0 m (withZones (f d))

/-- Every place of the voice table taken. -/
def fullTable (d : Device) : Device :=
  let v : Voice := { source := { port := 3, channel := 0, key := 0 }, velIn := 1, state := .releasing, dests := [] }
  { d with stage := { d.stage with voices := Vector.replicate 128 (some v) } }

/-- The destination key 40 of M2 channel 0. -/
def key40 : DestKey := { dest := { port := 2, channel := 0 }, key := 40 }

/-- The voice of K0 channel 0, key 40, with one record. -/
def voice40 (st : VoiceState) (flag : ReleaseFlag) : Voice :=
  { source := { port := 0, channel := 0, key := 40 }, velIn := 100, state := st, dests := [{ key := key40, flag := flag }] }

/-- M2 with a full main queue on the line until a moment. -/
def crowded (ends : Word) : ModulePort :=
  { ModulePort.reset with main := List.replicate 32 (msg .keyUp 0 1 0), tx := .sendingMain ends }

/-- A deferral for M2 channel 0 with a deadline at 500. -/
def deferral : Deferral :=
  { dest := key40.dest, messages := [msg .program 0 12 3], deadline := 500, activation := 1 }

/-- `KeyDownClaimsVoice`: key 40 has one candidate, key 64 two, key 0 none; the table may be empty or full, the port at its
limit, and the source held, at a port with room and a full one. -/
theorem witness_keyDown :
    let m := msg .keyDown 0 40 100
    let s := handing m id
    let full := handing m fullTable
    s.isOnline = true ∧ s.dev.nextArrival 0 = some { msg := m, clock := 7 } ∧ isKeyDown m = true
      ∧ s.dev.stage.findVoice (Voice.isHeldFrom (sourceOf 0 m)) = none
      ∧ candidates s.dev.change.zones (sourceOf 0 m) 100
        = [{ key := { dest := { port := 2, channel := 0 }, key := 40 }, velocity := 120 }]
      ∧ s.dev.stage.deferralFor { port := 2, channel := 0 } = none ∧ s.dev.stage.ports[2].level < 24
      ∧ s.dev.stage.freeIndex = some 0
      ∧ candidates s.dev.change.zones (sourceOf 0 (msg .keyDown 0 0 1)) 1 = []
      ∧ full.isOnline = true ∧ full.dev.stage.freeIndex = none
      ∧ full.dev.stage.findVoice (Voice.isHeldFrom (sourceOf 0 m)) = none
      ∧ (candidates s.dev.change.zones (sourceOf 0 (msg .keyDown 0 64 1)) 1).length = 2
      ∧ (let voice : Voice := { source := sourceOf 0 m, velIn := 100, state := .sounding, dests := [] }
         let claimed (d : State) := { d.dev.stage with voices := d.dev.stage.voices.set 0 (some voice) }
         let records (d : State) :=
           (((candidates d.dev.change.zones (sourceOf 0 m) 100).foldl (candidateOffered 0) (claimed d)).destsAt 0).length
         records s = 1 ∧ records (handing m (withPort 2 (crowded 100))) = 0
           ∧ (handing m (withPort 2 (crowded 100))).isOnline = true)
      ∧ (let held := handing m (withVoice 5 (voice40 .sustained .pending))
         let stuck := handing m fun d => withPort 2 (crowded 100) (withVoice 5 (voice40 .sustained .pending) d)
         held.isOnline = true ∧ held.dev.stage.findVoice (Voice.isHeldFrom (sourceOf 0 m)) = some 5
           ∧ held.dev.stage.voices[5] = some (voice40 .sustained .pending)
           ∧ held.dev.stage.heldElsewhere 5 0 key40 = false ∧ held.dev.stage.deferralFor key40.dest = none
           ∧ held.dev.stage.ports[2].main.length < 32 ∧ stuck.isOnline = true
           ∧ 32 ≤ stuck.dev.stage.ports[2].main.length) := by decide +kernel

/-- A retrigger on a deferred destination: the old KEY_UP, which ends the deferral, its entry message, then the new
KEY_DOWN (R33, R135); with a RELEASING entry left that holds it, the new note ends the deferral (R137). -/
theorem test_newNoteEnding :
    let m := msg .keyDown 0 40 100
    let deferred (d : Device) : Device := { d with stage := { d.stage with deferrals := [deferral] } }
    let after (f : Device → Device) := (run (.keyDown 0) (handing m fun d => deferred (f d))).dev.stage
    let up := msg .keyUp 0 40 0
    (after (withVoice 5 (voice40 .sounding .pending))).ports[2].main = [up, msg .program 0 12 3, msg .keyDown 0 40 120]
      ∧ (after (withVoice 5 (voice40 .releasing .owed))).ports[2].main = [msg .program 0 12 3, msg .keyDown 0 40 120]
      ∧ (after (withVoice 5 (voice40 .releasing .owed))).deferrals = [] := by decide +kernel

/-- `KeyUpReleasesVoice`: without an entry, under a damper, with room and at occupancy 32; and a KEY_DOWN of velocity 0. -/
theorem witness_keyUp :
    let m := msg .keyUp 0 40 9
    let held := handing m (withVoice 5 (voice40 .sounding .pending))
    let down := handing m fun d =>
      { withVoice 5 (voice40 .sounding .pending) d with stage := (withVoice 5 (voice40 .sounding .pending) d).stage.setDamper 0 0 true }
    let full := handing m fun d => withPort 2 (crowded 100) (withVoice 5 (voice40 .sounding .pending) d)
    isKeyUp m = true ∧ isKeyUp (msg .keyDown 0 40 0) = true
      ∧ (handing m id).isOnline = true ∧ (handing m id).dev.stage.findVoice (soundingFrom (sourceOf 0 m)) = none
      ∧ held.dev.stage.findVoice (soundingFrom (sourceOf 0 m)) = some 5
      ∧ held.dev.stage.voices[5] = some (voice40 .sounding .pending)
      ∧ held.dev.stage.damperDown 0 0 = false ∧ down.dev.stage.damperDown 0 0 = true ∧ down.isOnline = true
      ∧ held.dev.stage.heldElsewhere 5 0 key40 = false ∧ held.dev.stage.deferralFor key40.dest = none
      ∧ held.dev.stage.ports[2].main.length < 32
      ∧ full.isOnline = true ∧ 32 ≤ full.dev.stage.ports[2].main.length
      ∧ full.dev.stage.findVoice (soundingFrom (sourceOf 0 m)) = some 5 := by decide +kernel

/-- `DamperArrivalSetsLevel`: down, up with nothing sustained, and up with one SUSTAINED entry, at a port with room and a
full one. -/
theorem witness_dampers :
    let sustained := withVoice 5 (voice40 .sustained .pending)
    let down := handing (msg .damper 0 64 0) id
    let up := handing (msg .damper 0 0 0) id
    let room := handing (msg .damper 0 0 0) sustained
    let full := handing (msg .damper 0 0 0) fun d => withPort 2 (crowded 100) (sustained d)
    down.isOnline = true ∧ down.dev.nextArrival 0 = some { msg := msg .damper 0 64 0, clock := 7 }
      ∧ up.isOnline = true ∧ up.dev.nextArrival 0 = some { msg := msg .damper 0 0 0, clock := 7 }
      ∧ up.dev.stage.sustainedOf 0 0 = [] ∧ room.isOnline = true ∧ room.dev.stage.sustainedOf 0 0 = [5]
      ∧ room.dev.stage.voices[5] = some (voice40 .sustained .pending)
      ∧ room.dev.stage.heldElsewhere 5 0 key40 = false ∧ room.dev.stage.deferralFor key40.dest = none
      ∧ room.dev.stage.ports[2].main.length < 32
      ∧ full.isOnline = true ∧ full.dev.stage.sustainedOf 0 0 = [5] ∧ 32 ≤ full.dev.stage.ports[2].main.length := by
  decide +kernel

/-- `ControlArrivalPasses` and `ProgramArrivalSelectsScene`. -/
theorem witness_arrivals :
    let control := handing (msg .control 0 1 40) id
    let busy := handing (msg .control 0 1 40) (withPort 2 (crowded 100))
    let other := handing (msg .control 5 1 40) id
    let off := handing (msg .program 0 12 0) id
    let chosen (st : ChangeState) := handing (msg .program 0 12 0) fun d =>
      { withChange st d with progSelect := some (0, 0) }
    let flagged := handing (msg .program 0 12 0) fun d =>
      { d with progSelect := some (0, 0), change := { (withChange .held d).change with loadingFlag := true } }
    controlDests control.dev.change.zones 0 0 = [{ port := 2, channel := 0 }]
      ∧ control.isOnline = true ∧ control.dev.stage.ports[2].level < 24
      ∧ busy.isOnline = true ∧ 24 ≤ busy.dev.stage.ports[2].level
      ∧ other.isOnline = true ∧ controlDests other.dev.change.zones 0 5 = []
      ∧ off.isOnline = true ∧ off.dev.progSelect ≠ some (0, 0)
      ∧ (chosen .idle).isOnline = true ∧ (chosen .idle).dev.progSelect = some (0, 0)
      ∧ (chosen .cued).dev.change.state = .cued ∧ (chosen .loading).dev.change.state = .loading
      ∧ (chosen .armed).dev.change.state = .armed ∧ (chosen .held).dev.change.state = .held
      ∧ (chosen .held).dev.change.loadingFlag = false ∧ flagged.isOnline = true ∧ flagged.dev.change.loadingFlag = true := by
  decide +kernel

/-- `CandidatesFollowTheCurve`: the ends of the transpose, a key that leaves the range and one that stays. -/
theorem witness_candidates :
    ({ zone0 with transpose := 48 }).candidate 79 100 ≠ none ∧ ({ zone0 with transpose := 48 }).candidate 80 100 = none
      ∧ ({ zone0 with transpose := -48 }).candidate 48 100 ≠ none
      ∧ ({ zone0 with transpose := -48 }).candidate 47 100 = none
      ∧ zone0.curve = .scale ∧ zone2.curve = .fixed ∧ 1 ≤ zone2.fixedValue ∧ zone2.fixedValue ≤ 127 := by decide

/-- `LaneFrameCompletes` and `MainFrameCompletes`: a lane frame and a main frame at their ends, an owed release at occupancy
31 and 32, a backlog beside 31 messages, and a full main queue at its frame's end with an owed release and a backlog. -/
theorem witness_frames :
    let lane := on (withPort 2 { ModulePort.reset with lane := [msg .keyUp 0 1 0], tx := .sendingLane 0 })
    let main := on (withPort 2 { ModulePort.reset with main := [msg .keyUp 0 1 0], tx := .sendingMain 0 })
    let owed := withVoice 5 (voice40 .releasing .owed)
    let room := on fun d => owed (withPort 2 { crowded 100 with main := List.replicate 31 (msg .keyUp 0 1 0) } d)
    let full := on fun d => owed (withPort 2 (crowded 100) d)
    let moving := on (withPort 2
      { crowded 100 with main := List.replicate 31 (msg .keyUp 0 1 0), backlog := [msg .program 0 12 3] })
    let isOwed := fun r : DestRecord => decide (r.flag = .owed) && decide (r.key.dest.port = 2)
    lane.isReady = true ∧ lane.dev.stage.ports[2].laneFrameDue lane.dev.now = true ∧ lane.dev.engine.state ≠ .draining
      ∧ main.isSteady = true ∧ main.dev.stage.ports[2].mainFrameDue main.dev.now = true
      ∧ main.dev.stage.recordsWhere isOwed = [] ∧ main.dev.stage.ports[2].backlog = []
      ∧ room.isSteady = true ∧ room.dev.stage.recordsWhere isOwed = [(5, 0)]
      ∧ room.dev.stage.voices[5] = some (voice40 .releasing .owed) ∧ room.dev.stage.deferralFor key40.dest = none
      ∧ room.dev.stage.ports[2].main.length < 32
      ∧ full.isSteady = true ∧ full.dev.stage.recordsWhere isOwed = [(5, 0)]
      ∧ 32 ≤ full.dev.stage.ports[2].main.length
      ∧ moving.isSteady = true ∧ moving.dev.stage.ports[2].main.length = 31
      ∧ moving.dev.stage.ports[2].tx = .sendingMain 100
      ∧ moving.dev.stage.ports[2].backlog = [msg .program 0 12 3]
      ∧ (let both := on fun d => owed (withPort 2 { crowded 0 with backlog := [msg .program 0 12 3] } d)
         both.isSteady = true ∧ both.dev.stage.ports[2].mainFrameDue both.dev.now = true
           ∧ both.dev.stage.recordsWhere isOwed = [(5, 0)] ∧ both.dev.stage.ports[2].main.tail.length < 32
           ∧ both.dev.engine.state = .online) := by decide +kernel

/-- A completion at a full main queue: an owed release takes the freed place, and the backlog waits; without one the backlog's
head takes it (R54). -/
theorem test_freedPlace :
    let full := withPort 2 { crowded 0 with backlog := [msg .program 0 12 3] }
    let after (f : Device → Device) := (run (.mainFrameCompletion 2) (on fun d => f (full d))).dev.stage.ports[2]
    let owed := after (withVoice 5 (voice40 .releasing .owed))
    (owed.main.getLast?, owed.main.length, owed.backlog.length) = (some (msg .keyUp 0 40 0), 32, 1)
      ∧ ((after id).main.getLast?, (after id).main.length, (after id).backlog) = (some (msg .program 0 12 3), 32, []) := by
  decide +kernel

/-- `DeferralsEnd`: with and without an entry that holds the destination, before its deadline and at it, and at it with a
record to cut, at a port with room and a full one. -/
theorem witness_deferrals :
    let free (now : Word) := on fun d => { withClock now d with stage := { (withClock now d).stage with deferrals := [deferral] } }
    let held := on fun d => withVoice 5 (voice40 .sounding .pending) { d with stage := { d.stage with deferrals := [deferral] } }
    let pending := fun r : DestRecord => decide (r.flag = .pending) && decide (r.key.dest = key40.dest)
    let cutting (f : Device → Device) := on fun _ =>
      withVoice 5 (voice40 .sounding .pending) (f (free 500).dev)
    (cutting id).isOnline = true ∧ (cutting id).dev.stage.recordsWhere pending = [(5, 0)]
      ∧ (cutting id).dev.stage.voices[5] = some (voice40 .sounding .pending)
      ∧ (cutting id).dev.stage.heldElsewhere 5 0 key40 = false ∧ (cutting id).dev.stage.deferrals.erase deferral = []
      ∧ (cutting id).dev.stage.ports[2].main.length < 32 ∧ (cutting (withPort 2 (crowded 600))).isOnline = true
      ∧ (cutting (withPort 2 (crowded 600))).dev.stage.recordsWhere pending = [(5, 0)]
      ∧ 32 ≤ (cutting (withPort 2 (crowded 600))).dev.stage.ports[2].main.length
      ∧ (free 499).isOnline = true ∧ (free 499).dev.stage.deferralFor key40.dest = some deferral
      ∧ (free 499).dev.stage.holdsDest key40.dest = false
      ∧ held.isOnline = true ∧ held.dev.stage.deferralFor key40.dest = some deferral
      ∧ held.dev.stage.holdsDest key40.dest = true
      ∧ reached (free 499).dev.now 500 = false ∧ reached (free 500).dev.now 500 = true
      ∧ (free 500).dev.stage.recordsWhere pending = [] := by
  decide +kernel

/-- A machine at the last tick of a beat, PLAYING or in a count-in of one bar. -/
def lastTick (c : Option CountIn) (beat : Nat) (f : Device → Device) : State :=
  on fun d => f
    { d with
      tempo := { d.tempo with
        transport := if c.isSome then .countIn else .playing, tickAt := some 0, countIn := c
        beat := beat, tick := if c.isSome then 0 else 239 } }

/-- A change ARMED for a boundary by a GO request of slot 5. -/
def armedFor (b : Boundary) (sc : SceneCopy) (d : Device) : Device :=
  { d with
    change := { (withCopy .armed sc d).change with
      go := some { origin := .request 5 502, waiting := false }, armed := some { boundary := b, since := 0 } } }

/-- `TickAdvancesPosition` and `BeatMakesTempoCurrent`: the last tick inside a beat, and the last of a beat, PLAYING and in a
count-in, within a bar and at its end, with each kind of work and with a change ARMED for it. -/
theorem witness_ticks :
    let at238 := on fun d => { playing d with tempo := { (playing d).tempo with tick := 238 } }
    let at239 := on fun d => { playing d with tempo := { (playing d).tempo with tick := 239, pending := some (30000, .request) } }
    at238.isOnline = true ∧ at238.dev.tempo.transport = .playing ∧ at238.dev.tempo.countIn = none
      ∧ at238.dev.tempo.tickAt = some 0 ∧ reached at238.dev.now 0 = true ∧ at238.dev.tempo.tick < 239
      ∧ at239.isOnline = true ∧ at239.dev.tempo.tick = 239 ∧ at239.dev.tempo.tickAt = some 0 ∧ 1 ≤ at239.dev.tempo.beat
      ∧ at239.dev.tempo.beat < at239.dev.tempo.meter ∧ at239.dev.tempo.pending = some (30000, .request)
      ∧ (beatTaken (nextBeat at239.dev.tempo) at239.dev.sync).1.t = 30000 ∧ at239.dev.change.state ≠ .armed
      ∧ (∀ n : Fin 4, at239.dev.click.lines[n].setup.enable = false)
      ∧ (let count (beat tick : Nat) : CountIn := { bars := 1, bar := 1, beat := beat, tick := tick }
         let inside := lastTick (some (count 4 238)) 1 id
         let ends := lastTick (some (count 4 239)) 1 id
         let bar := lastTick none 4 fun d => { d with tempo := { d.tempo with pendingMeter := some 3 } }
         inside.isOnline = true ∧ ends.isOnline = true ∧ barEnds ends.dev.tempo = true
           ∧ (nextBeat ends.dev.tempo).transport = .playing ∧ (beatTaken (nextBeat ends.dev.tempo) ends.dev.sync).1.t = 12000
           ∧ bar.isOnline = true ∧ barEnds bar.dev.tempo = true
           ∧ (lastTick (some (count 1 239)) 1 (armedFor .bar sceneAtBar)).isOnline = true
           ∧ (lastTick none 1 (armedFor .beat scene)).isOnline = true ∧ (lastTick none 4 (armedFor .bar sceneAtBar)).isOnline = true
           ∧ barEnds (lastTick none 1 (armedFor .bar sceneAtBar)).dev.tempo = false) := by decide +kernel

/-- A beat boundary takes a step of a glide (R73), reads a LOCKED estimate in FOLLOW (R77), and at a bar's end takes the
meter (R65); a change ARMED for the bar switches there, and its own meter waits (R65, R122). -/
theorem test_boundaries :
    let glide := run .tick (lastTick none 1 fun d => { d with tempo := { d.tempo with glide := some (glideOf 12000 9735 64) } })
    let follow := run .tick (lastTick none 1 fun d =>
      { d with
        tempo := { d.tempo with source := .follow }
        sync := { d.sync with state := .locked, estimate := some 11970, deadband := 25 } })
    let bar := run .tick (lastTick none 4 fun d =>
      armedFor .bar sceneAtBar { d with tempo := { d.tempo with pendingMeter := some 5 } })
    glide.dev.tempo.t = 11965 ∧ follow.dev.tempo.t = 11970 ∧ handed follow = [.tempo 12000 11970 .follow 0]
      ∧ bar.dev.tempo.meter = 5 ∧ bar.dev.tempo.pendingMeter = some 3 ∧ bar.dev.change.active = some sceneAtBar
      ∧ bar.dev.req.completions.map (fun c => (c.slot, c.code, c.value)) = [(5, .ok, 1)] := by decide +kernel

/-- A machine whose scan has taken a request. -/
def asking (kind : Byte) (arg1 arg2 : Word) (f : Device → Device) : State := on fun d => asked (request kind arg1 arg2) (f d)

/-- The premises of a request statement: ONLINE, with that request handed. -/
def meets (s : State) (r : Request) : Bool := s.isOnline && decide (s.dev.req.handedRequest = some r)

/-- `StartAndStop`, `LocateSetsBar` and `TempoRequests`. -/
theorem witness_transport :
    meets (asking 8 0 0 id) (request 8 0 0) = true ∧ (asking 8 0 0 id).dev.tempo.transport = .stopped
      ∧ (asking 8 0 0 id).dev.tempo.pending = none ∧ (asking 8 0 0 id).dev.tempo.pendingMeter = none
      ∧ (asking 8 0 0 id).dev.tempo.countIn = none ∧ (asking 8 0 0 id).dev.tempo.glide = none
      ∧ (∀ n : Fin 4, (asking 8 0 0 id).dev.click.lines[n].setup.enable = false)
      ∧ meets (asking 8 0 0 playing) (request 8 0 0) = true ∧ (asking 8 0 0 playing).dev.tempo.transport ≠ .stopped
      ∧ meets (asking 8 2 0 id) (request 8 2 0) = true ∧ meets (asking 8 0xFFFFFFFF 0 id) (request 8 0xFFFFFFFF 0) = true
      ∧ (beatTaken (asking 8 2 0 id).dev.tempo (asking 8 2 0 id).dev.sync).1.t = 12000
      ∧ meets (asking 9 0 0 fun d => armedFor .bar sceneAtBar (playing d)) (request 9 0 0) = true
      ∧ (∀ n : Fin 4, (asking 9 0 0 playing).dev.click.lines[n].sounding = none)
      ∧ meets (asking 9 0 0 playing) (request 9 0 0) = true
      ∧ (asking 9 0 0 playing).dev.change.state ≠ .armed ∧ meets (asking 9 0 0 id) (request 9 0 0) = true
      ∧ meets (asking 10 0 0 id) (request 10 0 0) = true ∧ meets (asking 10 10000 0 id) (request 10 10000 0) = true
      ∧ meets (asking 10 1 0 id) (request 10 1 0) = true ∧ meets (asking 10 9999 0 playing) (request 10 9999 0) = true := by
  decide +kernel

/-- START with SCENE counts in by the active scene, here 3 bars, from beat 1 of the held bar (R66); STOP in it switches an
ARMED change, whose GO is completed before it, and SCENE_CHANGED comes behind TRANSPORT (R80, R126). -/
theorem test_startStop :
    let s := run .start (asking 8 0xFFFFFFFF 0 fun d =>
      { d with change := { d.change with active := some { scene with countInBars := 3 } }, tempo := { d.tempo with beat := 2 } })
    let t := run .stop (asking 9 0 0 fun d => armedFor .bar sceneAtBar (playing d))
    s.dev.tempo.countIn = some { bars := 3, bar := 1, beat := 1, tick := 0 } ∧ s.dev.tempo.beat = 1
      ∧ handed s = [.transport .stopped .countIn .request 3] ∧ s.dev.req.completions.map (·.value) = [3]
      ∧ t.dev.req.completions.map (fun c => (c.slot, c.value)) = [(5, 1), (2, 2)]
      ∧ handed t = [.transport .playing .stopped .request 0,
          .sceneChanged 23 1 (some 3) .transportStop (.request 5 502) 0 0 false .keep] := by decide +kernel

/-- The completion of a LOCATE shows the position that it sets (R69, R173). -/
theorem test_locateStamp :
    (run .locate (asking 10 17 0 id)).dev.req.completions.map (fun c => (c.value, c.stamp.pos))
      = [(17, { bar := 17, beat := 1, tick := 0 })] := by decide +kernel

/-- A follower that is LOCKED on 12000. -/
def locked (d : Device) : Device :=
  { d with
    sync := { d.sync with
      division := 24, window := 1, state := .locked, estimate := some 12500, average := some 20000
      ring := [20000, 20000], lastEdge := some 0, lossLeft := some 80000 } }

/-- `TempoRequests`: at a tempo other than the current one, without and with a glide, under MANUAL and under FOLLOW. -/
theorem witness_tempoRequests :
    let follow := fun d : Device => { d with tempo := { d.tempo with source := .follow } }
    meets (asking 11 9800 0 id) (request 11 9800 0) = true ∧ (asking 11 9800 0 id).dev.tempo.source = .manual
      ∧ (asking 11 9800 0 id).dev.tempo.glide = none ∧ clampNat 2000 30000 9800 ≠ (asking 11 9800 0 id).dev.tempo.t
      ∧ (asking 11 9800 0 id).dev.tempo.transport = .stopped
      ∧ meets (asking 11 9800 0 playing) (request 11 9800 0) = true ∧ (asking 11 9800 0 playing).dev.tempo.transport ≠ .stopped
      ∧ meets (asking 11 9800 8 playing) (request 11 9800 8) = true ∧ (8 : Word) ≠ 0
      ∧ meets (asking 12 0 0 fun d => locked (playing d)) (request 12 0 0) = true
      ∧ (asking 12 0 0 fun d => locked (playing d)).dev.sync.state = .locked
      ∧ (asking 12 0 0 fun d => locked (playing d)).dev.sync.estimate = some 12500
      ∧ meets (asking 12 0 0 playing) (request 12 0 0) = true ∧ (asking 12 0 0 playing).dev.sync.state ≠ .locked
      ∧ meets (asking 11 9800 0 follow) (request 11 9800 0) = true ∧ meets (asking 12 0 0 follow) (request 12 0 0) = true
      ∧ (asking 12 0 0 follow).dev.tempo.source = .follow := by decide +kernel

/-- `LapseAndPulseEnd`: at its moment and one microsecond before it. -/
theorem witness_lapse :
    let s (now : Word) := on fun d =>
      { withClock now d with tap := { ring := [], last := some 0 }, regs := { d.regs with attnPulse := some 2000001 } }
    (s 2000001).isReady = true ∧ (s 2000001).dev.tap.last = some 0 ∧ (s 2000001).dev.regs.attnPulse = some 2000001
      ∧ reached (s 2000001).dev.now (after 0 2000001) = true ∧ reached (s 2000000).dev.now (after 0 2000001) = false := by
  decide +kernel

/-- `TapTempoRoundsHalfUp` at the ends of an interval's range; `GlideLandsOnTarget` at the ends of a length. -/
theorem witness_numbers :
    tapTempo [150000, 150000] = 30000 ∧ tapTempo [199999, 199999] = 30000 ∧ tapTempo [200000, 200000] = 30000
      ∧ (playing base).tempo.source = .manual ∧ (playing base).tempo.transport ≠ .stopped ∧ (playing base).tempo.glide = none
      ∧ (playing base).tempo.t ≠ tapTempo [150000, 150000] ∧ tapTempo [2000000, 2000000, 2000000, 2000000] = 3000
      ∧ (glideSteps 1 (glideOf 2000 30000 1) 2000).1 = 30000 ∧ (glideSteps 64 (glideOf 30000 2000 64) 30000).1 = 2000 := by
  decide +kernel

/-- A machine with a sync follower. -/
def following (f : SyncFollower → SyncFollower) : State :=
  on fun d => withClock 30000 { d with sync := f { (locked d).sync with lastEdge := some 10000 } }

/-- `SyncEdgesAreJudged` and `FollowerLocksAndLoses`. -/
theorem witness_sync :
    (following id).isOnline = true ∧ (following fun s => { s with state := .off }).dev.sync.state = .off
      ∧ interval (following fun s => { s with lastEdge := some 29901 }).dev.now 29901 < 100
      ∧ 100 ≤ interval (following fun s => { s with lastEdge := some 29900 }).dev.now 29900
      ∧ (following fun s => { s with state := .absent, lastEdge := none }).dev.sync.lastEdge = none
      ∧ (following fun s => { s with state := .lost }).dev.sync.state = .lost
      ∧ (following fun s => { s with state := .gathering, ring := [] }).dev.sync.ring.length + 1 < 2 ^ 1
      ∧ (following fun s => { s with state := .gathering, ring := [20000] }).dev.sync.ring.length + 1 = 2 ^ 1
      ∧ (following fun s => { s with average := some 40001 }).dev.sync.average = some 40001
      ∧ 2 * interval (following id).dev.now 10000 < 40001 ∧ 2 * 9999 < interval (following id).dev.now 10000
      ∧ 40000 ≤ 2 * interval (following id).dev.now 10000 ∧ interval (following id).dev.now 10000 ≤ 2 * 10000
      ∧ (following id).dev.sync.ring.length = 2 ^ 1
      ∧ (following id).dev.sync.state = .locked ∧ (following fun s => { s with lossLeft := some 0 }).dev.sync.lossLeft = some 0
      ∧ (following id).dev.sync.lossLeft = some (79999 + 1) ∧ (following id).pending = []
      ∧ (dueEvents (following id)).isEmpty = true := by decide +kernel

/-- An edge at twice the average of 10000, the last one inside the window: ring 20000 and 20000, estimate 12500, and four
averages to run (R95 to R97). -/
theorem test_lockedEdge :
    let t := run .syncEdge (following fun s => { s with average := some 10000, ring := [1, 20000] })
    t.dev.sync.state = .locked ∧ t.dev.sync.ring = [20000, 20000] ∧ t.dev.sync.estimate = some 12500
      ∧ t.dev.sync.lossLeft = some 80000 := by decide +kernel

/-- A retrigger with pending settings on a line with a route: the settings are taken at the click point, the earlier note's
KEY_UP goes first to where it began, and the KEY_DOWN follows (R106, R109, R110). -/
theorem test_retrigger :
    let setup : ClickSetup := { ClickSetup.reset with enable := true, route := some 1, channel := 9, normalKey := 33 }
    let line : ClickLine :=
      { ClickLine.reset with setup := setup, endsAt := some 9, sounding := some key40, pendingSet := some (2, 0) }
    let r := takeClickTick false .playing 2 0 0 line Stage.reset
    (r.1.subdivision, r.1.accents, r.1.pendingSet) = (2, 0, none)
      ∧ r.1.sounding = some { dest := { port := 1, channel := 9 }, key := 33 }
      ∧ r.2.ports[2].lane = [msg .keyUp 0 40 0] ∧ r.2.ports[1].lane.map (·.data1) = [33] := by decide +kernel

/-- `ClickPulsesBeginAndEnd`: a line that may sound at its click points, at the ends of a subdivision, without and with a
route, settings and a sounding key, at a lane with room and at a full one; the same of a pulse at its end. -/
theorem witness_click :
    let setup : ClickSetup := { ClickSetup.reset with enable := true }
    let line (k : Option DestKey) : ClickLine := { ClickLine.reset with setup := setup, endsAt := some 0, sounding := k }
    let s (k : Option DestKey) := on fun d => { d with click := { d.click with lines := d.click.lines.set 1 (line k) } }
    let full := on fun _ =>
      withPort 2 { ModulePort.reset with lane := List.replicate 8 (msg .keyUp 0 1 0), tx := .sendingLane 9 } (s (some key40)).dev
    (line none).pendingSet = none ∧ (line none).setup.route = none ∧ 120 % (240 / 2) = 0 ∧ 60 % (240 / 4) = 0
      ∧ ({ ClickLine.reset with setup := setup } : ClickLine).accents.getLsbD 0 = true ∧ setup.mode = .always
      ∧ (s none).isOnline = true ∧ (s none).dev.click.lines[1].endsAt = some 0 ∧ reached (s none).dev.now 0 = true
      ∧ (s none).dev.click.lines[1].sounding = none
      ∧ (s (some key40)).isOnline = true ∧ (s (some key40)).dev.click.lines[1].sounding = some key40
      ∧ (s (some key40)).dev.stage.ports[2].lane.length < 8 ∧ full.isOnline = true
      ∧ 8 ≤ full.dev.stage.ports[2].lane.length ∧ ({ setup with route := some 2 } : ClickSetup).route = some 2
      ∧ (∀ k : Fin 4, k ≠ 1 → (s none).dev.click.lines[k].setup.enable = false ∧ (s none).dev.click.lines[k].pendingSet = none)
      ∧ (let ticking := on fun _ => playing (s none).dev
         ticking.isOnline = true ∧ ticking.dev.tempo.countIn = none ∧ ticking.dev.tempo.tick < 239
           ∧ ticking.dev.tempo.transport = .playing) := by decide +kernel

/-- A pedal of a function with its debounce timer at its moment. -/
def stepping (f : PedalFunction) (pressed : Bool) : Pedal :=
  { Pedal.reset with setup := { PedalSetup.reset with function := f }, pressed := pressed, timer := some 0 }

/-- A machine whose F3 comes to an edge of a function. -/
def edgeOf (f : PedalFunction) (pressed : Bool) (g : Device → Device) : State := on fun d => withPedal 3 (stepping f pressed) (g d)

/-- A part with a tap series whose last tap came some microseconds ago. -/
def tapped (ago : Word) (ring : List Nat) (d : Device) : Device :=
  { withClock ago d with tap := { ring := ring, last := some 0 } }

/-- ONLINE, with the edge of F3 due. -/
def online (s : State) : Bool := s.isOnline && decide (s.dev.pedals[3].timer = some 0) && reached s.dev.now 0

def follow (d : Device) : Device := { playing d with tempo := { (playing d).tempo with source := .follow } }

/-- `DebounceReportsPedal`, function by function: an edge that is due, and what each clause asks beside it. -/
theorem witness_edges :
    online (edgeOf .notify true id) = true ∧ online (edgeOf .notify false id) = true ∧ online (edgeOf .go false id) = true
      ∧ online (edgeOf .tap false id) = true ∧ (edgeOf .tap false id).dev.tap.last = none
      ∧ [149999, 150000, 2000000, 2000001].all (fun ago : Word => online (edgeOf .tap false (tapped ago [500000]))) = true
      ∧ interval 150000 0 = 150000 ∧ interval 2000001 0 = 2000001 ∧ ([] ++ [150000] : List Nat).length < 2
      ∧ online (edgeOf .tap false fun d => tapped 500000 [500000] (playing d)) = true
      ∧ online (edgeOf .tap false fun d => tapped 500000 [500000] (follow d)) = true
      ∧ (follow base).sync.state ≠ .locked
      ∧ online (edgeOf .tap false fun d => tapped 500000 [500000] (locked (follow d))) = true
      ∧ (locked (follow base)).sync.estimate = some 12500
      ∧ online (edgeOf .hold false fun d => withCopy .armed sceneAtBar (playing d)) = true
      ∧ online (edgeOf .hold false fun d => withCopy .held sceneAtBar (playing d)) = true
      ∧ (withCopy .held sceneAtBar (playing base)).change.loadingFlag = false
      ∧ online (edgeOf .lockOverride false id) = true ∧ online (edgeOf .lockOverride true id) = true
      ∧ online (edgeOf .damper false id) = true ∧ online (edgeOf .damper true id) = true
      ∧ (∀ (q : Fin 4) (c : BitVec 4), (edgeOf .damper true id).dev.stage.sustainedOf q c = [])
      ∧ online (edgeOf .clickMute false id) = true ∧ (∀ k : Fin 4, base.click.lines[k].endsAt = none)
      ∧ online (edgeOf .panic false (withVoice 5 (voice40 .sounding .pending))) = true := by decide +kernel

/-- `PedalLevelsAreTimed`, `DebounceReportsPedal` in DRAINING, and `StepPressCuesPosition`. -/
theorem witness_pedals :
    let s (e : EngineState) (p : Pedal) := inState e (withPedal 3 p)
    let busy (f : PedalFunction) := inState .draining fun d => withPort 2 (crowded 100) (withPedal 3 (stepping f false) d)
    let owing := inState .draining fun d => withVoice 5 (voice40 .releasing .owed) (withPedal 3 (stepping .panic false) d)
    (s .online Pedal.reset).isOnline = true ∧ (s .online Pedal.reset).dev.pedals[3].high = true
      ∧ decide (false = decide ((s .online Pedal.reset).dev.pedals[3].setup.polarity = .inverted))
        ≠ (s .online Pedal.reset).dev.pedals[3].pressed
      ∧ decide (false = decide ((s .online { Pedal.reset with pressed := true }).dev.pedals[3].setup.polarity = .inverted))
        = (s .online { Pedal.reset with pressed := true }).dev.pedals[3].pressed
      ∧ (s .offline Pedal.reset).isReady = true ∧ (s .faulted Pedal.reset).isReady = true
      ∧ (s .draining Pedal.reset).dev.engine.state = .draining ∧ (busy .panic).isReady = true
      ∧ (busy .panic).dev.stage.ports[2].isEmpty = false ∧ owing.isReady = true
      ∧ owing.dev.stage.heldVoices = [] ∧ owing.dev.stage.deferrals = []
      ∧ (busy .next).isReady = true ∧ (busy .next).dev.engine.state = .draining
      ∧ (busy .next).dev.pedals[3].setup.function ≠ .panic
      ∧ (s .online (stepping .next false)).isOnline = true ∧ (s .online (stepping .prev false)).isOnline = true
      ∧ (s .online (stepping .prev false)).dev.change.copy = none
      ∧ (s .online (stepping .prev false)).dev.change.setPosition = none := by decide +kernel

/-- A machine whose change unit reads for a cue request of slot 2. -/
def copying (target : CopyTarget) (origin : CueOrigin) (scene : Option (BitVec 7)) (reads : Nat) : State :=
  on fun d =>
    { d with
      change := { d.change with
        state := .loading, reads := [{ target := target, abandoned := false }]
        load := some { origin := origin, position := none, scene := scene, reads := reads, headRead := 0, retryAt := none } } }

/-- The same with a waiting go, and in HELD with a pending copy. -/
def copyingFor (st : ChangeState) (go : Option GoFlight) (copy : Option SceneCopy) (s : State) : State :=
  on fun _ =>
    { s.dev with
      change := { s.dev.change with state := st, go := go, copy := copy, loadingFlag := decide (st = .held) } }

/-- `SetListEntryNamesScene`: entries 127 and 128, and a failed read, in LOADING and in HELD. -/
theorem witness_setList :
    let s := copying (.setListEntry 5) (.cuePosition 2 501) none 0
    let read (bus : Bus) := (portRead { mem := s.mem, bus := bus } (rigAddress s.dev (256 + 2 * 5)) 2).1
    (copyingFor .held none (some scene) s).isOnline = true ∧ (copyingFor .held none (some scene) s).dev.change.state = .held
      ∧ s.isOnline = true ∧ s.dev.change.nextRead = some { target := .setListEntry 5, abandoned := false }
      ∧ s.dev.change.state = .loading ∧ s.dev.change.go = none
      ∧ (read [stored 266 [127, 0]]).map natOf = some 127 ∧ (read [stored 266 [128, 0]]).map natOf = some 128
      ∧ read failing = none := by decide +kernel

/-- `SceneReadsAreJudged`: equal counts with and without an error, unequal counts, a failed read, an abandoned read, and a
retry's moment; in LOADING with and without a waiting go, and in HELD. -/
theorem witness_scene :
    let s := copying (.sceneRecord 1) (.cueScene 2 501) (some 1) 3
    let parts (bus : Bus) := (readParts s.dev (sceneParts (4096 + 1 * 384)) { mem := s.mem, bus := bus }).1
    let judged (bus : Bus) : Option (Bool × Option Nat) := match parts bus with
      | .ok ps => some (fieldAt (recordOf ps) 0 4 == fieldAt (recordOf ps) 380 4, sceneError (recordOf ps))
      | .error _ => none
    s.isOnline = true ∧ s.dev.change.nextRead = some { target := .sceneRecord 1, abandoned := false }
      ∧ s.dev.change.load.map (·.reads) = some 3 ∧ judged [] = some (true, none)
      ∧ judged [stored 4480 [1]] = some (false, none) ∧ judged [stored (4480 + 29) [9]] = some (true, some 1)
      ∧ judged failing = none
      ∧ (let g : GoFlight := { origin := .next, waiting := true }
         let going := copyingFor .loading (some g) none s
         let held := copyingFor .held (some g) (some scene) s
         going.isOnline = true ∧ going.dev.change.go = some g ∧ going.dev.tempo.transport = .stopped
           ∧ held.isOnline = true ∧ held.dev.change.load = s.dev.change.load
           ∧ (on fun _ => playing going.dev).isOnline = true
           ∧ (sceneCopyOf 1 none (List.replicate 21 0 ++ [1] ++ List.replicate 362 0)).boundary ≠ .now)
      ∧ (let gone := on fun _ => { s.dev with change := s.dev.change.abandon }
         gone.isOnline = true ∧ gone.dev.change.nextRead = some { target := .sceneRecord 1, abandoned := true })
      ∧ (let w := on fun d => withClock 1000 { d with change := { s.dev.change with
            load := s.dev.change.load.map fun ld => { ld with retryAt := some 1000 } } };
          w.isReady = true ∧ reached w.dev.now 1000 = true ∧ reached w.dev.now 1001 = false) := by decide +kernel

/-- A copy that forms under a waiting go switches at once while STOPPED, and both requests are completed, the cue's first; in
HELD it takes the pending copy's place; one that fails there leaves it (R117, R118). -/
theorem test_copyEnds :
    let s := copying (.sceneRecord 1) (.cueScene 2 501) (some 1) 0
    let going := run (.sceneReadCompletion []) (copyingFor .loading (some { origin := .request 5 502, waiting := true }) none s)
    let held := run (.sceneReadCompletion []) (copyingFor .held none (some scene) s)
    let failed := run (.sceneReadCompletion failing) (copyingFor .held none (some scene) s)
    going.dev.change.state = .idle ∧ going.dev.change.activation = 1
      ∧ going.dev.req.completions.map (fun c => (c.slot, c.code)) = [(2, .ok), (5, .ok)]
      ∧ (held.dev.change.state, held.dev.change.copy.map (·.number), held.dev.change.loadingFlag) = (.held, some 1, false)
      ∧ (failed.dev.change.state, failed.dev.change.copy, failed.dev.change.loadingFlag) = (.held, some scene, false) := by
  decide +kernel

/-- `ScansTakePostedSlots`: a notice with and without a scan; a POSTED slot that is free, one that is not POSTED, a
failed read, and a failed write of TAKEN. -/
theorem witness_scan :
    let idle := on fun d => { d with req := { d.req with notice := true } }
    let s := on fun d => { d with req := { d.req with scan := some { slot := 7, phase := .visiting } } }
    let read (bus : Bus) := portRead { mem := s.mem, bus := bus } (rigAddress s.dev (512 + 7 * 32)) 20
    let posted := read [stored 736 [1, 9]]
    idle.isReady = true ∧ idle.dev.req.notice = true ∧ idle.dev.req.scan = none ∧ (on id).dev.req.notice = false
      ∧ s.isOnline = true ∧ s.dev.req.visitDue = some 7 ∧ s.dev.change.inFlight 7 = false
      ∧ s.dev.req.retries = [] ∧ s.dev.req.completions = [] ∧ (portWrite (read (stored 736 [1, 9] :: failing)).2 736 [2#8]).1 = false ∧ posted.1.map (fieldAt · 0 1) = some 1
      ∧ (portWrite posted.2 736 [2#8]).1 = true ∧ (read []).1.map (fieldAt · 0 1) = some 0 ∧ (read failing).1 = none := by
  decide +kernel

/-- `RequestsOutsideOnlineAreRefused`: OFFLINE with a request handed; kinds 0 and 15. -/
theorem witness_refused :
    let off := inState .offline (asked (request 8 0 0))
    off.isReady = true ∧ off.dev.req.handedRequest = some (request 8 0 0) ∧ off.dev.engine.state ≠ .online
      ∧ meets (asking 0 0 0 id) (request 0 0 0) = true ∧ meets (asking 15 0 0 id) (request 15 0 0) = true
      ∧ 14 < (request 15 0 0).kind.toNat := by decide +kernel

/-- A completion of slot 2. -/
def completion : Completion :=
  { slot := 2, addr := 576, offset := 576, code := .ok, value := 9800, tag := 501
    stamp := { clock := 520, pos := { bar := 1, beat := 1, tick := 0 } }, inScan := false }

/-- `CompletionsAreWritten`: a completion and a retry, on a quiet bus and on one whose first access fails. -/
theorem witness_completions :
    let s := on fun d => { d with req := { d.req with completions := [completion] } }
    let t := on fun d => withClock 1520 { d with req := { d.req with retries := [{ completion := completion, dueAt := 1520 }] } }
    s.isReady = true ∧ s.dev.req.completions.find? (fun c => decide (c.slot = 2)) = some completion
      ∧ (portWriteAll { mem := s.mem, bus := [] } (completionWrites completion)).1 = true
      ∧ (portWriteAll { mem := s.mem, bus := failing } (completionWrites completion)).1 = false
      ∧ s.dev.engine.state = .online ∧ s.dev.req.retries = []
      ∧ (on fun d => { d with req := { t.dev.req with completions := [completion] } }).isReady = true
      ∧ t.isReady = true ∧ t.dev.retryDue 2 = some { completion := completion, dueAt := 1520 } := by decide +kernel

/-- A slot that the host posts again is passed over while its completion is still to be written, and that completion is
then written: no completion is lost (R178, R179; log 11). -/
theorem test_completedOnce :
    let s := on fun d =>
      { d with req := { d.req with completions := [completion], scan := some { slot := 2, phase := .visiting } } }
    let visited := run (.slotVisit [stored 576 [1, 4]]) s
    let done := run (.slotCompletion 2 []) visited
    visited.dev.req.scan = some { slot := 3, phase := .visiting } ∧ visited.dev.req.completions = [completion]
      ∧ memRead done.mem 576 = 3 ∧ done.dev.req.completions = [] := by decide +kernel

/-- `CompletionBytesLand`, at the highest address that it admits: the worked exchange's tag 501 and value 9800. -/
theorem witness_completionBytes :
    let c := { completion with addr := 4294967264 }
    Mem.wf [] = true ∧ c.addr + 32 ≤ 4294967296
      ∧ (let m := (portWriteAll { mem := [], bus := [] } (completionWrites c)).2.mem;
          memReadBytes m 4294967264 8 = [3, 0, 0, 0, 0xF5, 1, 0, 0] ∧ memReadBytes m 4294967284 4 = [0x48, 0x26, 0, 0]) := by
  decide +kernel

/-- `CueRequestsBeginCopies`: arguments 127 and 128, positions 5 and 6 of 6, and each change state. -/
theorem witness_cues :
    let flagged (d : Device) : Device := { d with change := { (withChange .held d).change with loadingFlag := true } }
    meets (asking 1 128 0 id) (request 1 128 0) = true ∧ meets (asking 1 127 0 id) (request 1 127 0) = true
      ∧ meets (asking 1 127 0 (withChange .cued)) (request 1 127 0) = true
      ∧ meets (asking 1 127 0 (withChange .held)) (request 1 127 0) = true
      ∧ (asking 1 127 0 (withChange .held)).dev.change.loadingFlag = false
      ∧ meets (asking 1 127 0 (withChange .armed)) (request 1 127 0) = true
      ∧ meets (asking 1 127 0 (withChange .loading)) (request 1 127 0) = true
      ∧ meets (asking 1 127 0 flagged) (request 1 127 0) = true ∧ (asking 1 127 0 flagged).dev.change.loadingFlag = true
      ∧ meets (asking 2 5 0 (withChange .held)) (request 2 5 0) = true
      ∧ meets (asking 2 5 0 (withChange .cued)) (request 2 5 0) = true
      ∧ meets (asking 2 5 0 (withChange .armed)) (request 2 5 0) = true
      ∧ meets (asking 2 5 0 flagged) (request 2 5 0) = true
      ∧ meets (asking 2 6 0 id) (request 2 6 0) = true ∧ (asking 2 6 0 id).dev.layout.setListLength ≤ 6
      ∧ meets (asking 2 5 0 id) (request 2 5 0) = true ∧ 5 < (asking 2 5 0 id).dev.layout.setListLength
      ∧ (asking 2 5 0 id).dev.change.state = .idle := by decide +kernel

/-- `GoRequestIsTakenByState` and `GoSwitchesTheScene`: in each change state, with the transport running and STOPPED; each
spill and each timing of a switch, with a tempo record at rest. -/
theorem witness_go :
    let voice : Voice := { voice40 .sounding .pending with dests := [{ key := { dest := zone1.dest, key := 40 }, flag := .pending }] }
    let deferred := asking 3 0 0 fun d =>
      withVoice 5 voice (withCopy .cued { scene with spill := .defer, deferLimit := 5 } d)
    meets (asking 3 0 0 id) (request 3 0 0) = true ∧ (asking 3 0 0 id).dev.change.state = .idle
      ∧ meets (asking 3 0 0 (withChange .loading)) (request 3 0 0) = true
      ∧ (asking 3 0 0 (withChange .loading)).dev.change.go = none
      ∧ meets (asking 3 0 0 fun d => withCopy .cued sceneAtBar (playing d)) (request 3 0 0) = true
      ∧ (asking 3 0 0 fun d => withCopy .cued sceneAtBar (playing d)).dev.tempo.transport ≠ .stopped
      ∧ sceneAtBar.boundary ≠ .now ∧ meets (asking 3 0 0 (withChange .armed)) (request 3 0 0) = true
      ∧ meets (asking 3 0 0 (withChange .held)) (request 3 0 0) = true
      ∧ meets (asking 3 0 0 (withCopy .cued scene)) (request 3 0 0) = true
      ∧ (asking 3 0 0 (withCopy .cued scene)).dev.change.copy = some scene ∧ scene.boundary = .now
      ∧ meets (asking 3 0 0 (withCopy .cued sceneAtBar)) (request 3 0 0) = true
      ∧ (asking 3 0 0 (withCopy .cued sceneAtBar)).dev.tempo.transport = .stopped
      ∧ meets (asking 3 0 0 fun d => withCopy .cued scene (playing d)) (request 3 0 0) = true
      ∧ meets (asking 3 0 0 (withCopy .cued { scene with spill := .cut })) (request 3 0 0) = true
      ∧ meets deferred (request 3 0 0) = true ∧ deferred.dev.stage.holdsDest zone1.dest = true
      ∧ scene.messagesFor zone1.dest ≠ [] ∧ scene.names zone1.dest = true
      ∧ scene.source = .manual ∧ scene.glideBeats = 0 ∧ deferred.dev.tempo.source = .manual
      ∧ deferred.dev.tempo.pending = none ∧ deferred.dev.tempo.pendingMeter = none ∧ deferred.dev.tempo.glide = none := by
  decide +kernel

/-- A switch of the worked zones: locked zone 0 is carried behind the scene's own zone, and position 3 is the set
position (R127, R128). -/
theorem test_goSwitches :
    let t := run .go (asking 3 0 0 fun d => withCopy .cued scene (withZones d))
    t.dev.change.zones = [zone1, zone0] ∧ t.dev.change.activation = 1 ∧ t.dev.change.setPosition = some 3
      ∧ t.dev.stage.ports[3].main = [msg .program 4 12 3]
      ∧ t.dev.req.completions.map (fun c => (c.code, c.value)) = [(.ok, 1)] := by decide +kernel

/-- `CarryKeepsLockedZones`: eight zones of the scene leave no place. -/
theorem witness_carry :
    ({ scene with zones := List.replicate 8 zone1 }).zones.length ≤ 8
      ∧ carriedZones { scene with zones := List.replicate 7 zone1 } false [zone0, zone2] = [zone0] := by decide +kernel

/-- `HoldAndResume` and `CancelWithdrawsTheChange`. -/
theorem witness_holds :
    let inFlight (st : ChangeState) (d : Device) : Device :=
      { withCopy st sceneAtBar (playing d) with
        change := { (withCopy st sceneAtBar (playing d)).change with
          go := some { origin := .request 5 502, waiting := false } } }
    let flagged := fun d : Device =>
      { withCopy .held sceneAtBar d with change := { (withCopy .held sceneAtBar d).change with loadingFlag := true } }
    let loading := asking 6 0 0 fun d => { d with change := (copying (.sceneRecord 1) (.cueScene 5 7) (some 1) 0).dev.change }
    meets loading (request 6 0 0) = true ∧ loading.dev.change.state = .loading ∧ loading.dev.change.go = none
      ∧ loading.dev.change.load.map (·.origin) = some (.cueScene 5 7)
      ∧ meets (asking 4 0 0 (inFlight .armed)) (request 4 0 0) = true ∧ meets (asking 4 0 0 id) (request 4 0 0) = true
      ∧ meets (asking 4 0 0 (inFlight .held)) (request 4 0 0) = true ∧ meets (asking 5 0 0 (withChange .cued)) (request 5 0 0) = true
      ∧ (let halted (d : Device) : Device := { inFlight .held d with tempo := d.tempo }
         meets (asking 5 0 0 halted) (request 5 0 0) = true ∧ (asking 5 0 0 halted).dev.tempo.transport = .stopped
           ∧ (asking 5 0 0 halted).dev.change.go = some { origin := .request 5 502, waiting := false })
      ∧ (let held := asking 6 0 0 fun d =>
           { d with
             change := (copyingFor .held (some { origin := .request 3 1, waiting := false }) (some scene)
               (copying (.sceneRecord 1) (.cueScene 5 7) (some 1) 0)).dev.change }
         meets held (request 6 0 0) = true ∧ held.dev.change.loadingFlag = true ∧ held.dev.change.state = .held)
      ∧ meets (asking 5 0 0 (inFlight .held)) (request 5 0 0) = true
      ∧ (asking 5 0 0 (inFlight .held)).dev.change.loadingFlag = false
      ∧ (asking 5 0 0 (inFlight .held)).dev.tempo.transport ≠ .stopped
      ∧ meets (asking 5 0 0 (inFlight .armed)) (request 5 0 0) = true
      ∧ meets (asking 5 0 0 flagged) (request 5 0 0) = true ∧ (asking 5 0 0 flagged).dev.change.loadingFlag = true
      ∧ meets (asking 6 0 0 id) (request 6 0 0) = true ∧ (asking 6 0 0 id).dev.change.state = .idle
      ∧ meets (asking 6 0 0 (withCopy .cued scene)) (request 6 0 0) = true
      ∧ (asking 6 0 0 (withCopy .cued scene)).dev.change.load = none
      ∧ (asking 6 0 0 (withCopy .cued scene)).dev.change.go = none
      ∧ (asking 6 0 0 (inFlight .armed)).dev.change.go = some { origin := .request 5 502, waiting := false } := by
  decide +kernel

/-- A CANCEL in LOADING with a waiting GO request: the cue, the GO and then the CANCEL are completed (R125). -/
theorem test_cancelLoading :
    let t := run .cancel (asking 6 0 0 fun d =>
      { d with
        change := (copyingFor .loading (some { origin := .request 3 1, waiting := true }) none
          (copying (.sceneRecord 1) (.cueScene 5 7) (some 1) 0)).dev.change })
    t.dev.req.completions.map (fun c => (c.slot, c.code, c.value)) = [(5, .cancelled, 0), (3, .cancelled, 0), (2, .ok, 1)]
      ∧ handed t = [.cueTaken 0 .cancelled 0 (.cueScene 5 7) (some 1) none, .changeCancelled (some 1) .loading false] := by
  decide +kernel

/-- The entry messages of a deferral that RELEASE_ALL ends follow every release of its second step, and that of a
destination held no more is sent too (R41, R137). -/
theorem test_releaseAllOrder :
    let other : Voice :=
      { voice40 .sounding .pending with dests := [{ key := { dest := { port := 2, channel := 1 }, key := 7 }, flag := .pending }] }
    let t := run .releaseAll (asking 13 0 0 fun d =>
      { d with
        stage := { (withVoice 6 other (withVoice 5 (voice40 .sounding .pending) d)).stage with deferrals := [deferral] } })
    t.dev.stage.ports[2].main = [msg .keyUp 0 40 0, msg .keyUp 1 7 0, msg .program 0 12 3] ∧ t.dev.stage.deferrals = [] := by
  decide +kernel

/-- `UnlockClearsLocks` and `ReleaseAllReleases`. -/
theorem witness_plainRequests :
    meets (asking 7 0 0 withZones) (request 7 0 0) = true
      ∧ meets (asking 13 0 0 (withVoice 5 (voice40 .sounding .pending))) (request 13 0 0) = true := by decide +kernel

/-- `ReloadAppliesTheSection`: the arguments 0 and 6 beside 1 to 5, and for each section its reads, which may fail; a
journal section with the offset and capacity of the map and with others. -/
theorem witness_reloads :
    let s (n : Word) := asking 14 n 0 id
    let read (off n : Nat) (bus : Bus) := (portRead { mem := [], bus := bus } (rigAddress (s 1).dev off) n).1
    let parts (bus : Bus) := match (readParts (s 1).dev [(34, 2), (39, 1)] { mem := [], bus := bus }).1 with
      | .ok ps => some (ps.map List.length)
      | .error _ => none
    [0, 1, 2, 3, 4, 5, 6].all (fun n : Word => meets (s n) (request 14 n 0)) = true
      ∧ (∀ sec ∈ [1, 2, 3, 4, 5], (sectionOf sec).isSome = true) ∧ (s 1).mem = []
      ∧ (∀ n : Fin 4, (s 1).dev.click.lines[n].endsAt = none) ∧ (∀ n : Fin 8, (s 2).dev.pedals[n].pressed = false)
      ∧ (read 48 64 []).isSome = true ∧ (read 112 32 []).isSome = true
      ∧ read 40 4 [stored 40 [97, 7, 0xF5, 1]] = some [97, 7, 0xF5, 1] ∧ read 40 4 failing = none
      ∧ parts [] = some [2, 1] ∧ parts failing = none ∧ parts (quietAccess :: failing) = none
      ∧ (read 24 10 [stored 24 (bytesOf 4 1024 ++ bytesOf 2 64)]).map (fun bs => (fieldAt bs 0 4, fieldAt bs 4 2))
        = some (1024, 64)
      ∧ (read 24 10 []).map (fieldAt · 0 4) = some 0 := by decide +kernel

/-- A RELOAD of those sync fields clamps all three: 96, 6 and 500 (R91, R99). -/
theorem test_reloadSync :
    let t := run (.reload [stored 40 [97, 7, 0xF5, 1]]) (asking 14 3 0 id)
    (t.dev.sync.division, t.dev.sync.window, t.dev.sync.deadband) = (96, 6, 500) ∧ t.dev.clampCount = 3 := by decide +kernel

/-- `StatePageIsRewritten`: a rewrite under way, on a quiet bus and a failing one, and a retry at its moment. -/
theorem witness_page :
    let image := (on id).dev.pageImage 7
    let s := on fun d => { d with page := { d.page with editCount := 7, running := some image, owed := true } }
    let retry := on fun d => { d with page := { d.page with retryAt := some 0 } }
    s.isReady = true ∧ s.dev.page.running = some image
      ∧ (portWriteAll { mem := s.mem, bus := [] } (pageWrites 768 image)).1 = true
      ∧ (portWriteAll { mem := s.mem, bus := failing } (pageWrites 768 image)).1 = false
      ∧ retry.isReady = true ∧ retry.dev.page.running = none ∧ retry.dev.page.retryAt = some 0
      ∧ reached retry.dev.now 0 = true := by decide +kernel

/-- The page of the ONLINE part after reset: magic, engine ONLINE, no scene, T = 12000 (R198). -/
theorem test_pageImage :
    let image := (on id).dev.pageImage 7
    image.take 14 = [7, 0, 0, 0, 0x31, 0x41, 0x54, 0x53, 2, 0, 255, 255, 0, 0]
      ∧ (image.drop 14).take 2 = [0xFF, 0xFF] ∧ (image.drop 28).take 2 = [0xE0, 0x2E] := by decide +kernel

/-- An entry that waits under a journal mode and a class mask, behind a loss run. -/
def waiting (mode : JournalMode) (mask : BitVec 3) (lost : Nat) (written : Word) : State :=
  on fun d =>
    { d with
      jw := { d.jw with
        written := written
        loss := { LossRun.clear with count := lost }
        queue :=
          [{ entry := .setEnd .next none, stamp := d.stampNow, mode := mode, watermark := 48, mask := mask
             rearm := false }] } }

/-- `JournalTakesEntries`: a class outside the mask; OVERWRITE on a quiet and a failing bus; STOP with its read failed, at a
full ring and beyond it, with room on a quiet and a failing bus, and with a loss run at two free slots and at the last. -/
theorem witness_journal :
    let s := waiting .overwrite 7 0 1000
    let t := waiting .stop 7 0 1064
    let put (u : State) (bus : Bus) :=
      (portWriteAll { mem := u.mem, bus := bus } (journalWrites (u.dev.journalAddress u.dev.jw.written) [] 0)).1
    let consumed (n : Nat) := (portRead { mem := t.mem, bus := [stored 44 (bytesOf 4 n)] } (rigAddress t.dev 44) 4).1.map natOf
    (waiting .stop 0 0 0).isOnline = true ∧ (Entry.setEnd .next none).cls.mask &&& 7 ≠ 0
      ∧ s.isOnline = true ∧ s.dev.jw.queue.length = 1 ∧ s.dev.jw.loss.count = 0 ∧ s.dev.layout.capacity ≤ 65535
      ∧ put s [] = true ∧ put s failing = false
      ∧ t.isOnline = true ∧ (portRead { mem := t.mem, bus := failing } (rigAddress t.dev 44) 4).1 = none
      ∧ consumed 1000 = some 1000 ∧ 1064 - 1000 = t.dev.layout.capacity ∧ consumed 999 = some 999
      ∧ consumed 1001 = some 1001 ∧ 1064 - 1001 < t.dev.layout.capacity ∧ put t [] = true ∧ put t failing = false
      ∧ (waiting .stop 7 2 1064).isOnline = true ∧ 0 < (waiting .stop 7 2 1064).dev.jw.loss.count
      ∧ 1064 - 1002 + 1 < t.dev.layout.capacity ∧ 1064 - 1001 + 1 = t.dev.layout.capacity := by decide +kernel

/-- Entry 1000 of the OVERWRITE ring lands in slot 40 with its sequence, and the count is 1001 (R155). -/
theorem test_journalWrite :
    let t := run (.journalWriteCompletion []) (waiting .overwrite 7 0 1000)
    memReadBytes t.mem (1024 + 40 * 32) 4 = [0xE8, 3, 0, 0] ∧ t.dev.jw.written = 1001 ∧ t.dev.jw.queue = [] := by
  decide +kernel

/-- With two entries lost and one slot free the GAP takes it, entry 1063, and the entry is lost again (R159, R160). -/
theorem test_gap :
    let t := run (.journalWriteCompletion [stored 44 (bytesOf 4 1000)]) (waiting .stop 7 2 1063)
    memReadBytes t.mem (1024 + 39 * 32) 4 = [0x27, 4, 0, 0] ∧ memRead t.mem (1024 + 39 * 32 + 8) = 63 ∧ t.dev.jw.written = 1064 ∧ t.dev.jw.loss.count = 1 := by
  decide +kernel

/-- A reset that strikes the entry's body after its GAP: the GAP stands whole in slot 43 and nothing in slot 44 (R160,
R193). -/
theorem test_cutBehindGap :
    let cut := { Machine.ResetCut.clean with journal := [stored 44 (bytesOf 4 1000), quietAccess, quietAccess] }
    let t := run (.resetPinAssert cut) (waiting .stop 7 2 1003)
    memReadBytes t.mem (1024 + 43 * 32) 4 = [0xEB, 3, 0, 0] ∧ memRead t.mem (1024 + 43 * 32 + 8) = 63
      ∧ memReadBytes t.mem (1024 + 44 * 32) 12 = List.replicate 12 0 ∧ t.resetLow = true := by decide +kernel

/-- A reset that finds more accesses made than the taking has strikes its last one: in both modes, and behind a GAP that
left no room, the body stands and the sequence of the slot was not written (R160, R167). -/
theorem test_cutAtSequence :
    let cut := { Machine.ResetCut.clean with journal := stored 44 (bytesOf 4 1000) :: List.replicate 3 quietAccess }
    let slot (s : State) (k : Nat) := memReadBytes (run (.resetPinAssert cut) s).mem (1024 + k * 32) 9
    slot (waiting .stop 7 0 1000) 40 = [0, 0, 0, 0, 0, 0, 0, 0, 21]
      ∧ slot (waiting .overwrite 7 0 1000) 40 = [0, 0, 0, 0, 0, 0, 0, 0, 21]
      ∧ slot (waiting .stop 7 2 1063) 39 = [0, 0, 0, 0, 0, 0, 0, 0, 63] := by decide +kernel

/-- Which command a write is, at both ends of each register and around them (R184, R201, R202). -/
theorem test_registerMap :
    let cut := Machine.ResetCut.clean
    let goes (as : List Word) (c : Word → Instr) := as.all fun a => decide (registerWriteCommand a (write 1) cut = c a)
    goes [4, 7] (fun _ => .controlEnableSet (write 1)) = true ∧ goes [8, 11] (fun _ => .area (write 1)) = true
      ∧ goes [12, 15] (fun _ => .notice (write 1)) = true ∧ goes [20, 23] (fun _ => .ack (write 1)) = true
      ∧ goes [0, 3, 16, 19, 24] (fun a => .ignoredRegisterWrite a (write 1)) = true
      ∧ registerWriteCommand 4 (write 0) cut = .controlEnableClear (write 0)
      ∧ registerWriteCommand 4 (write 0x80000001) cut = .controlReset (write 0x80000001) cut := by decide +kernel

/-- `RegisterWritesAreTaken`, `EnableMovesTheEngine`, `RegistersReadBack` and `DeviceResetIsWhole`: words and engine states
of each clause. -/
theorem witness_registers :
    let enabled (e : EngineState) (f : Device → Device) :=
      inState e fun d => f { d with regs := { d.regs with control := 1 } }
    (inState .offline id).isReady = true ∧ (inState .faulted id).isReady = true ∧ (inState .loading id).isReady = true
      ∧ (regWord (write 0x70)).getLsbD 31 = false
      ∧ (regWord (write 0x70)).getLsbD 0 = (inState .offline id).dev.regs.control.getLsbD 0
      ∧ (regWord (write 1)).getLsbD 0 = true ∧ (enabled .draining (withPort 2 (crowded 100))).isReady = true
      ∧ (enabled .loading id).isReady = true ∧ (enabled .faulted id).dev.regs.control.getLsbD 0 = true
      ∧ (regWord (write 0)).getLsbD 0 = false ∧ (inState .draining (withPort 2 (crowded 100))).isReady = true
      ∧ (inState .draining (withPort 2 (crowded 100))).dev.regs.control.getLsbD 0 = false
      ∧ (regWord (write 0x80000000)).getLsbD 31 = true ∧ State.reset.resetLow = false
      ∧ State.reset.dev.page.running = none ∧ State.reset.dev.req.completions = []
      ∧ (∀ k : Fin 8, State.reset.dev.retryDue k = none) ∧ State.reset.dev.jw.queue = [] ∧ lanesWritten (write 1) = true := by
  decide +kernel

/-- `ClearingEnableDrains`: with a message in a main queue, in a backlog or in a lane, and with nothing to send. -/
theorem witness_drainBegins :
    let enabled (f : Device → Device) := on fun d => f { d with regs := { d.regs with control := 1 } }
    (enabled (withPort 2 (crowded 100))).isOnline = true ∧ (enabled (withPort 2 (crowded 100))).dev.stage.ports[2].main ≠ []
      ∧ (enabled (withPort 2 { crowded 100 with backlog := [msg .keyUp 0 1 0] })).isOnline = true
      ∧ (enabled (withPort 2 { ModulePort.reset with lane := [msg .keyUp 0 1 0], tx := .sendingLane 9 })).isOnline = true
      ∧ (enabled id).isOnline = true ∧ (enabled id).dev.regs.control.getLsbD 0 = true
      ∧ (enabled id).dev.jw.queue = [] ∧ (enabled id).dev.tempo.transport = .stopped ∧ (enabled id).dev.tempo.glide = none
      ∧ (enabled id).dev.change.load = none
      ∧ (∀ k : Fin 128, (enabled id).dev.stage.voices[k] = none)
      ∧ (∀ p : Fin 6, (enabled id).dev.stage.ports[p].isEmpty = true) ∧ (enabled id).dev.stage.deferrals = []
      ∧ (∀ n : Fin 4, (enabled id).dev.click.lines[n].sounding = none)
      ∧ (enabled fun d => { d with tempo := { d.tempo with transport := .playing } }).isOnline = true
      ∧ (enabled id).dev.stage.isQuiet = true := by decide +kernel

/-- An enable cleared with nothing to send: OFFLINE at once, and the rewrite begun shows it (R181, R189). -/
theorem test_drainAtOnce :
    let t := run (.controlEnableClear (write 0)) (on fun d => { d with regs := { d.regs with control := 1 } })
    t.dev.engine.state = .offline ∧ t.dev.page.running.map (fieldAt · 8 1) = some 0 := by decide +kernel

/-- A PLAYING part with nothing to send is OFFLINE at once too: its TRANSPORT entry, here of a class outside the mask, is
taken as the drain ends (R60, R157, R189). -/
theorem test_drainAtOncePlaying :
    let t := run (.controlEnableClear (write 0)) (on fun d =>
      { d with
        regs := { d.regs with control := 1 }, tempo := { d.tempo with transport := .playing }
        jw := { d.jw with mask := 0 } })
    t.dev.engine.state = .offline ∧ t.dev.tempo.transport = .stopped ∧ t.dev.jw.queue = [] ∧ t.drains = 1 := by
  decide +kernel

/-- The map above as the first bytes of a header: magic, version, set list length, offsets and capacity (R195). -/
def header : List Byte :=
  bytesOf 4 0x52494731 ++ bytesOf 2 1 ++ bytesOf 2 6 ++ bytesOf 4 4096 ++ bytesOf 4 256 ++ bytesOf 4 512 ++ bytesOf 4 768
    ++ bytesOf 4 1024 ++ bytesOf 2 64

/-- `HeaderReadEndsLoading`: a failed read, an empty header (field 1), and the header above with a page that is not whole,
one that is, and one that cannot be read. -/
theorem witness_header :
    let s := inState .loading id
    let read (bus : Bus) := portRead { mem := s.mem, bus := bus } (rigAddress s.dev 0) 256
    let good := read [stored 0 header]
    s.isReady = true ∧ s.dev.headerReadUnderWay = true ∧ (read failing).1 = none
      ∧ (read []).1.bind layoutFault = some 1 ∧ good.1.isSome = true ∧ good.1.bind layoutFault = none
      ∧ good.1.map layoutOf = some map
      ∧ (portRead good.2 (rigAddress s.dev 768) 64).1.map (fieldAt · 4 4) = some 0
      ∧ (portRead (read [stored 0 header, stored 772 (bytesOf 4 0x53544131)]).2 (rigAddress s.dev 768) 64).1.map (fieldAt · 4 4)
        = some 0x53544131
      ∧ (portRead (read (stored 0 header :: failing)).2 (rigAddress s.dev 768) 64).1 = none := by decide +kernel

/-- LOADING from that header: ONLINE under the map, T at 2000 for a tempo field of 0, notice pending (R62, R183, R187). -/
theorem test_loading :
    let t := run (.headerReadCompletion [stored 0 header]) (inState .loading id)
    t.dev.engine.state = .online ∧ t.dev.layout = map ∧ t.dev.tempo.t = 2000 ∧ t.dev.req.notice = true
      ∧ t.dev.page.editCount = 1 := by decide +kernel

/-- `DrainEnds`: a quiet part, one with a single frame at its end, one with messages left and a journal entry to take, and
the drain limit with messages left, and with a voice entry alone. -/
theorem witness_drainEnds :
    let quiet := inState .draining id
    let last := inState .draining
      (withPort 2 { ModulePort.reset with main := [msg .keyUp 0 1 0], tx := .sendingMain 0 })
    let late := inState .draining fun d =>
      { withPort 2 (crowded 100) d with engine := { d.engine with drainAt := some 0 } }
    let entry := inState .draining fun d => withPort 2 (crowded 100) { d with jw := (waiting .overwrite 7 0 0).dev.jw }
    let voice := inState .draining fun d =>
      { withVoice 5 (voice40 .releasing .owed) d with engine := { d.engine with drainAt := some 0 } }
    entry.isReady = true ∧ entry.dev.jw.queue.length = 1
      ∧ late.dev.stage.isQuiet = false ∧ voice.isReady = true ∧ voice.dev.stage.isQuiet = false
      ∧ (∀ p : Fin 6, voice.dev.stage.ports[p].tx = .idle) ∧ voice.dev.jw.queue = []
      ∧ quiet.dev.stage.entries = []
      ∧ quiet.dev.stage.isQuiet = true ∧ last.isReady = true ∧ last.dev.engine.restart = false
      ∧ (∀ k : Fin 128, last.dev.stage.voices[k] = none)
      ∧ (∀ q : Fin 6, q ≠ 2 → last.dev.stage.ports[q].isEmpty = true)
      ∧ last.dev.stage.ports[2].main = [msg .keyUp 0 1 0] ∧ reached last.dev.now 0 = true
      ∧ late.isReady = true ∧ late.dev.engine.drainAt = some 0 := by decide +kernel

end Sys2Proof.Tests
end

section
/-! Requests of the change unit: what a refused request and a cue request leave (R116, R176). -/
namespace Sys2Proof.Machine

open Sys2Proof

/-- The scan that goes on gives no completion (R175). -/
@[simp] theorem RequestUnit.nextSlot_completions (q : RequestUnit) :
  q.nextSlot.completions = q.completions := by
  unfold RequestUnit.nextSlot RequestUnit.endScan
  split
  · split <;> rfl
  · rfl

/-! ## Requests that change nothing but their slot -/

/-- A request that its owner only completes: nothing else happens. -/
theorem State.request_only_answered {s : State} {r : Request} {fits : Byte → Bool}
    {body : Request → Device → Device}
    {code : ResultCode} {value : Nat} (hon : s.isOnline = true) (hreq : s.dev.req.handedRequest = some r)
    (hf : fits r.kind = true)
    (hb : body r (s.dev.beginEvent.onReq RequestUnit.beginWork) =
      (s.dev.beginEvent.onReq RequestUnit.beginWork).answer r code value) :
    ∃ t, t = s.request fits body ∧ Answered r code value s t ∧ Journaled [] s t ∧ EventChanges [.req] s t := by
  obtain ⟨-, -, hen, -⟩ := State.isOnline_spec hon
  obtain ⟨t, ht, -, h⟩ := State.request_answered (s.dev.beginEvent.onReq RequestUnit.beginWork)
    [] [.req] hon hreq hf hb
    rfl rfl rfl hen rfl rfl (by simp) (by intro b; cases b <;> simp [Block.agrees, Device.beginEvent])
  exact ⟨t, ht, h⟩

/-! ## Cues (R116) -/

/-- A cue may begin in IDLE, in CUED, and in HELD with the loading flag clear (R116). -/
theorem ChangeUnit.mayCue_iff (c : ChangeUnit) :
    c.mayCue = true ↔ c.state = .idle ∨ c.state = .cued ∨ (c.state = .held ∧ c.loadingFlag = false) := by
  unfold ChangeUnit.mayCue
  cases c.state <;> simp

/-- No cue may begin in LOADING, in ARMED, and in HELD with the loading flag set (R116). -/
theorem ChangeUnit.mayCue_eq_false_iff (c : ChangeUnit) :
    c.mayCue = false ↔ c.state = .loading ∨ c.state = .armed ∨ (c.state = .held ∧ c.loadingFlag = true) := by
  unfold ChangeUnit.mayCue
  cases c.state <;> simp

/-- The change unit with a cue just begun in its load buffer, and its first read asked (R12, R14, R116). -/
def ChangeUnit.withCue (c : ChangeUnit) (o : CueOrigin) (position : Option Nat) (scene : Option (BitVec 7))
    (target : CopyTarget) : ChangeUnit :=
  { c with
    load := some { origin := o, position := position, scene := scene, reads := 0, headRead := 0, retryAt := none }
    reads := c.reads ++ [{ target := target, abandoned := false }] }

/-- In HELD a cue sets the loading flag, and the pending copy stays (R116). -/
theorem ChangeUnit.beginCue_of_held {c : ChangeUnit} (h : c.state = .held) (o : CueOrigin)
    (position : Option Nat)
    (scene : Option (BitVec 7)) (target : CopyTarget) :
    c.beginCue o position scene target = { c.withCue o position scene target with loadingFlag := true } := by
  unfold ChangeUnit.beginCue
  rw [if_pos h]
  rfl

/-- Elsewhere a cue makes the state LOADING, and a pending copy is discarded (R116). -/
theorem ChangeUnit.beginCue_of_not_held {c : ChangeUnit} (h : c.state ≠ .held) (o : CueOrigin)
    (position : Option Nat)
    (scene : Option (BitVec 7)) (target : CopyTarget) :
    c.beginCue o position scene target =
      { c.withCue o position scene target with state := .loading, copy := none } := by
  unfold ChangeUnit.beginCue
  rw [if_neg h]
  rfl

/-- What a cue request leaves, by change state: `begun` is the change unit with the cue in its load buffer (R116). -/
structure CueRequestSays (s : State) (r : Request) (begun : ChangeUnit) (o : Host.Outcome State Fault Refusal) :
    Prop where
  discards : s.dev.change.state = .idle ∨ s.dev.change.state = .cued →
    ∃ t, o = .next t ∧ t.dev.change = { begun with state := .loading, copy := none }
      ∧ KeptInFlight s t ∧ Journaled [] s t ∧ EventChanges [.change, .req] s t
  flags : s.dev.change.state = .held → s.dev.change.loadingFlag = false →
    ∃ t, o = .next t ∧ t.dev.change = { begun with loadingFlag := true }
      ∧ KeptInFlight s t ∧ Journaled [] s t ∧ EventChanges [.change, .req] s t
  busy : s.dev.change.state = .loading ∨ s.dev.change.state = .armed ∨
      (s.dev.change.state = .held ∧ s.dev.change.loadingFlag = true) →
    ∃ t, o = .next t ∧ Answered r .busy 0 s t ∧ Journaled [] s t ∧ EventChanges [.req] s t

/-- A request whose owner begins a cue where one may begin, and is BUSY elsewhere (R116). -/
theorem State.cueRequest_says {s : State} {r : Request} {fits : Byte → Bool} {body : Request → Device → Device}
    (o : CueOrigin) (position : Option Nat) (scene : Option (BitVec 7)) (target : CopyTarget)
    (hon : s.isOnline = true)
    (hreq : s.dev.req.handedRequest = some r) (hf : fits r.kind = true)
    (hbody : ∀ d : Device, d.layout = s.dev.layout →
      body r d = if d.change.mayCue then d.onChange (·.beginCue o position scene target) else d.answer r .busy 0) :
    CueRequestSays s r (s.dev.change.withCue o position scene target) (.next (s.request fits body)) := by
  obtain ⟨-, -, hen, -⟩ := State.isOnline_spec hon
  have begins (hmay : s.dev.change.mayCue = true) :
      ∃ t, (.next (s.request fits body) : Host.Outcome State Fault Refusal) = .next t
        ∧ t.dev.change = s.dev.change.beginCue o position scene target
        ∧ KeptInFlight s t ∧ Journaled [] s t ∧ EventChanges [.change, .req] s t := by
    obtain ⟨t, ht, ⟨p, q, hst⟩, hj, hc⟩ := State.request_outcome
      ((s.dev.beginEvent.onReq RequestUnit.beginWork).onChange
        (·.beginCue o position scene target)) [] [.change, .req]
      hon hreq hf ((hbody (s.dev.beginEvent.onReq RequestUnit.beginWork) rfl).trans (if_pos hmay)) hen rfl rfl
      (by simp)
      (by intro b; cases b <;> simp [Block.agrees, Device.beginEvent])
    refine ⟨t, by rw [ht], by rw [hst]; rfl, ⟨by rw [hst]; rfl, ?_⟩, hj, hc⟩
    rw [hst]
    exact RequestUnit.nextSlot_completions _
  refine ⟨fun h => ?_, fun hs hl => ?_, fun h => ?_⟩
  · have hn : s.dev.change.state ≠ .held := by rcases h with h | h <;> simp [h]
    rw [← ChangeUnit.beginCue_of_not_held hn]
    exact begins ((ChangeUnit.mayCue_iff _).2 (h.imp_right Or.inl))
  · rw [← ChangeUnit.beginCue_of_held hs]
    exact begins ((ChangeUnit.mayCue_iff _).2 (Or.inr (Or.inr ⟨hs, hl⟩)))
  · have hmay := (ChangeUnit.mayCue_eq_false_iff _).2 h
    obtain ⟨t, ht, h⟩ := State.request_only_answered (body := body) (code := .busy) (value := 0) hon hreq hf
      ((hbody (s.dev.beginEvent.onReq RequestUnit.beginWork) rfl).trans
        (if_neg (by simp [Device.beginEvent, hmay])))
    exact ⟨t, by rw [ht], h⟩

/-- Settles O42: each kind is one use of `State.cueRequest_says`, once its argument is in range. -/
theorem cueRequestsBeginCopies : Obligations.CueRequestsBeginCopies := by
  intro s r hon cue
  constructor
  · rintro ⟨hreq, hk⟩ n begun
    have hf : decide (r.kind = 1#8) = true := decide_eq_true hk
    have outcomes (hn : r.arg1.toNat ≤ 127) : CueRequestSays s r begun (exec .cueScene s) :=
      State.cueRequest_says (fits := fun k => decide (k = 1#8)) (.cueScene r.slot r.tag) none
        (some n) (.sceneRecord n)
        hon hreq hf fun d _ => if_neg (Nat.not_lt.2 hn)
    refine ⟨fun hn => ?_, fun hn => (outcomes hn).discards, fun hn => (outcomes hn).flags,
      fun hn => (outcomes hn).busy⟩
    obtain ⟨t, ht, h⟩ := State.request_only_answered (fits := fun k => decide (k = 1#8))
      (body := Device.cueSceneRequest) hon hreq hf (if_pos hn)
    exact ⟨t, congrArg _ ht.symm, h⟩
  · rintro ⟨hreq, hk⟩ begun
    have hf : decide (r.kind = 2#8) = true := decide_eq_true hk
    have outcomes (hp : r.arg1.toNat < s.dev.layout.setListLength) : CueRequestSays s r begun
      (exec .cuePosition s) :=
      State.cueRequest_says (fits := fun k => decide (k = 2#8)) (.cuePosition r.slot r.tag)
        (some r.arg1.toNat) none
        (.setListEntry r.arg1.toNat) hon hreq hf fun d hd => if_neg (by rw [hd]; exact Nat.not_le.2 hp)
    refine ⟨fun hp => ?_, fun hp => (outcomes hp).discards, fun hp => (outcomes hp).flags,
      fun hp => (outcomes hp).busy⟩
    obtain ⟨t, ht, h⟩ := State.request_only_answered (fits := fun k => decide (k = 2#8))
      (body := Device.cuePositionRequest) hon hreq hf (if_pos hp)
    exact ⟨t, congrArg _ ht.symm, h⟩

end Sys2Proof.Machine
end

section
/-! What the end of a cue leaves: its completions, the refusals of R118, the withdrawal of R125, and the
journal (R16, R19). -/
namespace Sys2Proof.Machine

open Sys2Proof

/-! ## Completions given (R177) -/

/-- The request unit with completions given, in order. -/
def RequestUnit.give (q : RequestUnit) (cs : List Completion) : RequestUnit :=
  { q with completions := q.completions ++ cs }

@[simp] theorem RequestUnit.give_working (q : RequestUnit) (cs : List Completion) :
    (q.give cs).working = q.working := rfl

@[simp] theorem RequestUnit.give_give (q : RequestUnit) (cs cs' : List Completion) :
    (q.give cs).give cs' = q.give (cs ++ cs') := by
  simp [RequestUnit.give]

/-- A completion of a slot, as `completionOf` spells it. -/
theorem Device.complete_eq {s : State} {d : Device} (hl : d.layout = s.dev.layout)
    (ha : d.regs.area = s.dev.regs.area) (slot : Fin 8) (tag : Word) (code : ResultCode) (value : Nat) :
    d.complete slot tag code (BitVec.ofNat 32 value) =
      d.onReq (·.give [completionOf s d.stampHere d.req.working slot tag code value]) := by
  simp [Device.complete, Device.onReq, RequestUnit.give, completionOf, rigAddress, slotOffset, hl, ha]

/-- Completing the request at hand, as `completionOf` spells it (R177). -/
theorem Device.answer_eq {s : State} {d : Device} (hl : d.layout = s.dev.layout)
    (ha : d.regs.area = s.dev.regs.area) (r : Request) (code : ResultCode) (value : Nat) :
    d.answer r code value =
      d.onReq (·.give [completionOf s d.stampHere d.req.working r.slot r.tag code value]) :=
  d.complete_eq hl ha r.slot r.tag code value

/-- The completion of a cue's end (R117, R118, R125). -/
theorem Device.completeCue_eq {s : State} {d : Device} (hl : d.layout = s.dev.layout)
    (ha : d.regs.area = s.dev.regs.area) (o : CueOrigin) (code : ResultCode) (value : Nat) :
    d.completeCue o code value = d.onReq (·.give (cueCompletion s d.stampHere d.req.working o code value)) := by
  have none_given : d = d.onReq (·.give []) := by simp [Device.onReq, RequestUnit.give]
  cases o with
  | cueScene slot tag => exact d.complete_eq hl ha slot tag code value
  | cuePosition slot tag => exact d.complete_eq hl ha slot tag code value
  | next => exact none_given
  | prev => exact none_given
  | programSelect => exact none_given

/-- The completion of a go's end (R118, R125, R133). -/
theorem Device.completeGo_eq {s : State} {d : Device} (hl : d.layout = s.dev.layout)
    (ha : d.regs.area = s.dev.regs.area) (g : Option GoFlight) (code : ResultCode) (value : Nat) :
    d.completeGo g code value = d.onReq (·.give (goCompletion s d.stampHere d.req.working g code value)) := by
  have none_given : d = d.onReq (·.give []) := by simp [Device.onReq, RequestUnit.give]
  match g with
  | none => exact none_given
  | some { origin := .request slot tag, waiting := _ } => exact d.complete_eq hl ha slot tag code value
  | some { origin := .goPedal, waiting := _ } => exact none_given
  | some { origin := .next, waiting := _ } => exact none_given
  | some { origin := .prev, waiting := _ } => exact none_given
  | some { origin := .programSelect, waiting := _ } => exact none_given

/-- After completions of which one is the scan's own, the scan goes on and waits for them (R175). -/
theorem RequestUnit.nextSlot_give {q : RequestUnit} {r : Request} (hr : q.handedRequest = some r)
    {cs : List Completion} (hc : ∃ c ∈ cs, c.inScan = true) :
    (q.beginWork.give cs).nextSlot =
      { q with
        completions := q.completions ++ cs
        scan := q.scan.map fun (sc : Scan) => { slot := sc.slot + 1, phase := .visiting } } := by
  obtain ⟨n, hn⟩ := RequestUnit.handedRequest_spec hr
  have hw : (q.completions ++ cs).any (·.inScan) = true := by
    obtain ⟨c, hmem, hin⟩ := hc
    exact List.any_eq_true.2 ⟨c, List.mem_append_right _ hmem, hin⟩
  simp [RequestUnit.nextSlot, RequestUnit.endScan, RequestUnit.give, RequestUnit.beginWork,
    RequestUnit.scanWaits, hn,
    hw]

/-- While a request is carried out, the scan's own request is at work (R175). -/
theorem RequestUnit.beginWork_working {q : RequestUnit} {r : Request} (hr : q.handedRequest = some r) :
    q.beginWork.working = true := by
  obtain ⟨n, hn⟩ := RequestUnit.handedRequest_spec hr
  simp [RequestUnit.working, RequestUnit.beginWork, hn]

/-! ## A cue that is refused (R118) -/

/-- The change unit after a copy that left no pending copy (R118). -/
def ChangeUnit.refuseCue (c : ChangeUnit) : ChangeUnit :=
  match c.state with
  | .loading => { c with load := none, state := .idle, go := none }
  | .held => { c with load := none, loadingFlag := false }
  | _ => { c with load := none }

/-- The completions of a refused cue: its own, and in LOADING that of a waiting GO request (R118). -/
def refusalCompletions (s : State) (stamp : Stamp) (c : ChangeUnit) (o : CueOrigin)
  (code : ResultCode) (value : Nat) :
    List Completion :=
  cueCompletion s stamp s.dev.req.working o code value ++
    if c.state = .loading then goCompletion s stamp s.dev.req.working c.go .notReady 0 else []

/-- A refused cue: the change unit, the completions and the CUE_TAKEN entry (R118). -/
theorem Device.copyFailed_eq {s : State} {d : Device} (hl : d.layout = s.dev.layout)
    (ha : d.regs.area = s.dev.regs.area) (hq : d.req = s.dev.req) (ld : Load) (code : ResultCode)
    (value : Nat) :
    d.copyFailed ld code value =
      ((d.onChange ChangeUnit.refuseCue).onReq
        (·.give (refusalCompletions s d.stampHere d.change ld.origin code value))).emit
        (.cueTaken ld.headRead code value ld.origin ld.scene ld.position) := by
  unfold Device.copyFailed
  rw [Device.completeCue_eq (s := s) (by simpa using hl) (by simpa using ha)]
  dsimp only
  cases hst : d.change.state <;>
    simp [Device.completeGo_eq (s := s), hl, ha, hq, hst, refusalCompletions, ChangeUnit.refuseCue,
      Device.onChange,
      Device.onReq, Device.emit, Device.stampHere]

/-- What `CueRefused` asks, by the change unit and the completions. -/
theorem CueRefused.of_eqs {s t : State} {ld : Load} {code : ResultCode} {value : Nat}
    (hc : t.dev.change = s.dev.change.popRead.refuseCue)
    (hq : t.dev.req =
      s.dev.req.give (refusalCompletions s s.dev.stampNow s.dev.change ld.origin code value)) :
    CueRefused s t ld code value := by
  refine ⟨fun h => ⟨?_, ?_⟩, fun h => ⟨?_, ?_⟩⟩
  · simp [hc, ChangeUnit.refuseCue, ChangeUnit.popRead, h]
  · simp [Completed, hq, RequestUnit.give, refusalCompletions, h]
  · simp [hc, ChangeUnit.refuseCue, ChangeUnit.popRead, h]
  · simp [Completed, hq, RequestUnit.give, refusalCompletions, h]

/-- The part after the front read of the change unit: the read has left the port, and its failure, if any, stands in the
registers and in the entries handed (R14, R16). -/
def Device.readEnded (d : Device) (regs : Registers) (es : List Entry) : Device :=
  { d.onChange ChangeUnit.popRead with regs := regs, stage := { d.stage with entries := es } }

/-- A read that ends its cue: `regs` and `es` are what the read itself leaves in the registers and in the entries, `bs`
the register blocks that it touches (R16, R118). -/
theorem State.copyFailed_outcome {s : State} {bus : Bus}
    {body : Device → PortRun → Device × PortRun} {run : PortRun}
    {ld : Load} {code : ResultCode} {value : Nat} (regs : Registers) (es : List Entry) (bs : List Block)
    (hon : s.isOnline = true) (ha : regs.area = s.dev.regs.area)
    (hbs : ∀ b : Block, b ∈ bs ∨ b.agrees s { s with dev := { s.dev with regs := regs } })
    (hb : body s.dev.beginEvent { mem := s.mem, bus := bus } =
      ((s.dev.beginEvent.readEnded regs es).copyFailed ld code value, run)) :
    ∃ t, t = s.portEvent true bus body ∧ t.mem = run.mem ∧ CueRefused s t ld code value ∧ t.dev.regs = regs
      ∧ Journaled (es ++ [.cueTaken ld.headRead code value ld.origin ld.scene ld.position]) s t
      ∧ EventChanges ([.change, .req, .mem] ++ bs) s t := by
  obtain ⟨hr, hst, hen, hpc⟩ := State.isOnline_spec hon
  rw [Device.copyFailed_eq (s := s) (d := s.dev.beginEvent.readEnded regs es) rfl ha rfl] at hb
  obtain ⟨t, ht, hm, ⟨p, q, hs⟩, hj, hc⟩ := State.portEvent_outcome _ run _
    ([.change, .req, .mem] ++ bs) rfl hr hen hpc
    (Or.inl (by simp [hst, EngineState.isRunning])) hb rfl rfl
    (Device.drainOver_of_state (by simp [hst, Device.beginEvent, Device.readEnded])) (by simp)
    (by intro b; cases b <;> simp [Block.agrees, Device.beginEvent, Device.readEnded] <;> exact hbs _)
  refine ⟨t, ht, hm, CueRefused.of_eqs ?_ ?_, ?_, hj, hc⟩
  · rw [hs]; rfl
  · rw [hs]; rfl
  · rw [hs]; rfl

end Sys2Proof.Machine
end

section
/-! Reads of the set list (R12) and of scene records (R14 to R17). -/
namespace Sys2Proof.Machine

open Sys2Proof

/-! ## What a read leaves -/

/-- A read that failed leaves the MEMORY fault and its entry (R16). -/
theorem Device.memoryFailure_popRead (d : Device) (off : Nat) (user : MemoryUser) (h : d.stage.entries = []) :
    (d.onChange ChangeUnit.popRead).memoryFailure off user =
      d.readEnded (d.regs.setFault d.now .memory) [.memory off user] := by
  simp [Device.memoryFailure, Device.readEnded, Device.emit, Device.setFault, Device.onChange,
    Stage.emit, h, Device.now]

/-- A read that gave its bytes leaves nothing but its place on the port. -/
theorem Device.popRead_eq_readEnded (d : Device) (h : d.stage.entries = []) :
    d.onChange ChangeUnit.popRead = d.readEnded d.regs [] := by
  simp [Device.readEnded, Device.onChange, ← h]

/-- The blocks that a fault touches (R190). -/
theorem Block.agrees_of_setFault (s : State) (now : Word) (f : StickyFault) (b : Block) :
    b ∈ [Block.faults, .causes, .attnPulse] ∨
      b.agrees s { s with dev := { s.dev with regs := s.dev.regs.setFault now f } } := by
  cases b <;> simp [Block.agrees]

/-- A failed read that ends its cue with MEMORY, its fault and its entry (R16, R118). -/
theorem State.readFailed_outcome {s : State} {bus : Bus}
    {body : Device → PortRun → Device × PortRun} {run : PortRun}
    {ld : Load} {off : Nat} {user : MemoryUser} (hon : s.isOnline = true)
    (hb : body s.dev.beginEvent { mem := s.mem, bus := bus } =
      (((s.dev.beginEvent.onChange ChangeUnit.popRead).memoryFailure off user).copyFailed ld .memory 0, run)) :
    ∃ t, t = s.portEvent true bus body ∧ t.mem = run.mem ∧ CueRefused s t ld .memory 0 ∧ FaultRaised .memory s t
      ∧ Journaled [.memory off user, .cueTaken ld.headRead .memory 0 ld.origin ld.scene ld.position] s t
      ∧ EventChanges [.change, .req, .mem, .faults, .causes, .attnPulse] s t := by
  obtain ⟨-, -, hen, -⟩ := State.isOnline_spec hon
  rw [Device.memoryFailure_popRead s.dev.beginEvent off user hen] at hb
  obtain ⟨t, ht, hm, href, hregs, h⟩ := State.copyFailed_outcome (s.dev.regs.setFault s.dev.now .memory) _
    [.faults, .causes, .attnPulse] hon (by simp) (Block.agrees_of_setFault s _ _) hb
  exact ⟨t, ht, hm, href, .of_setFault hregs, h⟩

/-- A read whose data end its cue with an error (R118). -/
theorem State.readRefused_outcome {s : State} {bus : Bus}
    {body : Device → PortRun → Device × PortRun} {run : PortRun}
    {ld : Load} {code : ResultCode} {value : Nat} (hon : s.isOnline = true)
    (hb : body s.dev.beginEvent { mem := s.mem, bus := bus } =
      ((s.dev.beginEvent.onChange ChangeUnit.popRead).copyFailed ld code value, run)) :
    ∃ t, t = s.portEvent true bus body ∧ t.mem = run.mem ∧ CueRefused s t ld code value
      ∧ Journaled [.cueTaken ld.headRead code value ld.origin ld.scene ld.position] s t
      ∧ EventChanges [.change, .req, .mem] s t := by
  obtain ⟨-, -, hen, -⟩ := State.isOnline_spec hon
  rw [Device.popRead_eq_readEnded s.dev.beginEvent hen] at hb
  obtain ⟨t, ht, hm, href, -, h⟩ := State.copyFailed_outcome s.dev.regs _ [] hon rfl
    (fun b => Or.inr (by cases b <;> simp [Block.agrees])) hb
  exact ⟨t, ht, hm, href, h⟩

/-- A read after which the copy goes on: the change unit alone is touched, with its reads on the port (R12, R15). -/
theorem State.readGoesOn_outcome {s : State} {bus : Bus}
    {body : Device → PortRun → Device × PortRun} {run : PortRun}
    (f : ChangeUnit → ChangeUnit) (hon : s.isOnline = true)
    (hb : body s.dev.beginEvent { mem := s.mem, bus := bus } =
      ((s.dev.beginEvent.onChange ChangeUnit.popRead).onChange f, run)) :
    ∃ t, t = s.portEvent true bus body ∧ t.mem = run.mem ∧ t.dev.change = f s.dev.change.popRead
      ∧ Journaled [] s t ∧ EventChanges [.change, .mem] s t := by
  obtain ⟨hr, hst, hen, hpc⟩ := State.isOnline_spec hon
  obtain ⟨t, ht, hm, ⟨p, q, hs⟩, h⟩ := State.portEvent_outcome _ run []
    [.change, .mem] rfl hr hen hpc (Or.inr rfl) hb
    hen rfl (Device.drainOver_of_state (by simp [hst, Device.beginEvent])) (by simp)
    (by intro b; cases b <;> simp [Block.agrees, Device.beginEvent])
  exact ⟨t, ht, hm, by rw [hs]; rfl, h⟩

/-! ## The set list entry (R12) -/

/-- A set list entry that was read, of the cue in progress. -/
theorem Device.setListRead_read {d : Device} {run run' : PortRun} {ld : Load} {p : Nat} {bs : List Byte}
    (hld : d.change.load = some ld)
    (hr : portRead run (rigAddress d (setListOffset d p)) 2 = (some bs, run')) :
    d.setListRead { target := .setListEntry p, abandoned := false } p run =
      ((d.onChange ChangeUnit.popRead).setListEntryRead ld (natOf bs), run') := by
  simp [Device.setListRead, readParts, hr, hld]

/-- A set list entry whose read failed, of the cue in progress (R16). -/
theorem Device.setListRead_failed {d : Device} {run run' : PortRun} {ld : Load} {p : Nat}
    (hld : d.change.load = some ld) (hr : portRead run (rigAddress d (setListOffset d p)) 2 = (none, run')) :
    d.setListRead { target := .setListEntry p, abandoned := false } p run =
      (((d.onChange ChangeUnit.popRead).memoryFailure (setListOffset d p) .setListRead).copyFailed ld .memory 0,
        run') := by
  simp [Device.setListRead, readParts, hr, hld]

/-- SET_LIST_READ_COMPLETION of a set list read at the front of the port. -/
theorem exec_setListReadCompletion {s : State} {rd : CopyRead} {p : Nat} (h : s.dev.change.nextRead = some rd)
    (hp : rd.target = .setListEntry p) (bus : Bus) :
    exec (.setListReadCompletion bus) s = .next (s.portEvent true bus fun d run => d.setListRead rd p run) := by
  obtain ⟨target, abandoned⟩ := rd
  subst hp
  show execSetListReadCompletion bus s = _
  unfold execSetListReadCompletion
  rw [h]

/-- Settles O36: the read, by its outcome, is one of `readGoesOn`, `readRefused` and `readFailed`. -/
theorem setListEntryNamesScene : Obligations.SetListEntryNamesScene := by
  intro s bus p ld hon hnext hld _ read
  rw [exec_setListReadCompletion hnext rfl]
  have isRead {bs : List Byte} (h : read.1 = some bs) :=
    Device.setListRead_read (d := s.dev.beginEvent) (p := p) hld
      (show portRead { mem := s.mem, bus := bus } _ _ = (some bs, read.2) from Prod.ext h rfl)
  refine ⟨fun bs n hbs hn hle => ?_, fun bs hbs hgt => ?_, fun hnone => ?_⟩
  · subst hn
    obtain ⟨t, ht, h⟩ := State.readGoesOn_outcome _ hon (body := fun d run => d.setListRead _ p run)
      ((isRead hbs).trans (congrArg (·, read.2) (if_neg (Nat.not_lt.2 hle))))
    exact ⟨t, congrArg _ ht.symm, h⟩
  · obtain ⟨t, ht, h⟩ := State.readRefused_outcome hon (body := fun d run => d.setListRead _ p run)
      ((isRead hbs).trans (congrArg (·, read.2) (if_pos hgt)))
    exact ⟨t, congrArg _ ht.symm, h⟩
  · obtain ⟨t, ht, h⟩ := State.readFailed_outcome hon (body := fun d run => d.setListRead _ p run)
      (Device.setListRead_failed (d := s.dev.beginEvent) (p := p) hld
        (show portRead { mem := s.mem, bus := bus } _ _ = (none, read.2) from Prod.ext hnone rfl))
    exact ⟨t, congrArg _ ht.symm, h⟩

end Sys2Proof.Machine
end

section
/-! CANCEL (R125). -/
namespace Sys2Proof.Machine

open Sys2Proof

/-- Entries handed in order stand behind those handed before. -/
theorem Stage.emitAll_eq (st : Stage) (es : List Entry) :
    st.emitAll es = { st with entries := st.entries ++ es } := by
  induction es generalizing st with
  | nil => simp [Stage.emitAll]
  | cons e es ih =>
    show (st.emit e).emitAll es = _
    simp [ih, Stage.emit]

/-- The change unit after a CANCEL: IDLE with nothing in progress, and the reads of a copy in progress abandoned (R19,
R125). -/
def ChangeUnit.withdraw (c : ChangeUnit) : ChangeUnit := if c.load.isSome then c.abandon.toIdle else c.toIdle

/-- The completions that a withdrawn change gives: that of a cue in progress, then that of a GO request (R125). -/
def withdrawnCompletions (s : State) (stamp : Stamp) (inScan : Bool) (c : ChangeUnit) : List Completion :=
  (c.load.elim [] fun ld => cueCompletion s stamp inScan ld.origin .cancelled 0) ++
    goCompletion s stamp inScan c.go .cancelled 0

/-- The entries of a CANCEL: CUE_TAKEN for a copy in progress, then CHANGE_CANCELLED (R125; log 40). -/
def cancelEntries (c : ChangeUnit) : List Entry :=
  (c.load.elim [] fun ld => [.cueTaken ld.headRead .cancelled 0 ld.origin ld.scene ld.position]) ++
    [.changeCancelled c.concerned c.state c.loadingFlag]

/-- A CANCEL outside IDLE: the change unit, the completions and the entries (R125). -/
theorem Device.cancelChange_eq {s : State} {d : Device} (hl : d.layout = s.dev.layout)
    (ha : d.regs.area = s.dev.regs.area) :
    d.cancelChange =
      ((d.onChange ChangeUnit.withdraw).onReq
        (·.give (withdrawnCompletions s d.stampHere d.req.working d.change))).onStage
        (·.emitAll (cancelEntries d.change)) := by
  unfold Device.cancelChange Device.abandonCue
  cases hld : d.change.load with
  | none =>
    simp [Device.completeGo_eq (s := s) hl ha, withdrawnCompletions, cancelEntries, ChangeUnit.withdraw, hld,
      Device.onChange, Device.onReq, Device.onStage, Device.emit, Stage.emitAll]
  | some ld =>
    simp [Device.completeGo_eq (s := s), Device.completeCue_eq (s := s), hl, ha,
      withdrawnCompletions, cancelEntries,
      ChangeUnit.withdraw, hld, Device.onChange, Device.onReq, Device.onStage, Device.emit, Stage.emitAll,
      Device.stampHere]

/-- What a CANCEL request outside IDLE does, with the completion of the CANCEL last (R125). -/
theorem Device.cancelRequest_eq {s : State} {d : Device} {r : Request} (hl : d.layout = s.dev.layout)
    (ha : d.regs.area = s.dev.regs.area) (hst : d.change.state ≠ .idle) :
    Device.cancelRequest r d =
      ((d.onChange ChangeUnit.withdraw).onReq
        (·.give (withdrawnCompletions s d.stampHere d.req.working d.change ++
          [completionOf s d.stampHere d.req.working r.slot r.tag .ok d.change.state.code]))).onStage
        (·.emitAll (cancelEntries d.change)) := by
  unfold Device.cancelRequest
  rw [if_neg hst, Device.cancelChange_eq hl ha, Device.answer_eq (s := s) (by exact hl) (by exact ha)]
  simp [Device.onReq, Device.onStage, Device.onChange, Device.stampHere]

/-- CANCEL outside IDLE, whole (R125). -/
theorem State.cancel_outcome {s : State} {r : Request} (hon : s.isOnline = true) (hreq : s.hasRequest 6#8 r)
    (hst : s.dev.change.state ≠ .idle) :
    ∃ t, exec .cancel s = .next t ∧ t.dev.change = s.dev.change.withdraw
      ∧ Journaled (cancelEntries s.dev.change) s t
      ∧ AnsweredAmong (withdrawnCompletions s s.dev.stampNow true s.dev.change) [] s.dev.stampNow r .ok
          s.dev.change.state.code s t
      ∧ EventChanges [.change, .req] s t := by
  obtain ⟨hreq, hk⟩ := hreq
  obtain ⟨-, -, hen, -⟩ := State.isOnline_spec hon
  have hb := Device.cancelRequest_eq (s := s) (d := s.dev.beginEvent.onReq RequestUnit.beginWork)
    (r := r) rfl rfl hst
  rw [show (s.dev.beginEvent.onReq RequestUnit.beginWork).req.working = true from
    RequestUnit.beginWork_working hreq] at hb
  obtain ⟨t, ht, ⟨p, q, hs⟩, hj, hc⟩ := State.request_outcome (fits := fun k => decide (k = 6#8)) _
    (cancelEntries s.dev.change) [.change, .req] hon hreq (decide_eq_true hk) hb
    (by simp [Stage.emitAll_eq, Device.beginEvent, hen]) (by simp [Device.beginEvent])
      (by simp [Device.beginEvent])
    (by simp) (by intro b; cases b <;> simp [Block.agrees, Device.beginEvent, Stage.emitAll_eq])
  refine ⟨t, congrArg _ ht.symm, by rw [hs]; simp [Device.beginEvent], hj, ?_, hc⟩
  have hq : t.dev.req = _ := (congrArg (·.dev.req) hs).trans
    (RequestUnit.nextSlot_give hreq ⟨_, List.mem_append_right _ (List.mem_singleton_self _), rfl⟩)
  rw [AnsweredAmong, hq, List.append_nil, List.append_assoc]
  rfl

/-- Settles O47: `State.cancel_outcome`, with and without a copy in progress. -/
theorem cancelWithdrawsTheChange : Obligations.CancelWithdrawsTheChange := by
  intro s r hon hreq old idle concerned cancelled goEnds
  refine ⟨fun hidle => ?_, fun hne hld => ?_, fun ld hne hld => ?_⟩
  · obtain ⟨t, ht, h⟩ := State.request_only_answered
      (fits := fun k => decide (k = 6#8)) (body := Device.cancelRequest)
      hon hreq.1 (decide_eq_true hreq.2) (if_pos hidle)
    exact ⟨t, congrArg _ ht.symm, h⟩
  · have h := State.cancel_outcome hon hreq hne
    simp only [ChangeUnit.withdraw, withdrawnCompletions, cancelEntries,
      show s.dev.change.load = none from hld] at h
    exact h
  · have h := State.cancel_outcome hon hreq hne
    simp only [ChangeUnit.withdraw, withdrawnCompletions, cancelEntries,
      show s.dev.change.load = some ld from hld] at h
    exact h

end Sys2Proof.Machine
end

section
/-! The header read of LOADING (R167, R170, R181, R187). -/
namespace Sys2Proof.Machine

open Sys2Proof

/-- A header read under way: LOADING, with no read of an abandoned one before it (R168; log 13). -/
theorem Device.headerReadUnderWay_spec {d : Device} (h : d.headerReadUnderWay = true) :
    d.engine.state = .loading ∧ d.engine.abandonedLoads = 0 := by
  simp [Device.headerReadUnderWay] at h
  exact ⟨h.1.1, h.2⟩

/-- HEADER_READ_COMPLETION of a LOADING whose read is under way. -/
theorem exec_headerReadCompletion {s : State} (h : s.dev.headerReadUnderWay = true) (bus : Bus) :
    exec (.headerReadCompletion bus) s = .next (s.portEvent true bus Device.loadHeader) := by
  obtain ⟨-, hz⟩ := Device.headerReadUnderWay_spec h
  show execHeaderReadCompletion bus s = _
  simp [execHeaderReadCompletion, hz, h]

/-! ## LOADING that fails (R170) -/

/-- A LOADING that ends in FAULTED: the engine, the field code and the fault, and nothing else (R170). -/
theorem State.loadingFailed_outcome {s : State} {bus : Bus} {run : PortRun} {f : StickyFault} {code : Nat}
    (hready : s.isReady = true)
    (hb : s.dev.beginEvent.loadHeader { mem := s.mem, bus := bus } =
      (s.dev.beginEvent.loadingFailed f code, run)) :
    ∃ t, t = s.portEvent true bus Device.loadHeader ∧ t.mem = run.mem ∧
      t.dev.engine = { s.dev.engine with state := .faulted }
      ∧ t.dev.regs.fieldCode = BitVec.ofNat 3 code ∧ FaultRaised f s t
      ∧ EventChanges [.engine, .fieldCode, .faults, .causes, .attnPulse, .mem] s t := by
  obtain ⟨hr, hen, hpc, -⟩ := State.isReady_spec hready
  obtain ⟨t, ht, hm, ⟨p, q, hs⟩, -, hc⟩ := State.portEvent_outcome _ run []
    [.engine, .fieldCode, .faults, .causes, .attnPulse, .mem] rfl hr hen hpc (Or.inr rfl) hb
    (by simp [Device.loadingFailed, Device.beginEvent, hen]) (by simp [Device.loadingFailed, Device.beginEvent])
    (Device.drainOver_of_state (by simp [Device.loadingFailed])) (by simp)
    (by intro b; cases b <;> simp [Block.agrees, Device.loadingFailed, Device.beginEvent])
  refine ⟨t, ht, hm, by rw [hs]; simp [Device.loadingFailed, Device.beginEvent],
    by rw [hs]; simp [Device.loadingFailed], ?_, hc⟩
  have hraised : FaultRaised f { s with dev.regs.fieldCode := BitVec.ofNat 3 code } t :=
    .of_setFault (now := s.dev.now) (by rw [hs]; simp [Device.loadingFailed, Device.beginEvent, Device.now])
  exact hraised

/-! ## ONLINE entry (R187) -/

/-- A pedal under a setup just taken, whole (R145). -/
theorem Pedal.enter_eq (p : Pedal) (setup : PedalSetup) (now : Word) :
    p.enter setup now =
      { high := p.high, pressed := false, setup := setup
        timer := if p.high = decide (setup.polarity = .inverted) then
          some (after now (setup.debounce * 1000)) else none } := by
  unfold Pedal.enter Pedal.atPressedLevel Pedal.startTimer
  by_cases h : p.high = decide (setup.polarity = .inverted) <;> simp [h]

/-- The sync follower at ONLINE entry, whole (R100). -/
theorem SyncFollower.enter_eq (h : List Byte) :
    SyncFollower.enter h =
      { SyncFollower.reset with
        division := (syncSettingsOf ((h.drop 40).take 4)).1.1
        window := (syncSettingsOf ((h.drop 40).take 4)).1.2.1
        deadband := (syncSettingsOf ((h.drop 40).take 4)).1.2.2
        state := if (syncSettingsOf ((h.drop 40).take 4)).1.1 = 0 then .off else .absent } := rfl

/-- A cause noted in ONLINE or DRAINING, with no rewrite under way, begins a rewrite with the next edit count, which shows
the fields as the event leaves them (R181; log 10). -/
theorem State.settle_beginsRewrite {s : State} {d : Device} (m : Mem) (hd : d.drainOver = false)
    (hrun : d.engine.state.isRunning = true) (hcause : d.pageCause = true) (hnone : d.page.running = none) :
    (s.settle d m).dev.page =
      { d.page with
        editCount := d.page.editCount + 1, owed := false, retryAt := none
        running := some ((s.settle d m).dev.pageImage (d.page.editCount + 1)) } := by
  have hp : (s.settle d m).dev =
      { d.afterHanding s.dev.engine.state with pageCause := false : Device }.beginRewrite := by
    rw [State.settle, State.endEvent_not_over m _ hd]
    simp [Device.pageSettle, Device.pageWritten, Device.pageDue, Device.afterHanding, Device.journalSettle,
      Device.restamp, hrun, hcause, Device.rewriteCaused, hnone]
  rw [hp]
  rfl

/-- The event of ONLINE entry leaves the engine ONLINE under its header (R187): `d` is the part after the reads of LOADING,
which have touched the registers alone. -/
theorem OnlineUnder.of_settle {s : State} {d : Device} {regs : Registers} (h : List Byte)
    (page : Option (List Byte))
    (m : Mem) (hst : s.dev.engine.state = .loading) (hd : d = { s.dev.beginEvent with regs := regs }) :
    OnlineUnder h (continuedCounts page).1 (continuedCounts page).2 s (s.settle (d.enterOnline h page) m)
      ∧ (s.settle (d.enterOnline h page) m).dev.regs = regs := by
  have hover : (d.enterOnline h page).drainOver = false :=
    Device.drainOver_of_state (by simp [Device.enterOnline])
  have hpage := State.settle_beginsRewrite (s := s) m hover
    (by simp [Device.enterOnline, EngineState.isRunning])
    (by simp [Device.enterOnline]) (by simp [Device.enterOnline])
  have hnone : (d.enterOnline h page).handedOver s.dev.engine.state = [] := by
    simp [Device.handedOver, hst, EngineState.isRunning]
  have ht := State.settle_eq (s := s) m hover
  rw [hnone] at ht
  subst hd
  generalize s.settle _ m = t at hpage ht
  generalize t.dev.page = p at hpage ht
  subst ht
  refine ⟨⟨rfl, rfl, rfl, rfl, rfl, fun n => ?_, rfl, rfl, rfl, rfl, rfl, fun n => ?_, rfl, rfl,
    rfl, hpage⟩, rfl⟩
  · simp [Device.enterOnline]
  · simp [Device.enterOnline, Pedal.enter_eq, headerPedal, Device.beginEvent, Device.now]

/-- What a page found at LOADING lets the counts continue from (R167, R181). -/
theorem continuedCounts_of_whole {page : List Byte}
    (h : fieldAt page 4 4 = 0x53544131 ∧ fieldAt page 0 4 = fieldAt page 60 4) :
    continuedCounts (some page) =
      (BitVec.ofNat 32 (fieldAt page 0 4), BitVec.ofNat 32 (fieldAt page 36 4)) := if_pos h

/-- A page that is not whole lets the counts begin at 0 (R167, R181). -/
theorem continuedCounts_of_not_whole {page : List Byte}
    (h : ¬ (fieldAt page 4 4 = 0x53544131 ∧ fieldAt page 0 4 = fieldAt page 60 4)) :
    continuedCounts (some page) = (0, 0) := if_neg h

/-- A LOADING that comes to ONLINE, with `page` what was found of the state page and `regs` the registers after its
read. -/
theorem State.loadedOnline_outcome {s : State} {bus : Bus} {run : PortRun} {regs : Registers} {h : List Byte}
    {page : Option (List Byte)} (hready : s.isReady = true) (hst : s.dev.engine.state = .loading)
    (hb : s.dev.beginEvent.loadHeader { mem := s.mem, bus := bus } =
      (({ s.dev.beginEvent with regs := regs } : Device).enterOnline h page, run)) :
    ∃ t, t = s.portEvent true bus Device.loadHeader ∧ t.mem = run.mem
      ∧ OnlineUnder h (continuedCounts page).1 (continuedCounts page).2 s t ∧ t.dev.regs = regs
      ∧ t.resetLow = s.resetLow ∧ t.pending = s.pending ∧ t.drains = s.drains := by
  obtain ⟨hr, -⟩ := State.isReady_spec hready
  have ht : s.portEvent true bus Device.loadHeader =
      s.settle (({ s.dev.beginEvent with regs := regs } : Device).enterOnline h page) run.mem := by
    simp [State.portEvent, hr, hb]
  obtain ⟨hon, hregs⟩ := OnlineUnder.of_settle h page run.mem hst
    (d := { s.dev.beginEvent with regs := regs }) rfl
  rw [← ht] at hon hregs
  refine ⟨_, rfl, ?_, hon, hregs, by simp, by simp, ?_⟩ <;>
    rw [ht, State.settle_eq run.mem (Device.drainOver_of_state (by simp [Device.enterOnline]))]

/-- Settles O58: the two reads of LOADING, by their outcomes. -/
theorem headerReadEndsLoading : Obligations.HeaderReadEndsLoading := by
  intro s bus hready hway read
  obtain ⟨hst, -⟩ := Device.headerReadUnderWay_spec hway
  rw [exec_headerReadCompletion hway]
  have header {o : Option (List Byte)} (ho : read.1 = o) :
      portRead { mem := s.mem, bus := bus } (rigAddress s.dev.beginEvent 0) Config.headerBytes = (o, read.2) :=
    Prod.ext ho rfl
  refine ⟨fun hnone => ?_, fun h code hsome hfault => ?_, fun h hsome hfault => ?_⟩
  · obtain ⟨t, ht, h⟩ := State.loadingFailed_outcome hready (bus := bus)
      (by unfold Device.loadHeader; rw [header hnone])
    exact ⟨t, congrArg _ ht.symm, h⟩
  · obtain ⟨t, ht, h⟩ := State.loadingFailed_outcome (f := .header) (code := code) (run := read.2) hready
      (by unfold Device.loadHeader; rw [header hsome]; simp only [hfault])
    exact ⟨t, congrArg _ ht.symm, h⟩
  · intro pageRead
    have loads : s.dev.beginEvent.loadHeader { mem := s.mem, bus := bus } =
      s.dev.beginEvent.loadPage h read.2 := by
      unfold Device.loadHeader; rw [header hsome]; simp only [hfault]
    have page {o : Option (List Byte)} (ho : pageRead.1 = o) :
        portRead read.2 (rigAddress s.dev.beginEvent (layoutOf h).statePage) Config.pageBytes =
          (o, pageRead.2) :=
      Prod.ext ho rfl
    refine ⟨fun p hp => ?_, fun hnone => ?_⟩
    · intro whole
      obtain ⟨t, ht, hm, hon, hregs, hrest⟩ := State.loadedOnline_outcome (regs := s.dev.regs) hready hst
        (loads.trans (by unfold Device.loadPage; rw [page hp]; rfl))
      refine ⟨t, congrArg _ ht.symm, hm, fun hw => ?_, fun hw => ?_, hregs, hrest⟩
      · rw [continuedCounts_of_whole hw] at hon
        exact hon
      · rw [continuedCounts_of_not_whole hw] at hon
        exact hon
    · obtain ⟨t, ht, hm, hon, hregs, hrest⟩ := State.loadedOnline_outcome
        (regs := s.dev.regs.setFault s.dev.now .memory) hready hst
        (loads.trans (by unfold Device.loadPage; rw [page hnone]; rfl))
      exact ⟨t, congrArg _ ht.symm, hm, hon, .of_setFault hregs, by simp [hregs], by simp [hregs],
        by simp [hregs], hrest⟩

end Sys2Proof.Machine
end

section
/-! What a switch of scenes does, once (R127 to R133): the timing stage plays, the cuts of the spill release, the entry
messages are offered; `Device.switchTo_spec` collects the stages. -/
namespace Sys2Proof.Machine

open Sys2Proof

/-! ## Offers alone -/

/-- What offers to module ports can do: ports change, and entries are handed behind those before. -/
structure Stage.OnlyOffers (st st' : Stage) : Prop where
  frame : st' = { st with ports := st'.ports, entries := st'.entries }
  entries : st.entries <+: st'.entries

/-- Nothing done is within the relation. -/
theorem Stage.OnlyOffers.refl (st : Stage) : st.OnlyOffers st := ⟨rfl, List.prefix_rfl⟩

/-- The relation composes. -/
theorem Stage.OnlyOffers.trans {a b c : Stage} (h : a.OnlyOffers b) (h' : b.OnlyOffers c) : a.OnlyOffers c where
  frame := by
    have := h'.frame
    rw [h.frame] at this
    exact this
  entries := h.entries.trans h'.entries

/-- The clock stays. -/
theorem Stage.OnlyOffers.clock {a b : Stage} (h : a.OnlyOffers b) : b.clock = a.clock := by rw [h.frame]

/-- The dampers stay. -/
theorem Stage.OnlyOffers.dampers {a b : Stage} (h : a.OnlyOffers b) : b.dampers = a.dampers := by rw [h.frame]

/-- The voices stay. -/
theorem Stage.OnlyOffers.voices {a b : Stage} (h : a.OnlyOffers b) : b.voices = a.voices := by rw [h.frame]

/-- The deferrals stay. -/
theorem Stage.OnlyOffers.deferrals {a b : Stage} (h : a.OnlyOffers b) : b.deferrals = a.deferrals := by
  rw [h.frame]

/-- A fold of operations that only offer only offers. -/
theorem Stage.OnlyOffers.foldl {α : Type} {f : Stage → α → Stage}
    (hf : ∀ (st : Stage) a, st.OnlyOffers (f st a)) (as : List α)
    (st : Stage) : st.OnlyOffers (as.foldl f st) := by
  induction as generalizing st with
  | nil => exact .refl st
  | cons a as ih => exact (hf st a).trans (ih _)

/-- A change of one port. -/
theorem Stage.modifyPort_onlyOffers (st : Stage) (p : Fin 6) (f : ModulePort → ModulePort) :
    st.OnlyOffers (st.modifyPort p f) := ⟨rfl, List.prefix_rfl⟩

/-- An entry handed. -/
theorem Stage.emit_onlyOffers (st : Stage) (e : Entry) : st.OnlyOffers (st.emit e) :=
    ⟨rfl, List.prefix_append _ _⟩

/-- Entries handed in order. -/
theorem Stage.emitAll_onlyOffers (st : Stage) (es : List Entry) : st.OnlyOffers (st.emitAll es) :=
  .foldl Stage.emit_onlyOffers es st

/-- An offered entry message (R49). -/
theorem Stage.offerEntry_onlyOffers (st : Stage) (p : Fin 6) (m : Message) :
    st.OnlyOffers (st.offerEntry p m) := by
  unfold Stage.offerEntry
  split
  · exact st.modifyPort_onlyOffers p _
  · split
    · exact st.modifyPort_onlyOffers p _
    · exact st.emit_onlyOffers _

/-- An offered click message (R50). -/
theorem Stage.offerClick_onlyOffers (st : Stage) (p : Fin 6) (n : Fin 4) (m : Message) :
    st.OnlyOffers (st.offerClick p n m) := by
  unfold Stage.offerClick
  split
  · exact st.modifyPort_onlyOffers p _
  · exact st.emit_onlyOffers _

/-- The entry message stage of a switch (R131). -/
theorem Stage.sendEntryMessages_onlyOffers (st : Stage) (sc : SceneCopy) :
    st.OnlyOffers (st.sendEntryMessages sc) :=
  .foldl (fun st (e : EntryMessage) => st.offerEntry_onlyOffers e.port e.msg) _ st

/-- The end of a click note (R110). -/
theorem endNote_onlyOffers (n : Fin 4) (l : ClickLine) (st : Stage) : st.OnlyOffers (endNote n l st).2 := by
  unfold endNote
  split
  · exact .refl st
  · exact st.offerClick_onlyOffers _ _ _

/-- A click that sounds (R107, R109, R110). -/
theorem soundClick_onlyOffers (n : Fin 4) (accent : Bool) (l : ClickLine) (st : Stage) :
    st.OnlyOffers (soundClick n accent l st).2 := by
  unfold soundClick beginNote
  dsimp only
  split
  · exact endNote_onlyOffers n l st
  · exact (endNote_onlyOffers n l st).trans (Stage.offerClick_onlyOffers _ _ _ _)

/-- A click line's tick (R104). -/
theorem takeClickTick_onlyOffers (mute : Bool) (tr : Transport) (beat tick : Nat) (n : Fin 4) (l : ClickLine)
    (st : Stage) : st.OnlyOffers (takeClickTick mute tr beat tick n l st).2 := by
  unfold takeClickTick
  dsimp only
  split
  · exact soundClick_onlyOffers _ _ _ _
  · exact .refl st

/-! ## The tempo generator and the click unit at work -/

/-- What the tempo generator and the click unit can do: their own state, a cause of a page rewrite, offers to the module
ports, and entries behind those handed before (R64, R71, R104, R181). -/
structure Device.OnlyPlays (d d' : Device) : Prop where
  frame : d' =
    { d with
      tempo := d'.tempo, click := d'.click, pageCause := d'.pageCause
      stage := { d.stage with ports := d'.stage.ports, entries := d'.stage.entries } }
  entries : d.stage.entries <+: d'.stage.entries

/-- Nothing done is within the relation. -/
theorem Device.OnlyPlays.refl (d : Device) : d.OnlyPlays d := ⟨rfl, List.prefix_rfl⟩

/-- The relation composes. -/
theorem Device.OnlyPlays.trans {a b c : Device} (h : a.OnlyPlays b) (h' : b.OnlyPlays c) : a.OnlyPlays c where
  frame := by
    have := h'.frame
    rw [h.frame] at this
    exact this
  entries := h.entries.trans h'.entries

/-- A change of the tempo record. -/
theorem Device.onTempo_onlyPlays (d : Device) (f : Tempo → Tempo) : d.OnlyPlays (d.onTempo f) :=
    ⟨rfl, List.prefix_rfl⟩

/-- An entry handed. -/
theorem Device.emit_onlyPlays (d : Device) (e : Entry) : d.OnlyPlays (d.emit e) := ⟨rfl, List.prefix_append _ _⟩

/-- A cause of a page rewrite. -/
theorem Device.causePage_onlyPlays (d : Device) : d.OnlyPlays d.causePage := ⟨rfl, List.prefix_rfl⟩

/-- One click line whose work on the stage only offers. -/
theorem Device.onLine_onlyPlays (d : Device) (n : Fin 4) {f : ClickLine → Stage → ClickLine × Stage}
    (hf : ∀ l (st : Stage), st.OnlyOffers (f l st).2) : d.OnlyPlays (d.onLine n f) where
  frame := by
    simp only [Device.onLine]
    conv_lhs => rw [(hf d.click.lines[n] d.stage).frame]
  entries := (hf d.click.lines[n] d.stage).entries

/-- Every click line in turn. -/
theorem Device.onLines_onlyPlays (d : Device) {f : Fin 4 → ClickLine → Stage → ClickLine × Stage}
    (hf : ∀ n l (st : Stage), st.OnlyOffers (f n l st).2) : d.OnlyPlays (d.onLines f) := by
  unfold Device.onLines
  generalize List.finRange 4 = ns
  induction ns generalizing d with
  | nil => exact .refl d
  | cons n ns ih => exact (d.onLine_onlyPlays n (hf n)).trans (ih _)

/-- A tempo made current (R62, R80). -/
theorem Device.makeCurrent_onlyPlays (d : Device) (v : Nat) (cause : TempoCause) :
    d.OnlyPlays (d.makeCurrent v cause) := by
  unfold Device.makeCurrent
  dsimp only
  split
  · exact d.onTempo_onlyPlays _
  · exact (d.onTempo_onlyPlays _).trans (Device.emit_onlyPlays _ _)

/-- A pending tempo made current (R71). -/
theorem Device.applyPendingTempo_onlyPlays (d : Device) : d.OnlyPlays d.applyPendingTempo := by
  unfold Device.applyPendingTempo
  split
  · exact .refl d
  · exact (d.onTempo_onlyPlays _).trans (Device.makeCurrent_onlyPlays _ _ _)

/-- A glide cancelled (R75). -/
theorem Device.cancelGlide_onlyPlays (d : Device) : d.OnlyPlays d.cancelGlide := by
  unfold Device.cancelGlide
  split
  · exact .refl d
  · exact (d.onTempo_onlyPlays _).trans (Device.emit_onlyPlays _ _)

/-- A pending tempo written (R71). -/
theorem Device.writePendingTempo_onlyPlays (d : Device) (v : Nat) (cause : TempoCause) :
    d.OnlyPlays (d.writePendingTempo v cause) := by
  have written (f : Tempo → Tempo) := d.cancelGlide_onlyPlays.trans (Device.onTempo_onlyPlays d.cancelGlide f)
  unfold Device.writePendingTempo
  dsimp only
  split
  · exact (written _).trans (Device.applyPendingTempo_onlyPlays _)
  · exact written _

/-- A tempo written with its glide length (R72, R78, R79). -/
theorem Device.writeTempo_onlyPlays (d : Device) (v g : Nat) (cause : TempoCause) :
    d.OnlyPlays (d.writeTempo v g cause) := by
  unfold Device.writeTempo Device.writeGlide
  split
  · exact d.writePendingTempo_onlyPlays v cause
  · split
    · exact d.writePendingTempo_onlyPlays v cause
    · exact (d.cancelGlide_onlyPlays.trans (Device.onTempo_onlyPlays _ _)).trans (Device.emit_onlyPlays _ _)

/-- The source set (R76). -/
theorem Device.setSource_onlyPlays (d : Device) (src : TempoSource) : d.OnlyPlays (d.setSource src) := by
  unfold Device.setSource
  split
  · exact .refl d
  · split
    · exact d.onTempo_onlyPlays _
    · exact d.cancelGlide_onlyPlays.trans (Device.onTempo_onlyPlays _ _)

/-- What a beat boundary does at the tempo record (R64, R71, R73, R77). -/
theorem Device.beatWork_onlyPlays (d : Device) : d.OnlyPlays d.beatWork := by
  unfold Device.beatWork
  split
  · exact d.applyPendingTempo_onlyPlays
  · unfold Device.stepGlide
    dsimp only
    split
    · exact (d.onTempo_onlyPlays _).trans (Device.emit_onlyPlays _ _)
    · exact d.onTempo_onlyPlays _
  · split
    · unfold Device.followRead
      split
      · split
        · exact d.makeCurrent_onlyPlays _ _
        · exact .refl d
      · exact .refl d
    · exact .refl d

/-- A tick that begins (R63, R64, R104). -/
theorem Device.beginTick_onlyPlays (d : Device) : d.OnlyPlays d.beginTick := by
  have beat : d.OnlyPlays (if d.tempo.atBeat then d.beatWork.causePage else d) := by
    split
    · exact d.beatWork_onlyPlays.trans (Device.causePage_onlyPlays _)
    · exact .refl d
  have start : d.OnlyPlays d.startTick := by
    unfold Device.startTick
    dsimp only
    generalize (if d.tempo.atBeat then d.beatWork.causePage else d) = d1 at beat
    refine Device.OnlyPlays.trans ?_ (Device.onTempo_onlyPlays _ _)
    split
    · exact beat.trans (Device.onTempo_onlyPlays _ _)
    · exact beat
  exact start.trans (Device.onLines_onlyPlays _ (takeClickTick_onlyOffers _ _ _ _))

/-- The start of the transport (R66, R67, R70). -/
theorem Device.startTransport_onlyPlays (d : Device) (bars : Nat) (cause : TransportCause) :
    d.OnlyPlays (d.startTransport bars cause) := by
  unfold Device.startTransport
  split <;>
    exact ((d.onTempo_onlyPlays _).trans (Device.emit_onlyPlays _ _)).trans (Device.beginTick_onlyPlays _)

/-- The timing stage of a switch (R79, R132). -/
theorem Device.handTiming_onlyPlays (d : Device) (sc : SceneCopy) : d.OnlyPlays (d.handTiming sc) := by
  have settings : d.OnlyPlays
      (((d.onTempo (·.handMeter sc.meter)).handClick sc.subdivisions sc.accents).setSource sc.source) :=
    ((d.onTempo_onlyPlays _).trans (Device.onLines_onlyPlays _ fun _ _ st => .refl st)).trans
      (Device.setSource_onlyPlays _ _)
  unfold Device.handTiming
  dsimp only
  generalize (((d.onTempo (·.handMeter sc.meter)).handClick sc.subdivisions sc.accents).setSource sc.source)
    = d2 at settings
  have tempo : d.OnlyPlays (if sc.tempo = 0 then d2
      else if sc.source = .follow then d2.emit (.tempoIgnored sc.number sc.tempo)
      else d2.writeTempo sc.tempo sc.glideBeats .scene) := by
    split
    · exact settings
    · split
      · exact settings.trans (d2.emit_onlyPlays _)
      · exact settings.trans (d2.writeTempo_onlyPlays _ _ _)
  generalize (if sc.tempo = 0 then d2 else _) = d3 at tempo ⊢
  split
  · exact tempo.trans (Device.startTransport_onlyPlays _ _ _)
  · exact tempo

end Sys2Proof.Machine
end

section
/-! The spill of a switch (R129, R130). -/
namespace Sys2Proof.Machine

open Sys2Proof

/-! ## Releases under an empty deferral list -/

/-- What releases of records do while no deferral stands: places of the table and ports change, no record comes to a
place where none was, none changes its key, and none becomes PENDING (R27, R29). -/
structure Stage.ReleasesQuietly (st st' : Stage) : Prop where
  frame : st' = { st with voices := st'.voices, ports := st'.ports }
  records : ∀ (k : Fin 128) (j : Nat) (r' : DestRecord), (st'.destsAt k)[j]? = some r' →
    ∃ r, (st.destsAt k)[j]? = some r ∧ r'.key = r.key ∧ (r'.flag = .pending → r.flag = .pending)

/-- Nothing done is within the relation. -/
theorem Stage.ReleasesQuietly.refl (st : Stage) : st.ReleasesQuietly st := ⟨rfl, fun _ _ r h => ⟨r, h, rfl, id⟩⟩

/-- The relation composes. -/
theorem Stage.ReleasesQuietly.trans {a b c : Stage} (h : a.ReleasesQuietly b) (h' : b.ReleasesQuietly c) :
    a.ReleasesQuietly c where
  frame := by
    have := h'.frame
    rw [h.frame] at this
    exact this
  records k j r'' hr'' := by
    obtain ⟨r', hr', hk', hp'⟩ := h'.records k j r'' hr''
    obtain ⟨r, hr, hk, hp⟩ := h.records k j r' hr'
    exact ⟨r, hr, hk'.trans hk, hp ∘ hp'⟩

/-- No deferral comes of them. -/
theorem Stage.ReleasesQuietly.deferrals {st st' : Stage} (h : st.ReleasesQuietly st') :
    st'.deferrals = st.deferrals := by
  rw [h.frame]

/-- A record that is not PENDING stays so. -/
theorem Stage.ReleasesQuietly.keeps_not_pending {st st' : Stage} (h : st.ReleasesQuietly st')
    {k : Fin 128} {j : Nat}
    (hn : ∀ r, (st.destsAt k)[j]? = some r → r.flag ≠ .pending) :
    ∀ r, (st'.destsAt k)[j]? = some r → r.flag ≠ .pending := fun r' hr' hp =>
  have ⟨r, hr, _, hp'⟩ := h.records k j r' hr'
  hn r hr (hp' hp)

/-- A fold of operations that release quietly where no deferral stands. -/
theorem Stage.ReleasesQuietly.foldl {α : Type} {f : Stage → α → Stage}
    (hf : ∀ (st : Stage) a, st.deferrals = [] → st.ReleasesQuietly (f st a)) (as : List α) {st : Stage}
    (hd : st.deferrals = []) : st.ReleasesQuietly (as.foldl f st) := by
  induction as generalizing st with
  | nil => exact .refl st
  | cons a as ih => exact (hf st a hd).trans (ih ((hf st a hd).deferrals.trans hd))

/-- An operation in a fold leaves what it establishes, when the rest of the fold keeps it. -/
theorem Stage.ReleasesQuietly.foldl_establishes {α : Type} {f : Stage → α → Stage} {P : α → Stage → Prop}
    (hf : ∀ (st : Stage) a, st.deferrals = [] → st.ReleasesQuietly (f st a))
    (hP : ∀ (st : Stage) a, st.deferrals = [] → P a (f st a))
    (keep : ∀ (st st' : Stage) a, st.ReleasesQuietly st' → P a st → P a st') {as : List α} {a : α} (ha : a ∈ as)
    {st : Stage} (hd : st.deferrals = []) : P a (as.foldl f st) := by
  induction as generalizing st with
  | nil => simp at ha
  | cons b as ih =>
    have hd' := (hf st b hd).deferrals.trans hd
    rcases List.mem_cons.1 ha with rfl | ha
    · exact keep _ _ _ (.foldl hf as hd') (hP st a hd)
    · exact ih ha hd'

/-- With no deferral a report ends none (R135). -/
theorem Stage.deferralCheck_of_nil {st : Stage} (hd : st.deferrals = []) (x : Dest) :
    st.deferralCheck x = st := by
  simp [Stage.deferralCheck, Stage.deferralFor, hd]

/-- The records at a place of the table that was written. -/
theorem Stage.destsAt_setVoice (st : Stage) (k k' : Fin 128) (v : Option Voice) :
    (st.setVoice k v).destsAt k' = if k = k' then (v.elim [] (·.dests)) else st.destsAt k' := by
  unfold Stage.destsAt
  by_cases h : k = k'
  · subst h
    cases v <;> simp
  · have hv : k.val ≠ k'.val := fun e => h (Fin.ext e)
    simp [h, hv]

/-- The records at a place after a release flag was written. -/
theorem Stage.destsAt_setFlag (st : Stage) (k k' : Fin 128) (j : Nat) (f : ReleaseFlag) :
    (st.setFlag k j f).destsAt k' =
      if k = k' then (st.destsAt k').modify j (fun r => { r with flag := f }) else st.destsAt k' := by
  unfold Stage.setFlag Stage.modifyVoice
  rw [Stage.destsAt_setVoice]
  split
  · rename_i h
    subst h
    unfold Stage.destsAt
    cases st.voices[k] <;> simp
  · rfl

/-- A flag other than PENDING written. -/
theorem Stage.setFlag_releasesQuietly (st : Stage) (k : Fin 128) (j : Nat) {f : ReleaseFlag}
    (hf : f ≠ .pending) :
    st.ReleasesQuietly (st.setFlag k j f) where
  frame := rfl
  records k' i r' hr' := by
    rw [Stage.destsAt_setFlag] at hr'
    split at hr'
    · rw [List.getElem?_modify] at hr'
      obtain ⟨r, hr, rfl⟩ := Option.map_eq_some_iff.1 hr'
      refine ⟨r, hr, ?_⟩
      split <;> simp [hf]
    · exact ⟨r', hr', rfl, id⟩

/-- A place of the table emptied. -/
theorem Stage.clearVoice_releasesQuietly (st : Stage) (k : Fin 128) :
    st.ReleasesQuietly (st.setVoice k none) where
  frame := rfl
  records k' j r' hr' := by
    rw [Stage.destsAt_setVoice] at hr'
    split at hr'
    · simp at hr'
    · exact ⟨r', hr', rfl, id⟩

/-- A finished entry removed (R28, R32). -/
theorem Stage.removeIfDone_releasesQuietly {st : Stage} (hd : st.deferrals = []) (k : Fin 128) :
    st.ReleasesQuietly (st.removeIfDone k) := by
  unfold Stage.removeIfDone
  split
  · exact .refl st
  · split
    · refine (st.clearVoice_releasesQuietly k).trans (.foldl (fun st x hd => ?_) _ hd)
      rw [Stage.deferralCheck_of_nil hd]
      exact .refl st
    · exact .refl st

/-- A record that becomes DONE (R32). -/
theorem Stage.recordDone_releasesQuietly {st : Stage} (hd : st.deferrals = []) (k : Fin 128)
    (j : Nat) (x : Dest) :
    st.ReleasesQuietly (st.recordDone k j x) := by
  unfold Stage.recordDone
  rw [Stage.deferralCheck_of_nil (by exact hd)]
  exact (st.setFlag_releasesQuietly k j (by decide)).trans (Stage.removeIfDone_releasesQuietly (by exact hd) k)

/-- A release offered to a port (R47). -/
theorem Stage.offerRelease_releasesQuietly (st : Stage) (p : Fin 6) (m : Message) :
    st.ReleasesQuietly (st.offerRelease p m) := by
  unfold Stage.offerRelease
  split
  · exact ⟨rfl, fun _ _ r h => ⟨r, h, rfl, id⟩⟩
  · exact .refl st

/-- The release of one record (R29). -/
theorem Stage.releaseRecord_releasesQuietly {st : Stage} (hd : st.deferrals = []) (k : Fin 128) (j : Nat) :
    st.ReleasesQuietly (st.releaseRecord k j) := by
  unfold Stage.releaseRecord
  split
  · exact .refl st
  · split
    · exact .refl st
    · split
      · exact Stage.recordDone_releasesQuietly hd k j _
      · split
        · have offered := st.offerRelease_releasesQuietly ‹DestRecord›.key.dest.port
              (keyUpMessage ‹DestRecord›.key)
          exact offered.trans (Stage.recordDone_releasesQuietly (offered.deferrals.trans hd) k j _)
        · exact st.setFlag_releasesQuietly k j (by decide)

/-- A record whose flag was written is not PENDING. -/
theorem Stage.setFlag_not_pending (st : Stage) (k : Fin 128) (j : Nat) {f : ReleaseFlag} (hf : f ≠ .pending) :
    ∀ r, ((st.setFlag k j f).destsAt k)[j]? = some r → r.flag ≠ .pending := by
  intro r hr
  rw [Stage.destsAt_setFlag, if_pos rfl, List.getElem?_modify_eq] at hr
  obtain ⟨r0, -, rfl⟩ := Option.map_eq_some_iff.1 hr
  exact hf

/-- A record that became DONE is not PENDING. -/
theorem Stage.recordDone_not_pending {st : Stage} (hd : st.deferrals = []) (k : Fin 128) (j : Nat) (x : Dest) :
    ∀ r, ((st.recordDone k j x).destsAt k)[j]? = some r → r.flag ≠ .pending := by
  unfold Stage.recordDone
  rw [Stage.deferralCheck_of_nil (by exact hd)]
  exact (Stage.removeIfDone_releasesQuietly (by exact hd) k).keeps_not_pending
    (st.setFlag_not_pending k j (by decide))

/-- A record that was released is not PENDING (R29). -/
theorem Stage.releaseRecord_not_pending {st : Stage} (hd : st.deferrals = []) (k : Fin 128) (j : Nat) :
    ∀ r, ((st.releaseRecord k j).destsAt k)[j]? = some r → r.flag ≠ .pending := by
  unfold Stage.releaseRecord
  cases hr : (st.destsAt k)[j]? with
  | none => simp [hr]
  | some r0 =>
    dsimp only
    split
    · rename_i hn
      intro r h
      rw [hr] at h
      exact Option.some.inj h ▸ hn
    · split
      · exact Stage.recordDone_not_pending hd k j _
      · split
        · exact Stage.recordDone_not_pending ((st.offerRelease_releasesQuietly _ _).deferrals.trans hd) k j _
        · exact st.setFlag_not_pending k j (by decide)

/-! ## Cuts (R31) -/

/-- A place and number that a search over the table finds. -/
theorem Stage.mem_recordsWhere {st : Stage} {f : DestRecord → Bool} {k : Fin 128} {j : Nat} {r : DestRecord}
    (hr : (st.destsAt k)[j]? = some r) (hf : f r = true) : (k, j) ∈ st.recordsWhere f := by
  refine List.mem_flatMap.2 ⟨k, List.mem_finRange k, List.mem_map.2 ⟨(r, j), List.mem_filter.2 ⟨?_, hf⟩, rfl⟩⟩
  exact List.mem_zipIdx_iff_getElem?.2 hr

/-- A destination has no PENDING record. -/
def Stage.NonePending (x : Dest) (st : Stage) : Prop :=
  ∀ (k : Fin 128) (j : Nat) (r : DestRecord), (st.destsAt k)[j]? = some r → r.key.dest = x → r.flag ≠ .pending

/-- A destination without a PENDING record gets none by releases. -/
theorem Stage.NonePending.keep {st st' : Stage} {x : Dest} (h : st.ReleasesQuietly st')
    (hn : st.NonePending x) :
    st'.NonePending x := fun k j r' hr' hx hp =>
  have ⟨r, hr, hk, hp'⟩ := h.records k j r' hr'
  hn k j r hr (hk ▸ hx) (hp' hp)

/-- A cut of a destination (R31). -/
theorem Stage.cut_releasesQuietly {st : Stage} (hd : st.deferrals = []) (x : Dest) :
    st.ReleasesQuietly (st.cut x) :=
  .foldl (fun _ kj hd => Stage.releaseRecord_releasesQuietly hd kj.1 kj.2) _ hd

/-- A cut destination has no PENDING record: each that it had was released (R31). -/
theorem Stage.cut_nonePending {st : Stage} (hd : st.deferrals = []) (x : Dest) : (st.cut x).NonePending x := by
  intro k j r' hr' hx hp
  obtain ⟨r, hr, hk, hp'⟩ := (Stage.cut_releasesQuietly hd x).records k j r' hr'
  have hmem : (k, j) ∈ st.recordsWhere (fun r => decide (r.flag = .pending) && decide (r.key.dest = x)) :=
    Stage.mem_recordsWhere hr (by simp [hp' hp, ← hk, hx])
  exact Stage.ReleasesQuietly.foldl_establishes
    (P := fun kj st => ∀ r, (st.destsAt kj.1)[kj.2]? = some r → r.flag ≠ .pending)
    (fun _ kj hd => Stage.releaseRecord_releasesQuietly hd kj.1 kj.2)
    (fun _ kj hd => Stage.releaseRecord_not_pending hd kj.1 kj.2)
    (fun _ _ _ h hn => h.keeps_not_pending hn) hmem hd r'
    hr' hp

/-- Cuts of several destinations leave none of them a PENDING record. -/
theorem Stage.cuts_nonePending {st : Stage} (hd : st.deferrals = []) {xs : List Dest} {x : Dest} (hx : x ∈ xs) :
    (xs.foldl (fun st x => st.cut x) st).NonePending x :=
  Stage.ReleasesQuietly.foldl_establishes (P := Stage.NonePending)
    (fun _ x hd => Stage.cut_releasesQuietly hd x)
    (fun _ x hd => Stage.cut_nonePending hd x) (fun _ _ _ => Stage.NonePending.keep) hx hd

/-! ## The destinations that a scene names (R128, R129) -/

/-- What a list is left with when repetitions are passed over. -/
theorem mem_foldl_firstNamed {x : Dest} (ys acc : List Dest) :
    x ∈ ys.foldl (fun ds y => if ds.contains y then ds else ds ++ [y]) acc ↔ x ∈ acc ∨ x ∈ ys := by
  induction ys generalizing acc with
  | nil => simp
  | cons y ys ih =>
    rw [List.foldl_cons, ih]
    by_cases hy : y ∈ acc
    · have named : x = y → x ∈ acc := fun e => e ▸ hy
      simp [hy]
      tauto
    · simp [hy, or_assoc]

/-- The touched destinations are those that the scene names. -/
theorem SceneCopy.mem_touched (sc : SceneCopy) (x : Dest) : x ∈ sc.touched ↔ sc.names x = true := by
  unfold SceneCopy.touched
  rw [mem_foldl_firstNamed]
  simp [SceneCopy.names, EntryMessage.dest]

/-- An entry message for a destination names it. -/
theorem SceneCopy.mem_touched_of_messagesFor {sc : SceneCopy} {x : Dest}
    (h : sc.messagesFor x ≠ []) : x ∈ sc.touched := by
  obtain ⟨m, hm⟩ := List.exists_mem_of_ne_nil _ h
  obtain ⟨e, he, -⟩ := List.mem_map.1 hm
  obtain ⟨he, hx⟩ := List.mem_filter.1 he
  rw [SceneCopy.mem_touched]
  simp only [SceneCopy.names, Bool.or_eq_true, List.any_eq_true]
  exact Or.inr ⟨e, he, hx⟩

end Sys2Proof.Machine
end

section
namespace Sys2Proof.Machine

open Sys2Proof

/-! ## The spill (R129, R130) -/

/-- The spill cuts: CUT, and DEFER with a limit of 0 (R129, R130). -/
def SceneCopy.spillCuts (sc : SceneCopy) : Prop := sc.spill = .cut ∨ (sc.spill = .defer ∧ sc.deferLimit = 0)

/-- The deferrals discarded: none is left, and each has its entry (R130). -/
theorem Stage.discardDeferrals_eq (st : Stage) :
    st.discardDeferrals =
      { st with
        deferrals := []
        entries := st.entries ++ st.deferrals.map fun df => .deferDiscarded df.dest df.messages.length df.activation } := by
  rw [Stage.discardDeferrals, Stage.emitAll_eq]

/-- A spill that cuts: every touched destination, once the deferrals are discarded (R129, R130). -/
theorem Stage.spill_of_cuts (st : Stage) {sc : SceneCopy} (h : sc.spillCuts) (activation : BitVec 16) :
    st.spill sc activation = sc.touched.foldl (fun st x => st.cut x) st.discardDeferrals := by
  unfold Stage.spill
  rcases h with h | ⟨h, hl⟩
  · rw [h]
  · rw [h]
    exact if_pos hl

/-- A spill that cuts nothing leaves the deferrals that it makes, if any (R129, R130). -/
theorem Stage.spill_of_not_cuts (st : Stage) {sc : SceneCopy} (h : ¬ sc.spillCuts) (activation : BitVec 16) :
    st.spill sc activation =
      { st.discardDeferrals with
        deferrals := if sc.spill = .defer then st.discardDeferrals.newDeferrals sc activation else [] } := by
  unfold Stage.spill
  simp only [SceneCopy.spillCuts] at h
  cases hs : sc.spill <;> simp_all [Stage.discardDeferrals_eq]

/-- A spill that cuts leaves no deferral. -/
theorem Stage.spill_deferrals_of_cuts (st : Stage) {sc : SceneCopy} (h : sc.spillCuts)
    (activation : BitVec 16) :
    (st.spill sc activation).deferrals = [] := by
  rw [st.spill_of_cuts h]
  have hd : st.discardDeferrals.deferrals = [] := by rw [Stage.discardDeferrals_eq]
  exact (Stage.ReleasesQuietly.foldl (fun _ x hd => Stage.cut_releasesQuietly hd x) _ hd).deferrals.trans hd

/-- A spill leaves the clock and the dampers, and puts its entries behind those before. -/
theorem Stage.spill_frame (st : Stage) (sc : SceneCopy) (activation : BitVec 16) :
    (st.spill sc activation).clock = st.clock ∧ (st.spill sc activation).dampers = st.dampers
      ∧ st.entries <+: (st.spill sc activation).entries := by
  by_cases h : sc.spillCuts
  · have hd : st.discardDeferrals.deferrals = [] := by rw [Stage.discardDeferrals_eq]
    rw [st.spill_of_cuts h,
      (Stage.ReleasesQuietly.foldl (fun _ x hd => Stage.cut_releasesQuietly hd x) sc.touched hd).frame,
      Stage.discardDeferrals_eq]
    exact ⟨rfl, rfl, List.prefix_append _ _⟩
  · rw [st.spill_of_not_cuts h, Stage.discardDeferrals_eq]
    exact ⟨rfl, rfl, List.prefix_append _ _⟩

/-- The deferral that a DEFER switch makes for a destination (R130). -/
theorem Stage.newDeferrals_find (st : Stage) (sc : SceneCopy) (activation : BitVec 16) (x : Dest) :
    (st.newDeferrals sc activation).find? (fun df => decide (df.dest = x)) =
      if st.holdsDest x = true ∧ sc.messagesFor x ≠ [] then
        some { dest := x, messages := sc.messagesFor x, deadline := after st.clock (sc.deferLimit * 1000)
               activation := activation }
      else none := by
  unfold Stage.newDeferrals
  split
  · rename_i h
    obtain ⟨y, hy⟩ : ∃ y, (List.find? (fun df : Deferral => decide (df.dest = x))
        ((sc.touched.filter fun x => st.holdsDest x && !(sc.messagesFor x).isEmpty).map fun x =>
          { dest := x, messages := sc.messagesFor x, deadline := after st.clock (sc.deferLimit * 1000)
            activation := activation })) = some y := by
      rw [← Option.isSome_iff_exists, List.find?_isSome]
      refine ⟨_, List.mem_map_of_mem (a := x)
        (List.mem_filter.2 ⟨SceneCopy.mem_touched_of_messagesFor h.2, ?_⟩), ?_⟩
      · simp [h.1, h.2]
      · simp
    rw [hy]
    have hx := List.find?_some hy
    obtain ⟨z, -, rfl⟩ := List.mem_map.1 (List.mem_of_find?_eq_some hy)
    simp at hx
    rw [hx]
  · rename_i h
    rw [List.find?_eq_none]
    intro df hdf
    obtain ⟨z, hz, rfl⟩ := List.mem_map.1 hdf
    have hz := (List.mem_filter.1 hz).2
    simp at hz ⊢
    rintro rfl
    exact h ⟨hz.1, hz.2⟩

/-- What `SpillSays` asks is what `spill` does, on a stage with the voices and the clock of the state before (R129, R130).
-/
theorem SpillSays.of_spill {s t : State} {st : Stage} {sc : SceneCopy} {activation : BitVec 16}
    (hv : st.voices = s.dev.stage.voices) (hc : st.clock = s.dev.now)
    (hv' : t.dev.stage.voices = (st.spill sc activation).voices)
    (hd' : t.dev.stage.deferrals = (st.spill sc activation).deferrals) : SpillSays sc activation s t := by
  have hdisc : st.discardDeferrals.deferrals = [] := by rw [Stage.discardDeferrals_eq]
  refine ⟨fun h => ?_, fun h k v r hk hr hn hp => ?_, fun h => ?_, fun h hl x => ?_⟩
  · rw [hv', st.spill_of_not_cuts h, Stage.discardDeferrals_eq]
    exact hv
  · rw [hv', st.spill_of_cuts h] at hk
    obtain ⟨j, hj⟩ := List.mem_iff_getElem?.1 hr
    exact Stage.cuts_nonePending hdisc (sc.mem_touched r.key.dest |>.2 hn) k j r
      (by simp [Stage.destsAt, hk, hj]) rfl hp
  · rw [hd']
    by_cases hcut : sc.spillCuts
    · exact st.spill_deferrals_of_cuts hcut activation
    · have hdefer : sc.spill ≠ .defer := fun e => hcut (Or.inr ⟨e, h.resolve_left fun hn => hn e⟩)
      rw [st.spill_of_not_cuts hcut]
      simp [hdefer]
  · have hcut : ¬ sc.spillCuts := by simp [SceneCopy.spillCuts, h, hl]
    have hholds : st.discardDeferrals.holdsDest x = s.dev.stage.holdsDest x := by
      simp [Stage.discardDeferrals_eq, Stage.holdsDest, Stage.destsAt, hv]
    have hclock : st.discardDeferrals.clock = s.dev.now := by rw [Stage.discardDeferrals_eq]; exact hc
    rw [Stage.deferralFor, hd', st.spill_of_not_cuts hcut]
    simp only [h, if_true]
    rw [Stage.newDeferrals_find, hholds, hclock]

/-! ## The switch (R127 to R133) -/

/-- What a switch leaves of the part that it was made on, for the go in flight `g`. -/
structure Device.SwitchedTo (s : State) (d : Device) (sc : SceneCopy) (moment : Moment)
  (g : GoFlight) (d' : Device) :
    Prop where
  frame : d' =
    { d with
      change := d'.change, tempo := d'.tempo, click := d'.click, req := d'.req, pageCause := d'.pageCause
      stage := { d.stage with
        voices := d'.stage.voices, ports := d'.stage.ports, deferrals := d'.stage.deferrals,
          entries := d'.stage.entries } }
  change : d'.change =
    { d.change.activate sc (sc.zones ++ carriedZones sc d.overrideHeld d.change.zones) with
      go := none, armed := none, state := .idle }
  req : d'.req =
    d.req.give (goCompletion s d'.stampHere d.req.working (some g) .ok (d.change.activation + 1).toNat)
  spill : ∃ st : Stage, st.voices = d.stage.voices ∧ st.clock = d.stage.clock
    ∧ d'.stage.voices = (st.spill sc (d.change.activation + 1)).voices
    ∧ d'.stage.deferrals = (st.spill sc (d.change.activation + 1)).deferrals
  entries : ∃ es, d'.stage.entries = d.stage.entries ++ es ++
    [.sceneChanged sc.number (d.change.activation + 1)
      (if sc.position.isSome then sc.position else d.change.setPosition) moment g.origin
      (carriedZones sc d.overrideHeld d.change.zones).length d'.stage.deferrals.length d.overrideHeld sc.spill]

/-- The six stages of a switch, together (R127 to R133). -/
theorem Device.switchTo_spec {s : State} {d : Device} {g : GoFlight} (hl : d.layout = s.dev.layout)
    (ha : d.regs.area = s.dev.regs.area) (hg : d.change.go = some g) (sc : SceneCopy) (moment : Moment) :
    Device.SwitchedTo s d sc moment g (d.switchTo sc moment) := by
  have carry := d.stage.emitAll_onlyOffers (carryEntries sc d.overrideHeld d.change.zones)
  set st2 := d.stage.emitAll (carryEntries sc d.overrideHeld d.change.zones) with hst2
  obtain ⟨spillClock, spillDampers, spillEntries⟩ := st2.spill_frame sc (d.change.activation + 1)
  have send := (st2.spill sc (d.change.activation + 1)).sendEntryMessages_onlyOffers sc
  set st3 := st2.spill sc (d.change.activation + 1) with hst3
  have timing := ((d.onChange (·.activate sc (sc.zones ++ carriedZones sc d.overrideHeld d.change.zones))).onStage
    fun _ => st3.sendEntryMessages sc).handTiming_onlyPlays sc
  set d5 := Device.handTiming _ sc with hd5
  have hswitch : d.switchTo sc moment =
      ((d5.emit (.sceneChanged sc.number (d.change.activation + 1)
        (if sc.position.isSome then sc.position else d.change.setPosition) moment d.change.goOrigin
        (carriedZones sc d.overrideHeld d.change.zones).length st3.deferrals.length d.overrideHeld sc.spill)).completeGo
          d.change.go .ok (d.change.activation + 1).toNat).onChange fun c =>
        { c with go := none, armed := none, state := .idle } := rfl
  obtain ⟨tempo, click, cause, ports, entries, h5, es, hes⟩ : ∃ tempo click cause ports entries,
      d5 =
        { d with
          change := d.change.activate sc (sc.zones ++ carriedZones sc d.overrideHeld d.change.zones)
          tempo := tempo, click := click, pageCause := cause
          stage := { d.stage with
            voices := st3.voices, ports := ports, deferrals := st3.deferrals, entries := entries } }
        ∧ d.stage.entries <+: entries := by
    refine ⟨d5.tempo, d5.click, d5.pageCause, d5.stage.ports, d5.stage.entries, timing.frame.trans ?_,
      carry.entries.trans (spillEntries.trans (send.entries.trans timing.entries))⟩
    simp [Device.onStage, Device.onChange, send.clock, spillClock, carry.clock, send.dampers, spillDampers,
      carry.dampers, send.voices, send.deferrals]
  clear_value d5
  subst h5
  have hgo : d.change.goOrigin = g.origin := by simp [ChangeUnit.goOrigin, hg]
  rw [hswitch, Device.completeGo_eq (s := s) (by exact hl) (by exact ha), hg, hgo]
  exact ⟨rfl, rfl, rfl, ⟨st2, carry.voices, carry.clock, rfl, rfl⟩, ⟨es, by simp [← hes]⟩⟩

end Sys2Proof.Machine
end

section
namespace Sys2Proof.Machine

open Sys2Proof

/-! ## Arming (R122) -/

/-- An arming that switches at once (R122). -/
theorem Device.arm_of_atOnce {d : Device} {sc : SceneCopy} (hc : d.change.copy = some sc)
    (h : sc.boundary = .now ∨ d.tempo.transport = .stopped) : d.arm = d.switchTo sc (armingMoment sc) := by
  unfold Device.arm armingMoment
  rw [hc]
  by_cases hb : sc.boundary = .now
  · simp [hb]
  · simp [hb, Tempo.isStopped, h.resolve_left hb]

/-- An arming that waits for its boundary (R122). -/
theorem Device.arm_of_not_atOnce {d : Device} {sc : SceneCopy} (hc : d.change.copy = some sc)
    (h : ¬ (sc.boundary = .now ∨ d.tempo.transport = .stopped)) :
    d.arm = d.onChange fun c =>
      { c with state := .armed, armed := some { boundary := sc.boundary, since := d.now } } := by
  obtain ⟨hb, ht⟩ := not_or.1 h
  unfold Device.arm
  rw [hc]
  simp [hb, Tempo.isStopped, ht]

/-- The override level is read from the pedals alone (R148). -/
theorem Device.overrideHeld_congr {d e : Device} (h : d.pedals = e.pedals) :
    d.overrideHeld = e.overrideHeld := by
  unfold Device.overrideHeld
  rw [h]

/-- The completion of a go does not depend on its waiting. -/
theorem goCompletion_waiting (s : State) (stamp : Stamp) (inScan : Bool) (g : GoFlight) (b : Bool)
    (code : ResultCode)
    (value : Nat) :
    goCompletion s stamp inScan (some { g with waiting := b }) code value =
      goCompletion s stamp inScan (some g) code value := by
  obtain ⟨o, w⟩ := g
  cases o <;> rfl

/-- What a switch does beside the change unit, for a part `d` that stands before it with the stage, the pedals and the
outgoing set of `s`, and the entries `earlier` handed. -/
theorem SwitchSays.of_switchedTo {s t : State} {d d' : Device} {sc : SceneCopy} {moment : Moment} {g : GoFlight}
    {earlier : List Entry} (h : Device.SwitchedTo s d sc moment g d')
    (hstage : d.stage = { s.dev.stage with entries := earlier }) (hpedals : d.pedals = s.dev.pedals)
    (hz : d.change.zones = s.dev.change.zones) (ha : d.change.activation = s.dev.change.activation)
    (hp : d.change.setPosition = s.dev.change.setPosition) (ht : t.dev.stage = { d'.stage with entries := [] })
    (hj : Journaled d'.stage.entries s t) : SwitchSays sc moment g earlier s t := by
  obtain ⟨st, hv, hck, hv', hd'⟩ := h.spill
  obtain ⟨es, hes⟩ := h.entries
  rw [hstage] at hv hck
  rw [ha] at hv' hd'
  refine ⟨SpillSays.of_spill hv hck (by rw [ht, hv']) (by rw [ht, hd']), es, ?_⟩
  rw [hes, ha, hp, Device.overrideHeld_congr hpedals, hz, hstage] at hj
  rw [ht]
  exact hj

/-! ## A copy that forms (R117) -/

/-- The change unit with the copy that a waiting go was for (R117, R121). -/
def ChangeUnit.takeForGo (c : ChangeUnit) (sc : SceneCopy) (g : GoFlight) : ChangeUnit :=
  { c with copy := some sc, go := some { g with waiting := false } }

/-- The part after a read that formed a copy, but for what the change state asks: the read has left the port, the load
buffer is empty, the cue is completed, and CUE_TAKEN is handed (R117). -/
def State.formedRead (s : State) (ld : Load) (sc : SceneCopy) : Device :=
  { s.dev.beginEvent with
    change := { s.dev.change with reads := s.dev.change.reads.tail, load := none }
    req := s.dev.req.give (cueCompletion s s.dev.stampNow s.dev.req.working ld.origin .ok sc.clamps)
    stage := { s.dev.stage with
      entries := [.cueTaken sc.headCount .ok sc.clamps ld.origin (some sc.number) ld.position] } }

section CopyFormed

variable {s : State} {ld : Load} {sc : SceneCopy} (hen : s.dev.stage.entries = [])
include hen

/-- What `copyFormed` does before it looks at the change state. -/
theorem State.formedRead_eq :
    (((s.dev.beginEvent.onChange ChangeUnit.popRead).onChange fun c =>
      { c with load := none }).completeCue ld.origin
      .ok sc.clamps).emit (.cueTaken sc.headCount .ok sc.clamps ld.origin (some sc.number) ld.position) =
      s.formedRead ld sc := by
  rw [Device.completeCue_eq (s := s) (by simp [Device.beginEvent]) (by simp [Device.beginEvent])]
  simp [State.formedRead, Device.emit, Stage.emit, Device.onReq, Device.onChange, Device.beginEvent,
    ChangeUnit.popRead,
    Device.stampHere, Device.stampNow, hen]

/-- In LOADING without a go the unit is CUED (R117). -/
theorem State.copyFormed_of_loading (hst : s.dev.change.state = .loading) (hgo : s.dev.change.go = none) :
    (s.dev.beginEvent.onChange ChangeUnit.popRead).copyFormed ld sc =
      (s.formedRead ld sc).onChange fun c => { c with copy := some sc, state := .cued } := by
  unfold Device.copyFormed
  rw [State.formedRead_eq hen]
  simp [Device.beginEvent, ChangeUnit.popRead, hst, hgo]

/-- In LOADING with a waiting go the copy is armed (R117, R122). -/
theorem State.copyFormed_of_go {g : GoFlight} (hst : s.dev.change.state = .loading)
    (hgo : s.dev.change.go = some g) :
    (s.dev.beginEvent.onChange ChangeUnit.popRead).copyFormed ld sc =
      ((s.formedRead ld sc).onChange (·.takeForGo sc g)).arm := by
  unfold Device.copyFormed
  rw [State.formedRead_eq hen]
  simp [Device.beginEvent, ChangeUnit.popRead, ChangeUnit.takeForGo, hst, hgo]

/-- In HELD the copy takes the place of the pending one (R117). -/
theorem State.copyFormed_of_held (hst : s.dev.change.state = .held) :
    (s.dev.beginEvent.onChange ChangeUnit.popRead).copyFormed ld sc =
      (s.formedRead ld sc).onChange fun c => { c with copy := some sc, loadingFlag := false } := by
  unfold Device.copyFormed
  rw [State.formedRead_eq hen]
  simp [Device.beginEvent, ChangeUnit.popRead, hst]

end CopyFormed

/-- A formed copy that is taken without a switch (R117). -/
theorem State.formedQuietly_outcome {s : State} {bus : Bus}
    {body : Device → PortRun → Device × PortRun} {run : PortRun}
    {ld : Load} {sc : SceneCopy} (f : ChangeUnit → ChangeUnit) (hon : s.isOnline = true)
    (hb : body s.dev.beginEvent { mem := s.mem, bus := bus } = ((s.formedRead ld sc).onChange f, run)) :
    ∃ t, t = s.portEvent true bus body ∧ t.mem = run.mem
      ∧ t.dev.change = f { s.dev.change with reads := s.dev.change.reads.tail, load := none }
      ∧ Completed s t (cueCompletion s s.dev.stampNow s.dev.req.working ld.origin .ok sc.clamps)
      ∧ Journaled [.cueTaken sc.headCount .ok sc.clamps ld.origin (some sc.number) ld.position] s t
      ∧ EventChanges [.change, .req, .mem] s t := by
  obtain ⟨hr, hst, hen, hpc⟩ := State.isOnline_spec hon
  obtain ⟨t, ht, hm, ⟨p, q, hs⟩, h⟩ := State.portEvent_outcome _ run _ [.change, .req, .mem] rfl hr hen hpc
    (Or.inl (by simp [hst, EngineState.isRunning])) hb rfl (by simp [State.formedRead, Device.beginEvent])
    (Device.drainOver_of_state (by simp [hst, State.formedRead, Device.beginEvent])) (by simp)
    (by intro b; cases b <;> simp [Block.agrees, State.formedRead, Device.beginEvent])
  exact ⟨t, ht, hm, by rw [hs]; rfl, by rw [hs]; rfl, h⟩

/-- A formed copy that is taken by a switch within its event (R117, R122, R133). -/
theorem State.formedSwitching_outcome {s : State} {bus : Bus} {body : Device → PortRun → Device × PortRun}
    {run : PortRun} {ld : Load} {sc : SceneCopy} {moment : Moment} {g : GoFlight} (hon : s.isOnline = true)
    (hb : body s.dev.beginEvent { mem := s.mem, bus := bus } =
      (((s.formedRead ld sc).onChange (·.takeForGo sc g)).switchTo sc moment, run)) :
    ∃ t, t = s.portEvent true bus body ∧ t.mem = run.mem
      ∧ t.dev.change = { switched s sc with reads := s.dev.change.reads.tail, load := none }
      ∧ SwitchSays sc moment g [.cueTaken sc.headCount .ok sc.clamps ld.origin (some sc.number) ld.position] s t
      ∧ Completed s t
          (cueCompletion s s.dev.stampNow s.dev.req.working ld.origin .ok sc.clamps ++
            goCompletion s t.dev.eventStamp s.dev.req.working (some g) .ok (s.dev.change.activation + 1).toNat)
      ∧ EventChanges [.change, .voices, .ports, .deferrals, .tempo, .click, .req, .mem] s t := by
  obtain ⟨hr, hst, hen, hpc⟩ := State.isOnline_spec hon
  have hsw := Device.switchTo_spec (s := s) (d := (s.formedRead ld sc).onChange (·.takeForGo sc g))
    (by simp [State.formedRead, Device.beginEvent])
    (by simp [State.formedRead, Device.beginEvent]) rfl sc moment
  have hpedals : ((s.formedRead ld sc).onChange (·.takeForGo sc g)).pedals = s.dev.pedals := by
    simp [State.formedRead, Device.beginEvent]
  generalize Device.switchTo _ _ _ = d' at hb hsw
  obtain ⟨t, ht, hm, ⟨p, q, hs⟩, hj, hc⟩ := State.portEvent_outcome d' run d'.stage.entries
    [.change, .voices, .ports, .deferrals, .tempo, .click, .req, .mem] rfl hr hen hpc
    (Or.inl (by simp [hst, EngineState.isRunning])) hb rfl
    (by rw [hsw.frame]; simp [State.formedRead, Device.beginEvent])
    (Device.drainOver_of_state (by rw [hsw.frame]; simp [hst, State.formedRead, Device.beginEvent])) (by simp)
    (by rw [hsw.frame]; intro b; cases b <;> simp [Block.agrees, State.formedRead, Device.beginEvent])
  have hchange : t.dev.change = d'.change := by rw [hs]
  have hreq : t.dev.req = d'.req := by rw [hs]
  have hstamp : t.dev.eventStamp = d'.stampHere := by rw [hs]
  have hsays := SwitchSays.of_switchedTo (t := t) hsw rfl hpedals rfl rfl rfl (by rw [hs]) hj
  refine ⟨t, ht, hm, ?_, hsays, ?_, hc⟩
  · rw [hchange, hsw.change, Device.overrideHeld_congr hpedals]
    rfl
  · rw [Completed, hreq, hsw.req, hstamp, goCompletion_waiting]
    simp [State.formedRead, RequestUnit.give, RequestUnit.working, ChangeUnit.takeForGo]

/-- A formed copy is taken by change state (R117, R122). -/
theorem State.copyFormed_outcome {s : State} {bus : Bus}
    {body : Device → PortRun → Device × PortRun} {run : PortRun}
    {ld : Load} {sc : SceneCopy} (hon : s.isOnline = true)
    (hst : s.dev.change.state = .loading ∨ s.dev.change.state = .held)
    (hb : body s.dev.beginEvent { mem := s.mem, bus := bus } =
      ((s.dev.beginEvent.onChange ChangeUnit.popRead).copyFormed ld sc, run)) :
    ∃ t, t = s.portEvent true bus body ∧ t.mem = run.mem ∧ CopyTaken s t ld sc := by
  obtain ⟨-, -, hen, -⟩ := State.isOnline_spec hon
  rcases hst with hst | hst
  · cases hgo : s.dev.change.go with
    | none =>
      rw [State.copyFormed_of_loading hen hst hgo] at hb
      obtain ⟨t, ht, hm, h⟩ := State.formedQuietly_outcome _ hon hb
      refine ⟨t, ht, hm, fun _ _ => h, ?_, ?_, ?_⟩ <;> simp [hgo, hst]
    | some g =>
      rw [State.copyFormed_of_go hen hst hgo] at hb
      by_cases hnow : sc.boundary = .now ∨ s.dev.tempo.transport = .stopped
      · obtain ⟨t, ht, hm, h⟩ := State.formedSwitching_outcome hon
          (hb.trans (congrArg (·, run) (Device.arm_of_atOnce rfl hnow)))
        refine ⟨t, ht, hm, by simp [hgo], fun _ _ _ hn => absurd hnow hn, fun g' _ hg' _ => ?_, by simp [hst]⟩
        obtain rfl : g = g' := Option.some.inj (hgo.symm.trans hg')
        exact h
      · have hwait := Device.arm_of_not_atOnce (d := (s.formedRead ld sc).onChange (·.takeForGo sc g)) rfl hnow
        obtain ⟨t, ht, hm, h⟩ := State.formedQuietly_outcome
          (fun c => { c.takeForGo sc g with
            state := .armed, armed := some { boundary := sc.boundary, since := s.dev.now } })
          hon (hb.trans (congrArg (·, run) hwait))
        refine ⟨t, ht, hm, by simp [hgo], fun g' _ hg' _ => ?_, fun _ _ _ hn => absurd hn hnow, by simp [hst]⟩
        obtain rfl : g = g' := Option.some.inj (hgo.symm.trans hg')
        exact h
  · rw [State.copyFormed_of_held hen hst] at hb
    obtain ⟨t, ht, hm, h⟩ := State.formedQuietly_outcome _ hon hb
    refine ⟨t, ht, hm, ?_, ?_, ?_, fun _ => h⟩ <;> simp [hst]

end Sys2Proof.Machine
end

section
namespace Sys2Proof.Machine

open Sys2Proof

/-! ## A scene read, by its outcome (R14 to R16) -/

/-- Reads of parts depend on the part only by the base of the rig area. -/
theorem readParts_congr {d e : Device} (h : d.regs.area = e.regs.area) (parts : List (Nat × Nat))
    (run : PortRun) :
    readParts d parts run = readParts e parts run := by
  induction parts generalizing run with
  | nil => rfl
  | cons part parts ih => simp [readParts, rigAddress, h, ih]

section SceneRead

variable {d : Device} {run run' : PortRun} {n : BitVec 7} {ld : Load}

/-- A scene record that was read, of the cue in progress. -/
theorem Device.sceneRead_read {parts : List (List Byte)} (hld : d.change.load = some ld)
    (hr : readParts d (sceneParts (sceneOffset d n)) run = (.ok parts, run')) :
    d.sceneRead { target := .sceneRecord n, abandoned := false } n run =
      ((d.onChange ChangeUnit.popRead).sceneRecordRead ld n (recordOf parts), run') := by
  simp [Device.sceneRead, hr, hld]

/-- A scene record whose read failed, of the cue in progress (R16). -/
theorem Device.sceneRead_failed {off : Nat} (hld : d.change.load = some ld)
    (hr : readParts d (sceneParts (sceneOffset d n)) run = (.error off, run')) :
    d.sceneRead { target := .sceneRecord n, abandoned := false } n run =
      (((d.onChange ChangeUnit.popRead).memoryFailure off .sceneCopy).copyFailed ld .memory 0, run') := by
  simp [Device.sceneRead, hr, hld]

/-- A scene record that was read for an abandoned copy: the data are discarded (R19). -/
theorem Device.sceneRead_abandoned {parts : List (List Byte)}
    (hr : readParts d (sceneParts (sceneOffset d n)) run = (.ok parts, run')) :
    d.sceneRead { target := .sceneRecord n, abandoned := true } n run =
      (d.onChange ChangeUnit.popRead, run') := by
  cases hld : d.change.load <;> simp [Device.sceneRead, hr, hld]

/-- A scene record whose read for an abandoned copy failed: the failure is reported (R16, R19). -/
theorem Device.sceneRead_abandoned_failed {off : Nat}
    (hr : readParts d (sceneParts (sceneOffset d n)) run = (.error off, run')) :
    d.sceneRead { target := .sceneRecord n, abandoned := true } n run =
      ((d.onChange ChangeUnit.popRead).memoryFailure off .sceneCopy, run') := by
  cases hld : d.change.load <;> simp [Device.sceneRead, hr, hld]

end SceneRead

/-! ## A whole record, judged (R10, R14, R15, R17) -/

section Judged

variable {d : Device} {ld : Load} {n : BitVec 7} {rec : List Byte}

/-- Unequal edit counts before the fourth read: another read is due 1,000 µs later (R15). -/
theorem Device.sceneRecordRead_torn (hne : fieldAt rec 0 4 ≠ fieldAt rec 380 4) (hr : ld.reads < 3) :
    d.sceneRecordRead ld n rec = d.onChange fun c =>
      { c with
        load := some
          { ld with
            headRead := BitVec.ofNat 32 (fieldAt rec 0 4), reads := ld.reads + 1
            retryAt := some (after d.now 1000) } } := by
  unfold Device.sceneRecordRead Device.tornRead
  rw [if_pos hne]
  exact if_pos (show ld.reads + 1 < 4 by omega)

/-- Unequal edit counts on the fourth read: TORN (R15). -/
theorem Device.sceneRecordRead_torn_last (hne : fieldAt rec 0 4 ≠ fieldAt rec 380 4) (hr : ld.reads = 3) :
    d.sceneRecordRead ld n rec =
      d.copyFailed { ld with headRead := BitVec.ofNat 32 (fieldAt rec 0 4) } .torn 4 := by
  unfold Device.sceneRecordRead Device.tornRead
  rw [if_pos hne]
  simp [hr, Config.maxReads]

/-- Equal edit counts with a structural error: BAD_SCENE (R10). -/
theorem Device.sceneRecordRead_error {value : Nat} (heq : fieldAt rec 0 4 = fieldAt rec 380 4)
    (he : sceneError rec = some value) :
    d.sceneRecordRead ld n rec =
      d.copyFailed { ld with headRead := BitVec.ofNat 32 (fieldAt rec 0 4) } .badScene value := by
  unfold Device.sceneRecordRead
  simp [heq, he]

/-- Equal edit counts and no structural error: the copy forms (R17). -/
theorem Device.sceneRecordRead_formed (heq : fieldAt rec 0 4 = fieldAt rec 380 4) (he : sceneError rec = none) :
    d.sceneRecordRead ld n rec =
      d.copyFormed { ld with headRead := BitVec.ofNat 32 (fieldAt rec 0 4) }
        (sceneCopyOf n ld.position rec) := by
  unfold Device.sceneRecordRead
  simp [heq, he]

end Judged

/-! ## The commands -/

/-- A read that ends with nothing but what it leaves itself (R16, R19). -/
theorem State.readEnded_outcome {s : State} {bus : Bus} {body : Device → PortRun → Device × PortRun}
    {run : PortRun}
    (regs : Registers) (es : List Entry) (bs : List Block) (hon : s.isOnline = true)
    (hbs : ∀ b : Block, b ∈ bs ∨ b.agrees s { s with dev := { s.dev with regs := regs } })
    (hb : body s.dev.beginEvent { mem := s.mem, bus := bus } = (s.dev.beginEvent.readEnded regs es, run)) :
    ∃ t, t = s.portEvent true bus body ∧ t.mem = run.mem
      ∧ t.dev.change = { s.dev.change with reads := s.dev.change.reads.tail } ∧ t.dev.regs = regs
      ∧ Journaled es s t ∧ EventChanges ([.change, .mem] ++ bs) s t := by
  obtain ⟨hr, hst, hen, hpc⟩ := State.isOnline_spec hon
  obtain ⟨t, ht, hm, ⟨p, q, hs⟩, h⟩ := State.portEvent_outcome _ run es ([.change, .mem] ++ bs) rfl hr hen hpc
    (Or.inl (by simp [hst, EngineState.isRunning])) hb rfl rfl
    (Device.drainOver_of_state (by simp [hst, Device.beginEvent, Device.readEnded])) (by simp)
    (by intro b; cases b <;> simp [Block.agrees, Device.beginEvent, Device.readEnded] <;> exact hbs _)
  exact ⟨t, ht, hm, by rw [hs]; rfl, by rw [hs]; rfl, h⟩

/-- SCENE_READ_COMPLETION of a scene read at the front of the port. -/
theorem exec_sceneReadCompletion {s : State} {rd : CopyRead} {n : BitVec 7}
    (h : s.dev.change.nextRead = some rd)
    (hn : rd.target = .sceneRecord n) (bus : Bus) :
    exec (.sceneReadCompletion bus) s = .next (s.portEvent true bus fun d run => d.sceneRead rd n run) := by
  obtain ⟨target, abandoned⟩ := rd
  subst hn
  show execSceneReadCompletion bus s = _
  unfold execSceneReadCompletion
  rw [h]

/-- A further read of a torn scene begins (R15). -/
theorem ChangeUnit.retryRead_eq {c : ChangeUnit} {ld : Load} {n : BitVec 7} (hld : c.load = some ld)
    (hn : ld.scene = some n) :
    c.retryRead =
      { c with
        load := some { ld with retryAt := none }
        reads := c.reads ++ [{ target := .sceneRecord n, abandoned := false }] } := by
  simp [ChangeUnit.retryRead, hld, hn]

/-- SCENE_READ_RETRY at its moment, and not before (R15; log 3). -/
theorem State.sceneReadRetry_outcome {s : State} {ld : Load} {n : BitVec 7} {m : Word}
    (hready : s.isReady = true)
    (hld : s.dev.change.load = some ld) (hn : ld.scene = some n) (hm : ld.retryAt = some m) :
    (reached s.dev.now m = true →
      ∃ t, exec .sceneReadRetry s = .next t
        ∧ t.dev.change =
            { s.dev.change with
              load := some { ld with retryAt := none }
              reads := s.dev.change.reads ++ [{ target := .sceneRecord n, abandoned := false }] }
        ∧ Journaled [] s t ∧ EventChanges [.change] s t) ∧
    (reached s.dev.now m = false → exec .sceneReadRetry s = .next s) := by
  obtain ⟨hr, hen, hpc, hd⟩ := State.isReady_spec hready
  have hdue : timerDue s.dev.now s.dev.change.retryAt = reached s.dev.now m := by
    simp [ChangeUnit.retryAt, hld, hm, timerDue]
  refine ⟨fun h => ?_, fun h => congrArg _ (State.event_not_due s _ _ (Or.inr (hdue.trans h)))⟩
  obtain ⟨t, ht, ⟨p, q, hs⟩, h⟩ := State.event_outcome
    (body := fun d => d.onChange ChangeUnit.retryRead) _ [] [.change]
    (hdue.trans h) hr hen hpc (Or.inr rfl) rfl (by simpa [Device.beginEvent] using hen) rfl hd
    (by intro b; cases b <;> simp [Block.agrees, Device.beginEvent])
  refine ⟨t, congrArg _ ht.symm, ?_, h⟩
  rw [hs, ← ChangeUnit.retryRead_eq hld hn]
  rfl

/-- Settles O37: the read by its outcome, and the record by what is found in it. -/
theorem sceneReadsAreJudged : Obligations.SceneReadsAreJudged := by
  refine ⟨fun s ld n m hready hld hn hm => State.sceneReadRetry_outcome hready hld hn hm, ?_⟩
  intro s bus n hon read
  obtain ⟨-, -, hen, -⟩ := State.isOnline_spec hon
  have hread {o : Except Nat (List (List Byte))} (h : read.1 = o) :
      readParts s.dev.beginEvent (sceneParts (sceneOffset s.dev.beginEvent n)) { mem := s.mem, bus := bus } =
        (o, read.2) :=
    (readParts_congr (d := s.dev.beginEvent) (e := s.dev) rfl _ _).trans (Prod.ext h rfl)
  refine ⟨fun hnext => ?_, fun ld hnext hld hst => ⟨fun parts hparts => ?_, fun off hoff => ?_⟩⟩
  · rw [exec_sceneReadCompletion hnext rfl]
    cases ho : read.1 with
    | ok parts =>
      obtain ⟨t, ht, hm, hc, -, h⟩ := State.readEnded_outcome
        (body := fun d run => d.sceneRead _ n run) s.dev.regs [] []
        hon (fun b => Or.inr (by cases b <;> simp [Block.agrees]))
        ((Device.sceneRead_abandoned (hread ho)).trans
          (congrArg (·, read.2) (Device.popRead_eq_readEnded s.dev.beginEvent hen)))
      exact ⟨t, congrArg _ ht.symm, hm, hc, fun _ _ => h, fun _ e => nomatch e⟩
    | error off =>
      obtain ⟨t, ht, hm, hc, hregs, h⟩ := State.readEnded_outcome (body := fun d run => d.sceneRead _ n run)
        (s.dev.regs.setFault s.dev.now .memory) _ [.faults, .causes, .attnPulse] hon
          (Block.agrees_of_setFault s _ _)
        ((Device.sceneRead_abandoned_failed (hread ho)).trans
          (congrArg (·, read.2) (Device.memoryFailure_popRead s.dev.beginEvent off .sceneCopy hen)))
      refine ⟨t, congrArg _ ht.symm, hm, hc, fun _ e => (nomatch e), fun off' e => ?_⟩
      obtain rfl := Except.error.inj e
      exact ⟨.of_setFault hregs, h⟩
  · intro record head
    rw [exec_sceneReadCompletion hnext rfl]
    have whole := Device.sceneRead_read (d := s.dev.beginEvent) hld (hread hparts)
    refine ⟨fun hne hr => ?_, fun hne hr => ?_, fun value heq he => ?_, fun heq he => ?_⟩
    · obtain ⟨t, ht, h⟩ := State.readGoesOn_outcome _ hon (body := fun d run => d.sceneRead _ n run)
        (whole.trans (congrArg (·, read.2) (Device.sceneRecordRead_torn hne hr)))
      exact ⟨t, congrArg _ ht.symm, h⟩
    · obtain ⟨t, ht, h⟩ := State.readRefused_outcome hon (body := fun d run => d.sceneRead _ n run)
        (whole.trans (congrArg (·, read.2) (Device.sceneRecordRead_torn_last hne hr)))
      exact ⟨t, congrArg _ ht.symm, h⟩
    · obtain ⟨t, ht, h⟩ := State.readRefused_outcome hon (body := fun d run => d.sceneRead _ n run)
        (whole.trans (congrArg (·, read.2) (Device.sceneRecordRead_error heq he)))
      exact ⟨t, congrArg _ ht.symm, h⟩
    · obtain ⟨t, ht, h⟩ := State.copyFormed_outcome hon hst (body := fun d run => d.sceneRead _ n run)
        (whole.trans (congrArg (·, read.2) (Device.sceneRecordRead_formed heq he)))
      exact ⟨t, congrArg _ ht.symm, h⟩
  · rw [exec_sceneReadCompletion hnext rfl]
    obtain ⟨t, ht, h⟩ := State.readFailed_outcome hon (body := fun d run => d.sceneRead _ n run)
      (Device.sceneRead_failed (d := s.dev.beginEvent) hld (hread hoff))
    exact ⟨t, congrArg _ ht.symm, h⟩

end Sys2Proof.Machine
end

section
/-! Events whose work is on the stage alone, and arrivals at the routing unit (R34 to R40): the next stage, what is handed
to the journal, and the frame. -/
namespace Sys2Proof.Machine

open Sys2Proof

/-! ## Which blocks of the stage change -/

/-- A stage that differs from another in the named blocks, and in its entries, alone. -/
structure Stage.ChangesOnly (bs : List Block) (st st' : Stage) : Prop where
  clock : st'.clock = st.clock
  voices : .voices ∈ bs ∨ st'.voices = st.voices
  dampers : .dampers ∈ bs ∨ st'.dampers = st.dampers
  ports : .ports ∈ bs ∨ st'.ports = st.ports
  deferrals : .deferrals ∈ bs ∨ st'.deferrals = st.deferrals

/-- A frame with one more block named is weaker. -/
theorem Stage.ChangesOnly.cons {b : Block} {bs : List Block} {st st' : Stage} (h : st.ChangesOnly bs st') :
    st.ChangesOnly (b :: bs) st' :=
  ⟨h.clock, h.voices.imp_left (List.mem_cons_of_mem b), h.dampers.imp_left (List.mem_cons_of_mem b),
    h.ports.imp_left (List.mem_cons_of_mem b), h.deferrals.imp_left (List.mem_cons_of_mem b)⟩

/-- Block by block, the frame of an event of the stage that may also take an arrival from a key port. -/
theorem Stage.ChangesOnly.agrees {s : State} {bs : List Block} {st : Stage} (h : s.dev.stage.ChangesOnly bs st)
    (stamp : Stamp) {kps : Vector KeyPort 4} (hk : Block.keyPorts ∈ bs ∨ kps = s.dev.keyPorts) (b : Block) :
    b ∈ bs ∨ b ∈ [Block.entries, .eventStamp, .page, .pageCause] ∨
      b.agrees s { s with dev := { s.dev with stage := st, eventStamp := stamp, keyPorts := kps } } := by
  obtain ⟨hclock, hvoices, hdampers, hports, hdeferrals⟩ := h
  cases b <;> simp [Block.agrees, *]

/-! ## Events of the stage -/

/-- An event whose work leaves a given stage. What it hands over is taken up while the engine runs (R157). -/
theorem State.stageEvent_outcome {s : State} {due : Bool} {f : Stage → Stage} {st : Stage} (es : List Entry)
    (bs : List Block) (hready : s.isReady = true) (hdue : due = true) (hst : f s.dev.stage = st) (hes : st.entries = es)
    (hover : ({ s.dev with stage := st } : Device).drainOver = false) (hfr : s.dev.stage.ChangesOnly bs st) :
    ∃ t, (.next (s.event due fun d => d.onStage f) : Host.Outcome State Fault Refusal) = .next t
      ∧ t.dev.stage = { st with entries := [] }
      ∧ (s.dev.engine.state.isRunning = true ∨ es = [] → Journaled es s t) ∧ EventChanges bs s t := by
  obtain ⟨hr, hen, hpc, -⟩ := State.isReady_spec hready
  subst hdue
  have hb : s.dev.beginEvent.onStage f = { s.dev.beginEvent with stage := st } := by rw [← hst]; rfl
  obtain ⟨p, hp⟩ := State.event_spec (s := s) (body := fun d => d.onStage f) hr (by rw [hb]; exact hover)
  rw [hb] at hp
  refine ⟨_, rfl, by rw [hp], fun hrun => ?_, ?_⟩
  · rw [hp]
    rcases hrun with h | h
    · simp [Journaled, Device.handedOver, h, hes, JournalWriter.hand]
    · simp [Journaled, Device.handedOver, hes, h, JournalWriter.hand]
  · rw [hp]
    intro b hb
    simp only [bookkeeping, List.mem_append, not_or] at hb
    have := (hfr.agrees s.dev.eventStamp (.inr rfl) b).resolve_left hb.1
    cases b <;> simp [Block.agrees, hen, hpc] at hb this ⊢ <;> exact this

/-- ONLINE no drain is over, and the journal takes what is handed. -/
theorem State.stageEvent_online {s : State} {due : Bool} {f : Stage → Stage} {st : Stage} (es : List Entry)
    (bs : List Block) (hon : s.isOnline = true) (hdue : due = true) (hst : f s.dev.stage = st) (hes : st.entries = es)
    (hfr : s.dev.stage.ChangesOnly bs st) :
    ∃ t, (.next (s.event due fun d => d.onStage f) : Host.Outcome State Fault Refusal) = .next t
      ∧ t.dev.stage = { st with entries := [] } ∧ Journaled es s t ∧ EventChanges bs s t := by
  obtain ⟨-, heng, -⟩ := State.isOnline_spec hon
  obtain ⟨t, ht, hstage, hj, hc⟩ := State.stageEvent_outcome es bs (State.isReady_of_isOnline hon) hdue hst hes
    (Device.drainOver_of_state (by simp [heng])) hfr
  exact ⟨t, ht, hstage, hj (.inl (by simp [heng, EngineState.isRunning])), hc⟩

section Arrival

variable {s : State} {port : Fin 4} {a : Arrival} {fits : Message → Bool} (hon : s.isOnline = true)
  (ha : s.dev.nextArrival port = some a) (hf : fits a.msg = true)
include hon ha hf

/-- An arrival whose row works on the stage, under the active zones: the stage that it leaves. -/
theorem State.stageArrival_outcome {f : List Zone → Message → Stage → Stage} {st : Stage} (es : List Entry)
    (bs : List Block) (hst : f s.dev.change.zones a.msg s.dev.stage = st) (hes : st.entries = es)
    (hfr : s.dev.stage.ChangesOnly bs st) :
    ∃ t, (.next (s.arrival port fits fun m d => d.onStage (f d.change.zones m)) : Host.Outcome State Fault Refusal) =
        .next t
      ∧ t.dev.stage = { st with entries := [] } ∧ Journaled es s t ∧ ArrivalTaken port s t
      ∧ EventChanges (.keyPorts :: bs) s t := by
  have hb : (s.dev.beginEvent.takeArrival port a).onStage (f s.dev.change.zones a.msg) =
      { s.dev.beginEvent.takeArrival port a with stage := st } := by rw [← hst]; rfl
  obtain ⟨t, ht, ⟨p, q, hs⟩, hj, hc⟩ := State.arrival_outcome (fits := fits)
    (body := fun m d => d.onStage (f d.change.zones m)) _ es (.keyPorts :: bs) hon ha hf hb rfl hes rfl
    (hfr.cons.agrees _ (.inl (by simp)))
  exact ⟨t, congrArg _ ht.symm, by rw [hs], hj, by rw [hs]; rfl, hc⟩

end Arrival

end Sys2Proof.Machine
end

section
/-! Bytes at the frame assemblers (R21 to R23), and what the machine holds after reset (R193). -/
namespace Sys2Proof.Machine

open Sys2Proof

/-- A named block that is as it was need not be named. -/
theorem OnlyChanges.unname {b : Block} {bs cs : List Block} {s t : State} (h : OnlyChanges bs s t) (hb : b.agrees s t)
    (hsub : ∀ c ∈ bs, c = b ∨ c ∈ cs) : OnlyChanges cs s t := fun c hc => by
  by_cases hcb : c = b
  · exact hcb ▸ hb
  · exact h c fun hmem => hc ((hsub c hmem).resolve_left hcb)

/-! ## A byte at a frame assembler, by its row (R21, R22) -/

section TakeByte

variable {kp : KeyPort} {byte : Byte} (now : Word)

/-- A missing stop bit discards the byte with what was collected. -/
theorem KeyPort.takeByte_badStop :
    kp.takeByte now byte false = ({ kp with asm := .seeking, held := [] }, some (.badStop, kp.held.length + 1)) := rfl

/-- A start byte begins a frame, and cuts short one that was being collected. -/
theorem KeyPort.takeByte_start (hb : isStartByte byte = true) :
    kp.takeByte now byte true =
      ({ kp with asm := .collecting, held := [byte] },
        if kp.asm = .collecting then some (.cutShort, kp.held.length) else none) := by
  simp [KeyPort.takeByte, hb]

/-- A data byte in SEEKING is discarded. -/
theorem KeyPort.takeByte_seeking (hb : isStartByte byte = false) (hk : kp.asm = .seeking) :
    kp.takeByte now byte true = (kp, none) := by
  simp [KeyPort.takeByte, hb, hk]

/-- A data byte in WAITING is a stray. -/
theorem KeyPort.takeByte_waiting (hb : isStartByte byte = false) (hk : kp.asm = .waiting) :
    kp.takeByte now byte true = ({ kp with asm := .seeking, held := [] }, some (.stray, 1)) := by
  simp [KeyPort.takeByte, hb, hk]

/-- A data byte in COLLECTING. -/
theorem KeyPort.takeByte_collecting (hb : isStartByte byte = false) (hk : kp.asm = .collecting) :
    kp.takeByte now byte true = kp.collect now byte := by
  simp [KeyPort.takeByte, hb, hk]

/-- A data byte before the fourth joins the frame. -/
theorem KeyPort.collect_joins (hl : kp.held.length < 3) :
    kp.collect now byte = ({ kp with held := kp.held ++ [byte] }, none) := by
  unfold KeyPort.collect
  split
  · rename_i h
    simp [h] at hl
  · rfl

/-- The fourth byte of a frame that fails its check. -/
theorem KeyPort.collect_error {b0 b1 b2 : Byte} {reason : LineReason} (hh : kp.held = [b0, b1, b2])
    (hc : checkFrame b0 b1 b2 byte = .error reason) :
    kp.collect now byte = ({ kp with asm := .waiting, held := [] }, some (reason, 4)) := by
  simp [KeyPort.collect, hh, hc]

/-- The fourth byte of a frame that passes its check. -/
theorem KeyPort.collect_ok {b0 b1 b2 : Byte} {m : Message} (hh : kp.held = [b0, b1, b2])
    (hc : checkFrame b0 b1 b2 byte = .ok m) :
    kp.collect now byte =
      ({ asm := .waiting, held := [], handed := kp.handed ++ [{ msg := m, clock := now }] }, none) := by
  simp [KeyPort.collect, hh, hc]

end TakeByte

/-! ## The event of a byte -/

/-- A byte at a key port, by what its assembler answers. -/
theorem Device.keyByte_eq {d : Device} {port : Fin 4} {byte : Byte} {stopBit : Bool}
    {r : KeyPort × Option LineFaultReport} (h : d.keyPorts[port].takeByte d.now byte stopBit = r) :
    d.keyByte port byte stopBit = { d with keyPorts := d.keyPorts.set port r.1 }.reportLineFault port r.2 := by
  subst h
  rfl

/-- A byte that breaks no frame changes its key port alone. -/
theorem State.keyByte_silent {s : State} {port : Fin 4} {byte : Byte} {stopBit : Bool} {kp : KeyPort}
    (hon : s.isOnline = true) (h : s.dev.keyPorts[port].takeByte s.dev.now byte stopBit = (kp, none)) :
    ∃ t, exec (.keyByteArrival port byte stopBit) s = .next t ∧ t.dev.keyPorts = s.dev.keyPorts.set port kp
      ∧ Journaled [] s t ∧ EventChanges [.keyPorts] s t := by
  obtain ⟨hr, hst, hen, hpc⟩ := State.isOnline_spec hon
  obtain ⟨t, ht, ⟨p, q, hs⟩, h⟩ := State.event_outcome (body := fun d => d.keyByte port byte stopBit)
    { s.dev.beginEvent with keyPorts := s.dev.keyPorts.set port kp } [] [.keyPorts] (decide_eq_true hst) hr hen hpc
    (.inr rfl) (Device.keyByte_eq (d := s.dev.beginEvent) h) hen rfl
    (Device.drainOver_of_state (by simp [hst])) (by intro b; cases b <;> simp [Block.agrees])
  exact ⟨t, congrArg _ ht.symm, by rw [hs], h⟩

/-- A byte that breaks a frame is reported (R22). -/
theorem State.keyByte_lineFault {s : State} {port : Fin 4} {byte : Byte} {stopBit : Bool} {asm : AsmState}
    {held : List Byte} {reason : LineReason} {bytes : Nat} (hon : s.isOnline = true)
    (h : s.dev.keyPorts[port].takeByte s.dev.now byte stopBit =
      ({ s.dev.keyPorts[port] with asm := asm, held := held }, some (reason, bytes))) :
    LineFaultOf s port byte stopBit asm held reason bytes := by
  obtain ⟨hr, hst, hen, hpc⟩ := State.isOnline_spec hon
  obtain ⟨t, ht, ⟨p, q, hs⟩, hj, hc⟩ := State.event_outcome (body := fun d => d.keyByte port byte stopBit)
    (({ s.dev.beginEvent with
        keyPorts := s.dev.keyPorts.set port { s.dev.keyPorts[port] with asm := asm, held := held } } : Device).emit
      (.lineFault port reason bytes) |>.setFault .line)
    [.lineFault port reason bytes] [.keyPorts, .faults, .causes, .attnPulse] (decide_eq_true hst) hr hen hpc
    (.inl (by simp [hst, EngineState.isRunning])) (Device.keyByte_eq (d := s.dev.beginEvent) h) (by simp [hen]) rfl
    (Device.drainOver_of_state (by simp [hst]))
    (by intro b; cases b <;> simp [Block.agrees])
  exact ⟨t, congrArg _ ht.symm, by rw [hs]; rfl, hj, .of_setFault (by rw [hs]; rfl), hc⟩

/-! ## The check of a frame (R22, R200) -/

/-- A byte 0 of no kind. -/
theorem checkFrame_badKind {b0 : Byte} (h : frameKindOf b0 = none) (b1 b2 b3 : Byte) :
    checkFrame b0 b1 b2 b3 = .error .badKind := by
  simp [checkFrame, h]

/-- A channel above 15. -/
theorem checkFrame_badChannel {b0 b1 : Byte} (h : frameKindOf b0 ≠ none) (h1 : 15 < b1.toNat) (b2 b3 : Byte) :
    checkFrame b0 b1 b2 b3 = .error .badChannel := by
  obtain ⟨kind, hk⟩ := Option.ne_none_iff_exists'.1 h
  simp [checkFrame, hk, h1]

/-- A whole frame. -/
theorem checkFrame_whole {b0 b1 : Byte} {kind : FrameKind} (h : frameKindOf b0 = some kind) (h1 : b1.toNat ≤ 15)
    (b2 b3 : Byte) :
    checkFrame b0 b1 b2 b3 =
      .ok { kind := kind, channel := b1.setWidth 4, data1 := b2.setWidth 7, data2 := b3.setWidth 7 } := by
  simp [checkFrame, h, Nat.not_lt.2 h1]

/-! ## The statements -/

/-- Settles O2: the reset values, block by block. -/
theorem resetHoldsTheSpecValues : Obligations.ResetHoldsTheSpecValues := by
  have damper (p : Fin 4) (c : BitVec 4) : State.reset.dev.stage.damperDown p c = false := by
    simp [State.reset, Device.reset, Stage.reset, Stage.damperDown]
  have keyPort (p : Fin 4) : State.reset.dev.keyPorts[p] = KeyPort.reset := by simp [State.reset, Device.reset]
  have port (p : Fin 6) : State.reset.dev.stage.ports[p] = ModulePort.reset := by
    simp [State.reset, Device.reset, Stage.reset]
  have line (n : Fin 4) : State.reset.dev.click.lines[n] = ClickLine.reset := by
    simp [State.reset, Device.reset, ClickUnit.reset]
  have pedal (n : Fin 8) : State.reset.dev.pedals[n] = Pedal.reset := by simp [State.reset, Device.reset]
  refine ⟨rfl, rfl, rfl, rfl, rfl, by decide, rfl, rfl, rfl, rfl, rfl, fun k => ?_, rfl, damper, fun p => ?_, fun p => ?_,
    rfl, rfl, rfl, rfl, rfl, rfl, rfl, rfl, rfl, rfl, rfl, rfl, rfl, rfl, rfl, rfl, rfl, rfl, rfl, rfl, fun n => ?_, rfl,
    fun n => ?_, rfl, rfl, rfl, rfl, rfl⟩
  · simp [State.reset, Device.reset, Stage.reset]
  · rw [keyPort]; exact ⟨rfl, rfl⟩
  · rw [port]; exact ⟨rfl, rfl, rfl⟩
  · rw [line]; exact ⟨rfl, rfl, rfl, rfl⟩
  · rw [pedal]; exact ⟨rfl, rfl, rfl⟩

/-- Settles O10: the silent rows of `KeyPort.takeByte`. -/
theorem keyBytesAssemble : Obligations.KeyBytesAssemble := by
  intro s port byte kp
  refine ⟨fun stopBit hoff => ?_, fun hon hb hk => ?_, fun hon hb hk hl => ?_, fun hon hb hk => ?_,
    fun b0 b1 b2 kind hon hb hk hh hkind h1 => ?_⟩
  · exact congrArg _ (State.event_not_due s _ _ (.inr (decide_eq_false hoff)))
  · exact State.keyByte_silent hon ((KeyPort.takeByte_start _ hb).trans (by rw [if_neg hk]))
  · exact State.keyByte_silent hon ((KeyPort.takeByte_collecting _ hb hk).trans (KeyPort.collect_joins _ hl))
  · obtain ⟨t, ht, hp, hj, hc⟩ := State.keyByte_silent hon (KeyPort.takeByte_seeking _ hb hk)
    exact ⟨t, ht, hj, OnlyChanges.unname (b := .keyPorts) hc (hp.trans (by simp)) (by decide)⟩
  · exact State.keyByte_silent hon ((KeyPort.takeByte_collecting _ hb hk).trans
      (KeyPort.collect_ok _ hh (checkFrame_whole hkind h1 b2 byte)))

/-- Settles O11: the reported rows of `KeyPort.takeByte`. -/
theorem brokenFramesAreReported : Obligations.BrokenFramesAreReported := by
  intro s port byte hon kp
  refine ⟨State.keyByte_lineFault hon (KeyPort.takeByte_badStop _), fun hb hk => ?_, fun hb hk => ?_,
    fun b0 b1 b2 hb hk hh => ?_, fun hb hk => ?_⟩
  · exact State.keyByte_lineFault hon ((KeyPort.takeByte_start _ hb).trans (by rw [if_pos hk]))
  · exact State.keyByte_lineFault hon (KeyPort.takeByte_waiting _ hb hk)
  · have fourth {reason : LineReason} (hc : checkFrame b0 b1 b2 byte = .error reason) :
        LineFaultOf s port byte true .waiting [] reason 4 :=
      State.keyByte_lineFault hon ((KeyPort.takeByte_collecting _ hb hk).trans (KeyPort.collect_error _ hh hc))
    exact ⟨fun h0 => fourth (checkFrame_badKind h0 _ _ _), fun h0 h1 => fourth (checkFrame_badChannel h0 h1 _ _)⟩
  · obtain ⟨t, ht, hp, hj, hc⟩ := State.keyByte_silent hon (KeyPort.takeByte_seeking _ hb hk)
    exact ⟨t, ht, hj, OnlyChanges.unname (b := .keyPorts) hc (hp.trans (by simp)) (by decide)⟩

end Sys2Proof.Machine
end

section
/-! An entry with one record, as it is released (R28 to R30, R32): the KEY_UP goes out and the entry leaves the table, or the
record is OWED. -/
namespace Sys2Proof.Machine

open Sys2Proof

/-! ## Writing places of the table -/

/-- A place written twice. -/
@[simp] theorem Stage.setVoice_setVoice (st : Stage) (k : Fin 128) (v w : Option Voice) :
    (st.setVoice k v).setVoice k w = st.setVoice k w := by
  simp [Stage.setVoice]

/-- A change of the entry that stands at a place. -/
theorem Stage.modifyVoice_eq {st : Stage} {k : Fin 128} {v : Voice} (hv : st.voices[k] = some v) (f : Voice → Voice) :
    st.modifyVoice k f = st.setVoice k (some (f v)) := by
  simp [Stage.modifyVoice, hv]

/-- The table at a place just written. -/
theorem Stage.setVoice_get (st : Stage) (k : Fin 128) (v : Option Voice) : (st.setVoice k v).voices[k] = v := by
  simp

/-- A deferral is found in the list alone. -/
theorem Stage.deferralFor_congr {st st' : Stage} (h : st'.deferrals = st.deferrals) (d : Dest) :
    st'.deferralFor d = st.deferralFor d := by
  rw [Stage.deferralFor, h]
  rfl

/-- Without a deferral of the destination a report ends none (R135). -/
theorem Stage.deferralCheck_of_none {st : Stage} {d : Dest} (h : st.deferralFor d = none) : st.deferralCheck d = st := by
  rw [Stage.deferralCheck, h]

/-! ## What a doubling depends on -/

/-- Whether a key is held elsewhere depends on the records of the table alone. -/
theorem Stage.heldElsewhere_congr {st st' : Stage} (h : ∀ k, st'.destsAt k = st.destsAt k) (k : Fin 128) (j : Nat)
    (key : DestKey) : st'.heldElsewhere k j key = st.heldElsewhere k j key := by
  simp [Stage.heldElsewhere, h]

/-- A new state of an entry leaves the records of the table. -/
theorem Stage.destsAt_modifyState (st : Stage) (k k' : Fin 128) (x : VoiceState) :
    (st.modifyVoice k fun v => { v with state := x }).destsAt k' = st.destsAt k' := by
  unfold Stage.modifyVoice
  rw [Stage.destsAt_setVoice]
  split
  · rename_i h
    subst h
    unfold Stage.destsAt
    cases st.voices[k] <;> rfl
  · rfl

/-! ## One record -/

section Alone

variable {st : Stage} {k : Fin 128} {v : Voice} (hv : st.voices[k] = some v)
include hv

/-- The records of an entry that stands in the table. -/
theorem Stage.destsAt_eq : st.destsAt k = v.dests := by
  rw [Stage.destsAt, hv]

/-- The only record of an entry becomes DONE on a destination without deferral: the entry leaves the table (R28, R32). -/
theorem Stage.recordDone_alone {r : DestRecord} (hd : v.dests = [r]) (hdf : st.deferralFor r.key.dest = none) :
    st.recordDone k 0 r.key.dest = st.setVoice k none := by
  have hflag : st.setFlag k 0 .done = st.setVoice k (some { v with dests := [{ r with flag := .done }] }) := by
    rw [Stage.setFlag, Stage.modifyVoice_eq hv, hd]
    rfl
  have hnone (w : Option Voice) : (st.setVoice k w).deferralFor r.key.dest = none :=
    (Stage.deferralFor_congr rfl _).trans hdf
  rw [Stage.recordDone, hflag, Stage.deferralCheck_of_none (hnone _), Stage.removeIfDone, Stage.setVoice_get]
  simp [DestRecord.holds, distinctDests, Stage.deferralCheck_of_none (hnone none)]

variable {key : DestKey} (hd : v.dests = [{ key := key, flag := .pending }])
  (helse : st.heldElsewhere k 0 key = false)
include hd helse

/-- The only record of an entry, PENDING and not doubled, is released at a port with room (R29). -/
theorem Stage.releaseRecord_alone_room (hdf : st.deferralFor key.dest = none)
    (hroom : st.ports[key.dest.port].main.length < 32) :
    st.releaseRecord k 0 =
      { st with
        voices := st.voices.set k none
        ports := vecModify st.ports key.dest.port fun mp => mp.admitMain st.clock (keyUpMessage key) } := by
  have hadm : st.releaseAdmitted key.dest.port = true := decide_eq_true hroom
  have hoffer : st.offerRelease key.dest.port (keyUpMessage key) =
      st.modifyPort key.dest.port (·.admitMain st.clock (keyUpMessage key)) := if_pos hadm
  have hrelease : st.releaseRecord k 0 =
      (st.modifyPort key.dest.port (·.admitMain st.clock (keyUpMessage key))).recordDone k 0 key.dest := by
    simp [Stage.releaseRecord, Stage.destsAt_eq hv, hd, helse, hadm, hoffer]
  exact hrelease.trans (Stage.recordDone_alone (st := st.modifyPort key.dest.port _) (r := { key := key, flag := .pending })
    hv hd ((Stage.deferralFor_congr rfl _).trans hdf))

/-- The only record of an entry, PENDING and not doubled, is OWED at a full port (R29). -/
theorem Stage.releaseRecord_alone_full (hfull : 32 ≤ st.ports[key.dest.port].main.length) :
    st.releaseRecord k 0 =
      { st with voices := st.voices.set k (some { v with dests := [{ key := key, flag := .owed }] }) } := by
  have hadm : st.releaseAdmitted key.dest.port = false := decide_eq_false (Nat.not_lt.2 hfull)
  simp [Stage.releaseRecord, Stage.destsAt_eq hv, hd, helse, hadm, Stage.setFlag, Stage.modifyVoice, hv, Stage.setVoice]

/-- The release of an entry with one record, as that of its record. -/
theorem Stage.releaseVoice_alone :
    st.releaseVoice k = (st.setVoice k (some { v with state := .releasing })).releaseRecord k 0
      ∧ (st.setVoice k (some { v with state := .releasing })).heldElsewhere k 0 key = false := by
  have hm := Stage.modifyVoice_eq hv fun v => { v with state := .releasing }
  refine ⟨?_, ?_⟩
  · rw [Stage.releaseVoice, hm, Stage.destsAt_eq hv, hd]
    rfl
  · rw [← helse, ← hm]
    exact Stage.heldElsewhere_congr (fun k' => st.destsAt_modifyState k k' _) _ _ _

/-- An entry with one PENDING record, not doubled, is released at a port with room: it leaves the table behind its KEY_UP
(R28, R29). -/
theorem Stage.releaseVoice_alone_room (hdf : st.deferralFor key.dest = none)
    (hroom : st.ports[key.dest.port].main.length < 32) :
    st.releaseVoice k =
      { st with
        voices := st.voices.set k none
        ports := vecModify st.ports key.dest.port fun mp => mp.admitMain st.clock (keyUpMessage key) } := by
  obtain ⟨he, hn⟩ := Stage.releaseVoice_alone hv hd helse
  rw [he, Stage.releaseRecord_alone_room (v := { v with state := .releasing }) (st.setVoice_get k _) hd hn hdf hroom]
  simp [Stage.setVoice]

/-- An entry with one PENDING record, not doubled, is released at a full port: it waits RELEASING with the record OWED
(R29). -/
theorem Stage.releaseVoice_alone_full (hfull : 32 ≤ st.ports[key.dest.port].main.length) :
    st.releaseVoice k =
      { st with
        voices := st.voices.set k
          (some { v with state := .releasing, dests := [{ key := key, flag := .owed }] }) } := by
  obtain ⟨he, hn⟩ := Stage.releaseVoice_alone hv hd helse
  rw [he, Stage.releaseRecord_alone_full (v := { v with state := .releasing }) (st.setVoice_get k _) hd hn hfull]
  simp [Stage.setVoice]

end Alone

end Sys2Proof.Machine
end

section
/-! KEY_UP and the dampers (R36 to R38). -/
namespace Sys2Proof.Machine

open Sys2Proof

/-! ## KEY_UP (R36) -/

/-- A KEY_UP without a SOUNDING entry of its source. -/
theorem Stage.keyUp_of_none {st : Stage} {src : Source} (h : st.findVoice (soundingFrom src) = none) (vel : BitVec 7) :
    st.keyUp src vel = st.emit (.keyUpIn src vel none .notFound 0) := by
  unfold Stage.keyUp
  rw [show st.findVoice (fun v => decide (v.source = src) && decide (v.state = .sounding)) = none from h]

/-- A KEY_UP that finds its entry, by the damper. -/
theorem Stage.keyUp_of_some {st : Stage} {src : Source} {k : Fin 128} {v : Voice}
    (h : st.findVoice (soundingFrom src) = some k) (hv : st.voices[k] = some v) (vel : BitVec 7) :
    st.keyUp src vel =
      if st.damperDown src.port src.channel then
        (st.setVoice k (some { v with state := .sustained })).emit (.keyUpIn src vel (some k) .sustained v.velIn)
      else (st.releaseVoice k).emit (.keyUpIn src vel (some k) .releasing v.velIn) := by
  unfold Stage.keyUp
  rw [show st.findVoice (fun v => decide (v.source = src) && decide (v.state = .sounding)) = some k from h]
  simp only [hv, Stage.modifyVoice_eq hv]

/-- Settles O13: a KEY_UP by what it finds, and a release by the room at the port. -/
theorem keyUpReleasesVoice : Obligations.KeyUpReleasesVoice := by
  intro s port a hon ha hf found
  obtain ⟨-, -, hen, -⟩ := State.isOnline_spec hon
  have outcome {st : Stage} {e : Entry} (bs : List Block)
      (hst : s.dev.stage.keyUp (sourceOf port a.msg) a.msg.data2 = st.emit e) (hen' : st.entries = [])
      (hfr : s.dev.stage.ChangesOnly bs st) :=
    State.stageArrival_outcome (fits := isKeyUp) (f := fun _ m st => st.keyUp (sourceOf port m) m.data2)
      hon ha hf [e] bs hst (by simp [hen']) ⟨hfr.clock, hfr.voices, hfr.dampers, hfr.ports, hfr.deferrals⟩
  refine ⟨fun hnone => ?_, fun k v hsome hv => ?_⟩
  · obtain ⟨t, ht, -, h⟩ := outcome [] (Stage.keyUp_of_none hnone _) hen
      ⟨rfl, .inr rfl, .inr rfl, .inr rfl, .inr rfl⟩
    exact ⟨t, ht, h⟩
  · have hkey := Stage.keyUp_of_some hsome hv a.msg.data2
    refine ⟨fun hdown => ?_, fun key hup hd helse hdf => ⟨fun hroom => ?_, fun hfull => ?_⟩⟩
    · obtain ⟨t, ht, hstage, h⟩ := outcome [.voices] (hkey.trans (if_pos hdown)) (by simp [hen])
        ⟨rfl, .inl (by simp), .inr rfl, .inr rfl, .inr rfl⟩
      exact ⟨t, ht, by rw [hstage]; rfl, h⟩
    · have hrel := Stage.releaseVoice_alone_room hv hd helse hdf hroom
      obtain ⟨t, ht, hstage, h⟩ := outcome [.voices, .ports]
        (hkey.trans ((if_neg (by simp [sourceOf, hup])).trans (congrArg (Stage.emit · _) hrel))) hen
        ⟨rfl, .inl (by simp), .inr rfl, .inl (by simp), .inr rfl⟩
      exact ⟨t, ht, by rw [hstage]; rfl, by rw [hstage]; rfl, h⟩
    · have hrel := Stage.releaseVoice_alone_full hv hd helse hfull
      obtain ⟨t, ht, hstage, h⟩ := outcome [.voices]
        (hkey.trans ((if_neg (by simp [sourceOf, hup])).trans (congrArg (Stage.emit · _) hrel))) hen
        ⟨rfl, .inl (by simp), .inr rfl, .inr rfl, .inr rfl⟩
      exact ⟨t, ht, by rw [hstage]; rfl, h⟩

/-! ## Entries released one after another (R38, R41) -/

/-- The release of an entry leaves the clock and the dampers. -/
theorem Stage.releaseVoice_frame (st : Stage) (k : Fin 128) :
    (st.releaseVoice k).clock = st.clock ∧ (st.releaseVoice k).dampers = st.dampers :=
  have h := Stage.releaseRecords_releases (st.modifyVoice k fun v => { v with state := .releasing })
    ((List.range (st.destsAt k).length).map fun j => (k, j))
  ⟨h.clock, h.dampers⟩

/-- What stands in the table after the release of an entry stood there before; the released one is RELEASING. -/
theorem Stage.releaseVoice_voice {st : Stage} {k k' : Fin 128} {v' : Voice}
    (h : (st.releaseVoice k).voices[k'] = some v') :
    ∃ v, st.voices[k'] = some v ∧ v'.source = v.source ∧ v'.state = if k' = k then .releasing else v.state := by
  obtain ⟨w, hw, hsrc, -, hstate⟩ := (Stage.releaseRecords_releases
    (st.modifyVoice k fun v => { v with state := .releasing }) _).voices k' v' h
  by_cases hk : k' = k
  · subst hk
    rw [Stage.modifyVoice, Stage.setVoice_get] at hw
    obtain ⟨v, hv, rfl⟩ := Option.map_eq_some_iff.1 hw
    exact ⟨v, hv, hsrc, by rw [hstate, if_pos rfl]⟩
  · have hne : (k : Nat) ≠ k' := fun e => hk (Fin.ext e.symm)
    rw [Stage.modifyVoice] at hw
    exact ⟨w, by simpa [hne] using hw, hsrc, by rw [hstate, if_neg hk]⟩

/-- Releases of entries leave the clock and the dampers. -/
theorem Stage.releaseVoices_frame (st : Stage) (ks : List (Fin 128)) :
    (st.releaseVoices ks).clock = st.clock ∧ (st.releaseVoices ks).dampers = st.dampers := by
  induction ks generalizing st with
  | nil => exact ⟨rfl, rfl⟩
  | cons k ks ih =>
    obtain ⟨hc, hd⟩ := ih (st.releaseVoice k)
    obtain ⟨hc', hd'⟩ := st.releaseVoice_frame k
    exact ⟨hc.trans hc', hd.trans hd'⟩

/-- What stands in the table after releases of entries stood there before; every released one is RELEASING. -/
theorem Stage.releaseVoices_voice {st : Stage} {ks : List (Fin 128)} {k : Fin 128} {v' : Voice}
    (h : (st.releaseVoices ks).voices[k] = some v') :
    ∃ v, st.voices[k] = some v ∧ v'.source = v.source ∧ v'.state = if k ∈ ks then .releasing else v.state := by
  induction ks generalizing st with
  | nil => exact ⟨v', h, rfl, by simp⟩
  | cons i ks ih =>
    obtain ⟨w, hw, hsrc, hstate⟩ := ih (st := st.releaseVoice i) h
    obtain ⟨v, hv, hsrc', hstate'⟩ := Stage.releaseVoice_voice hw
    refine ⟨v, hv, hsrc.trans hsrc', ?_⟩
    by_cases hk : k ∈ ks <;> by_cases hi : k = i <;> simp [hstate, hstate', hk, hi]

/-! ## Dampers (R37, R38) -/

/-- The stage with one damper at a level. -/
def Stage.withDamper (st : Stage) (port : Fin 4) (channel : BitVec 4) (down : Bool) : Stage :=
  { st with dampers := vecModify st.dampers port fun levels => levels.set channel.toFin down }

/-- A damper's level set, and what an up then releases. -/
theorem Stage.setDamper_eq (st : Stage) (port : Fin 4) (channel : BitVec 4) (down : Bool) :
    st.setDamper port channel down =
      if down then st.withDamper port channel down
      else (st.withDamper port channel down).releaseVoices (st.sustainedOf port channel) := rfl

/-- Down, or with nothing SUSTAINED there, the level is all that changes. -/
theorem Stage.setDamper_of_quiet {st : Stage} {port : Fin 4} {channel : BitVec 4} {down : Bool}
    (h : down = false → st.sustainedOf port channel = []) :
    st.setDamper port channel down = st.withDamper port channel down := by
  cases down with
  | true => rfl
  | false => rw [Stage.setDamper_eq, if_neg (by simp), h rfl]; rfl

/-- The level of every damper after one was set. -/
theorem Stage.withDamper_damperDown (st : Stage) (port q : Fin 4) (channel ch : BitVec 4) (down : Bool) :
    (st.withDamper port channel down).damperDown q ch =
      if q = port ∧ ch = channel then down else st.damperDown q ch := by
  unfold Stage.damperDown Stage.withDamper
  rw [getElem_vecModify]
  by_cases hq : port = q
  · subst hq
    by_cases hc : ch = channel
    · subst hc; simp
    · have hne : channel.toNat ≠ ch.toNat := fun e => hc (BitVec.eq_of_toNat_eq e.symm)
      simp [hc, hne]
  · simp [hq, Ne.symm hq]

/-- What `DamperSet` asks, by the dampers of the next stage. -/
theorem DamperSet.of_dampers {s t : State} {port : Fin 4} {channel : BitVec 4} {down : Bool}
    (h : t.dev.stage.dampers = (s.dev.stage.withDamper port channel down).dampers) : DamperSet port channel down s t := by
  have level (q : Fin 4) (ch : BitVec 4) : t.dev.stage.damperDown q ch =
      if q = port ∧ ch = channel then down else s.dev.stage.damperDown q ch := by
    rw [← Stage.withDamper_damperDown, Stage.damperDown, h]
    rfl
  refine ⟨by simp [level], fun q ch hne => ?_⟩
  rw [level, if_neg (by tauto)]

/-- The SUSTAINED entries of a key port and channel. -/
theorem Stage.mem_sustainedOf {st : Stage} {port : Fin 4} {channel : BitVec 4} {k : Fin 128} :
    k ∈ st.sustainedOf port channel ↔
      ∃ v, st.voices[k] = some v ∧ v.source.port = port ∧ v.source.channel = channel ∧ v.state = .sustained := by
  unfold Stage.sustainedOf
  rw [List.mem_filter]
  cases st.voices[k] <;> simp [and_assoc]

/-- Released, no entry of a key port and channel is SUSTAINED (R38). -/
theorem Stage.releaseVoices_sustainedOf {st st' : Stage} {port : Fin 4} {channel : BitVec 4}
    (hv : st'.voices = st.voices) :
    (st'.releaseVoices (st.sustainedOf port channel)).sustainedOf port channel = [] := by
  refine List.eq_nil_iff_forall_not_mem.2 fun k hk => ?_
  obtain ⟨v', hv', hp, hc, hs⟩ := Stage.mem_sustainedOf.1 hk
  obtain ⟨v, hk', hsrc, hstate⟩ := Stage.releaseVoices_voice hv'
  rw [hs] at hstate
  split at hstate
  · cases hstate
  · rename_i hn
    exact hn (Stage.mem_sustainedOf.2 ⟨v, by rw [← hv]; exact hk', hsrc ▸ hp, hsrc ▸ hc, hstate.symm⟩)

/-- Settles O14: a damper's level, with what its rise releases. -/
theorem damperArrivalSetsLevel : Obligations.DamperArrivalSetsLevel := by
  intro s port a hon ha hkind
  obtain ⟨-, -, hen, -⟩ := State.isOnline_spec hon
  have outcome {st : Stage} {es : List Entry} {down : Bool} (bs : List Block) (hdown : decide (a.msg.data1 ≠ 0) = down)
      (hst : s.dev.stage.setDamper port a.msg.channel down = st)
      (hes : st.entries = es) (hfr : s.dev.stage.ChangesOnly bs st) :=
    State.stageArrival_outcome (fits := fun m => decide (m.kind = .damper)) (f := fun _ m st => st.damperArrival port m)
      hon ha (decide_eq_true hkind) (es ++ [.damperIn port a.msg.channel down]) bs
      (show s.dev.stage.damperArrival port a.msg = st.emit (.damperIn port a.msg.channel down) by
        subst hdown hst; rfl)
      (by simp [hes]) ⟨hfr.clock, hfr.voices, hfr.dampers, hfr.ports, hfr.deferrals⟩
  refine ⟨fun hquiet => ?_, fun hup => ?_, fun k v key hup hsus hv hd helse hdf => ?_⟩
  · obtain ⟨t, ht, hstage, h⟩ := outcome [.dampers] rfl
      (Stage.setDamper_of_quiet fun h => hquiet (by simpa using h)) hen
      ⟨rfl, .inr rfl, .inl (by simp), .inr rfl, .inr rfl⟩
    exact ⟨t, ht, DamperSet.of_dampers (by rw [hstage]; rfl), h⟩
  · have hdown : decide (a.msg.data1 ≠ 0) = false := by simp [hup]
    obtain ⟨hclock, hdampers⟩ := Stage.releaseVoices_frame (s.dev.stage.withDamper port a.msg.channel false)
      (s.dev.stage.sustainedOf port a.msg.channel)
    obtain ⟨t, ht, hstage, hj, h⟩ := outcome [.dampers, .voices, .ports, .deferrals] hdown rfl rfl
      ⟨hclock, .inl (by simp), .inl (by simp), .inl (by simp), .inl (by simp)⟩
    refine ⟨t, ht, DamperSet.of_dampers (by rw [hstage]; exact hdampers), ?_, ⟨_, hj⟩, h⟩
    rw [hstage]
    exact Stage.releaseVoices_sustainedOf rfl
  · have hdown : decide (a.msg.data1 ≠ 0) = false := by simp [hup]
    have hset : s.dev.stage.setDamper port a.msg.channel false =
        (s.dev.stage.withDamper port a.msg.channel false).releaseVoice k := by
      rw [Stage.setDamper_eq, if_neg (by simp), hsus]
      rfl
    refine ⟨fun hroom => ?_, fun hfull => ?_⟩
    · obtain ⟨t, ht, hstage, h⟩ := outcome [.dampers, .voices, .ports] hdown
        (hset.trans (Stage.releaseVoice_alone_room (st := s.dev.stage.withDamper port a.msg.channel false)
          hv hd helse hdf hroom)) hen
        ⟨rfl, .inl (by simp), .inl (by simp), .inl (by simp), .inr rfl⟩
      exact ⟨t, ht, DamperSet.of_dampers (by rw [hstage]; rfl), by rw [hstage]; rfl, by rw [hstage]; rfl, h⟩
    · obtain ⟨t, ht, hstage, h⟩ := outcome [.dampers, .voices] hdown
        (hset.trans (Stage.releaseVoice_alone_full (st := s.dev.stage.withDamper port a.msg.channel false)
          hv hd helse hfull)) hen
        ⟨rfl, .inl (by simp), .inl (by simp), .inr rfl, .inr rfl⟩
      exact ⟨t, ht, DamperSet.of_dampers (by rw [hstage]; rfl), by rw [hstage]; rfl, h⟩

end Sys2Proof.Machine
end

section
/-! KEY_DOWN (R33 to R35): the candidates (R24 to R26), the retrigger, the claim and the offers. -/
namespace Sys2Proof.Machine

open Sys2Proof

/-! ## Non-release offers (R48) -/

/-- The limit of a non-release message. -/
theorem Stage.nonReleaseAdmitted_eq (st : Stage) (p : Fin 6) :
    st.nonReleaseAdmitted p = decide (st.ports[p].level < 24) := rfl

/-- Below the limit a non-release message joins the main queue. -/
theorem Stage.offerNonRelease_below {st : Stage} {p : Fin 6} (h : st.ports[p].level < 24) (m : Message) :
    st.offerNonRelease p m = st.modifyPort p (·.admitMain st.clock m) :=
  if_pos (decide_eq_true h)

/-- At the limit it is dropped (R56). -/
theorem Stage.offerNonRelease_at {st : Stage} {p : Fin 6} (h : 24 ≤ st.ports[p].level) (m : Message) :
    st.offerNonRelease p m = st.emit (.drop p m .nonRelease .limit st.ports[p].level) :=
  if_neg (by rw [Stage.nonReleaseAdmitted_eq, decide_eq_false (Nat.not_lt.2 h)]; simp)

/-! ## Candidates (R25, R26) -/

/-- A number clamped to a range, as its nearer end. -/
theorem clampInt_eq {lo hi : Int} (h : lo ≤ hi) (n : Int) : clampInt lo hi n = max lo (min hi n) := by
  unfold clampInt
  split
  · omega
  · split <;> omega

/-- The candidates go through the zones in order (R25). -/
theorem candidates_cons (z : Zone) (zs : List Zone) (src : Source) (vel : BitVec 7) :
    candidates (z :: zs) src vel =
      (if z.isMatch src vel then (z.candidate src.key vel).toList else []) ++ candidates zs src vel := by
  unfold candidates
  by_cases hm : z.isMatch src vel
  · cases h : z.candidate src.key vel <;> simp [hm, h]
  · simp [hm]

/-- A zone gives no candidate when the transposed key leaves 0-127 (R25). -/
theorem Zone.candidate_eq_none_iff (z : Zone) (key vel : BitVec 7) :
    z.candidate key vel = none ↔ (key.toNat : Int) + z.transpose < 0 ∨ 127 < (key.toNat : Int) + z.transpose := by
  unfold Zone.candidate
  dsimp only
  split
  · simp only [reduceCtorEq, false_iff]
    omega
  · simp only [true_iff]
    omega

/-- The candidate of a zone: the transposed key on the zone's destination, at the velocity out (R25). -/
theorem Zone.candidate_spec {z : Zone} {key vel : BitVec 7} {c : Candidate} (h : z.candidate key vel = some c) :
    (c.key.key.toNat : Int) = key.toNat + z.transpose ∧ c.key.dest = z.dest ∧ c.velocity = z.velocityOut vel := by
  unfold Zone.candidate at h
  dsimp only at h
  split at h
  · rename_i hr
    obtain rfl := Option.some.inj h
    refine ⟨?_, rfl, rfl⟩
    rw [BitVec.toNat_ofNat, Nat.mod_eq_of_lt (by omega)]
    omega
  · cases h

/-- A SCALE curve rounds to the nearest and clamps to 1-127 (R26). -/
theorem Zone.velocityOut_scale {z : Zone} (h : z.curve = .scale) (vel : BitVec 7) :
    ((z.velocityOut vel).toNat : Int) = max 1 (min 127 (((vel.toNat * z.gain + 32) / 64 : Nat) + z.offset)) := by
  simp only [Zone.velocityOut, h, clampInt_eq (show (1 : Int) ≤ 127 by decide), BitVec.toNat_ofNat]
  rw [Nat.mod_eq_of_lt (by omega)]
  omega

/-- A FIXED curve gives its value (R26). -/
theorem Zone.velocityOut_fixed {z : Zone} (h : z.curve = .fixed) (h' : z.fixedValue ≤ 127) (vel : BitVec 7) :
    (z.velocityOut vel).toNat = z.fixedValue := by
  simp only [Zone.velocityOut, h, BitVec.toNat_ofNat]
  exact Nat.mod_eq_of_lt (by omega)

/-- A non-release offer leaves the voice table. -/
theorem Stage.offerNonRelease_voices (st : Stage) (p : Fin 6) (m : Message) :
    (st.offerNonRelease p m).voices = st.voices := by
  unfold Stage.offerNonRelease
  split <;> rfl

/-- The voice table after an offer depends on the candidate by its key alone. -/
theorem Stage.offerCandidate_voices (st : Stage) (k : Fin 128) {c c' : Candidate} (h : c.key = c'.key) :
    (st.offerCandidate k c).voices = (st.offerCandidate k c').voices := by
  simp only [Stage.offerCandidate, Stage.modifyVoice, h]
  split <;> simp [Stage.offerNonRelease_voices]

/-- Settles O17: the candidates, zone by zone, and the curve. -/
theorem candidatesFollowTheCurve : Obligations.CandidatesFollowTheCurve := by
  refine ⟨fun src vel => ⟨rfl, fun z zs => candidates_cons z zs src vel⟩, fun zs src vel hlen => ?_,
    fun st k c c' => ⟨rfl, st.offerCandidate_voices k⟩, fun z key vel _ _ =>
    ⟨z.candidate_eq_none_iff key vel, fun c => Zone.candidate_spec, fun h => Zone.velocityOut_scale h vel,
      fun h _ h' => Zone.velocityOut_fixed h h' vel⟩⟩
  exact ((List.length_filterMap_le _ _).trans (List.length_filter_le _ _)).trans hlen

/-! ## One candidate offered (R35, R137) -/

/-- The deferral that is found for a destination is for it. -/
theorem Stage.deferralFor_dest {st : Stage} {d : Dest} {df : Deferral} (h : st.deferralFor d = some df) : df.dest = d := by
  simpa using List.find?_some h

/-- The offer itself, at a stage on which no deferral of the destination is left. -/
theorem Stage.offerCandidate_ended (ended : Stage) (k : Fin 128) (c : Candidate) :
    (if ended.nonReleaseAdmitted c.key.dest.port then
      (ended.offerNonRelease c.key.dest.port c.message).modifyVoice k fun v =>
        { v with dests := v.dests ++ [{ key := c.key, flag := .pending }] }
    else ended.offerNonRelease c.key.dest.port c.message) =
      if ended.ports[c.key.dest.port].level < 24 then
        { ended with
          ports := vecModify ended.ports c.key.dest.port fun mp => mp.admitMain ended.clock c.message
          voices := ended.voices.set k
            (ended.voices[k].map fun v => { v with dests := v.dests ++ [{ key := c.key, flag := .pending }] }) }
      else ended.emit (.drop c.key.dest.port c.message .nonRelease .limit ended.ports[c.key.dest.port].level) := by
  by_cases h : ended.ports[c.key.dest.port].level < 24
  · have hadm : ended.nonReleaseAdmitted c.key.dest.port = true := decide_eq_true h
    rw [if_pos hadm, if_pos h, Stage.offerNonRelease_below h]
    rfl
  · have hadm : ended.nonReleaseAdmitted c.key.dest.port = false := decide_eq_false h
    rw [if_neg (by simp [hadm]), if_neg h, Stage.offerNonRelease_at (Nat.not_lt.1 h)]

/-- The offer of a candidate, as `candidateOffered` spells it. -/
theorem Stage.offerCandidate_eq (st : Stage) (k : Fin 128) (c : Candidate) :
    st.offerCandidate k c = candidateOffered k st c := by
  have hended : st.endDestByCut c.key.dest =
      match st.deferralFor c.key.dest with
      | none => st
      | some df =>
        ({ st with deferrals := st.deferrals.erase df }.cut c.key.dest).offerEntries c.key.dest.port df.messages := by
    unfold Stage.endDestByCut
    cases h : st.deferralFor c.key.dest with
    | none => rfl
    | some df => simp only [Stage.endDeferralByCut, Stage.deferralFor_dest h]
  unfold Stage.offerCandidate
  dsimp only
  rw [hended]
  exact Stage.offerCandidate_ended _ k c

/-- An offer of a candidate leaves the clock and the dampers. -/
theorem Stage.candidateOffered_frame (k : Fin 128) (st : Stage) (c : Candidate) :
    (candidateOffered k st c).clock = st.clock ∧ (candidateOffered k st c).dampers = st.dampers := by
  have h := (st.endDestByCut_releases c.key.dest).trans (Stage.offerNonRelease_releases _ c.key.dest.port c.message)
  rw [← Stage.offerCandidate_eq]
  unfold Stage.offerCandidate
  dsimp only
  split
  · exact ⟨h.clock, h.dampers⟩
  · exact ⟨h.clock, h.dampers⟩

/-- Offers of candidates leave the clock and the dampers. -/
theorem Stage.candidatesOffered_frame (k : Fin 128) (cs : List Candidate) (st : Stage) :
    (cs.foldl (candidateOffered k) st).clock = st.clock ∧ (cs.foldl (candidateOffered k) st).dampers = st.dampers := by
  induction cs generalizing st with
  | nil => exact ⟨rfl, rfl⟩
  | cons c cs ih =>
    obtain ⟨hc, hd⟩ := ih (candidateOffered k st c)
    obtain ⟨hc', hd'⟩ := Stage.candidateOffered_frame k st c
    exact ⟨hc.trans hc', hd.trans hd'⟩

/-! ## The whole KEY_DOWN (R33 to R35, R42) -/

/-- The stage after the held entry of a source, if any, has been released (R33). -/
def Stage.retriggered (st : Stage) (src : Source) : Stage :=
  match st.findVoice (Voice.isHeldFrom src) with
  | none => st
  | some k => st.releaseVoice k

/-- A retrigger leaves the clock and the dampers. -/
theorem Stage.retriggered_frame (st : Stage) (src : Source) :
    (st.retriggered src).clock = st.clock ∧ (st.retriggered src).dampers = st.dampers := by
  unfold Stage.retriggered
  split
  · exact ⟨rfl, rfl⟩
  · exact st.releaseVoice_frame _

/-- The entry that a KEY_DOWN claims a place with. -/
def Voice.claimed (src : Source) (vel : BitVec 7) : Voice :=
  { source := src, velIn := vel, state := .sounding, dests := [] }

/-- The stage after the candidates have been offered for the entry at the place claimed. -/
def Stage.claimedAndOffered (st : Stage) (cs : List Candidate) (src : Source) (vel : BitVec 7) (k : Fin 128) : Stage :=
  cs.foldl (candidateOffered k) (st.setVoice k (some (.claimed src vel)))

/-- The claim and the offers leave the clock and the dampers. -/
theorem Stage.claimedAndOffered_frame (st : Stage) (cs : List Candidate) (src : Source) (vel : BitVec 7) (k : Fin 128) :
    (st.claimedAndOffered cs src vel k).clock = st.clock ∧ (st.claimedAndOffered cs src vel k).dampers = st.dampers :=
  Stage.candidatesOffered_frame k cs _

/-- An entry with records is kept. -/
theorem Stage.freeIfEmpty_of_records {st : Stage} {k : Fin 128} (h : (st.destsAt k).length ≠ 0) :
    st.freeIfEmpty k = st := if_neg (by simpa using h)

/-- An entry without records is not kept. -/
theorem Stage.freeIfEmpty_of_none {st : Stage} {k : Fin 128} (h : (st.destsAt k).length = 0) :
    st.freeIfEmpty k = st.setVoice k none := if_pos (by simpa using h)

/-- One candidate below the limit on a destination without deferral gives one record and one message (R35). -/
theorem Stage.claimedAndOffered_one {st : Stage} {c : Candidate} (src : Source) (vel : BitVec 7) (k : Fin 128)
    (hdf : st.deferralFor c.key.dest = none) (hlevel : st.ports[c.key.dest.port].level < 24) :
    st.claimedAndOffered [c] src vel k =
      { st with
        voices := st.voices.set k
          (some { source := src, velIn := vel, state := .sounding, dests := [{ key := c.key, flag := .pending }] })
        ports := vecModify st.ports c.key.dest.port fun mp => mp.admitMain st.clock c.message } := by
  have hended : (st.setVoice k (some (.claimed src vel))).endDestByCut c.key.dest =
      st.setVoice k (some (.claimed src vel)) := by
    rw [Stage.endDestByCut, (Stage.deferralFor_congr (by rfl) _).trans hdf]
  rw [Stage.claimedAndOffered, List.foldl_cons, List.foldl_nil, ← Stage.offerCandidate_eq, Stage.offerCandidate,
    hended, Stage.offerCandidate_ended, if_pos (by exact hlevel)]
  simp [Stage.setVoice, Voice.claimed]

section KeyDown

variable (st : Stage) (zones : List Zone) (src : Source) (vel : BitVec 7)

/-- A KEY_DOWN, by its candidates and the free place (R33 to R35). -/
theorem Stage.keyDown_eq :
    st.keyDown zones src vel =
      if (candidates zones src vel).isEmpty then
        (st.retriggered src).emit (.keyDownIn src vel none 0 (st.findVoice (Voice.isHeldFrom src)).isSome)
      else match (st.retriggered src).freeIndex with
        | none =>
          ((st.retriggered src).emit (.voiceFull src vel)).emit
            (.keyDownIn src vel none 0 (st.findVoice (Voice.isHeldFrom src)).isSome)
        | some k =>
          let offered := (st.retriggered src).claimedAndOffered (candidates zones src vel) src vel k
          (offered.freeIfEmpty k).emit
            (.keyDownIn src vel (if (offered.destsAt k).length = 0 then none else some k) (offered.destsAt k).length
              (st.findVoice (Voice.isHeldFrom src)).isSome) := by
  have hoffer : candidateOffered = Stage.offerCandidate :=
    funext fun k => funext fun st => funext fun c => (st.offerCandidate_eq k c).symm
  unfold Stage.claimedAndOffered
  rw [hoffer]
  rfl

variable {st zones src vel}

/-- A KEY_DOWN without candidates. -/
theorem Stage.keyDown_unmatched (hc : candidates zones src vel = []) :
    st.keyDown zones src vel =
      (st.retriggered src).emit (.keyDownIn src vel none 0 (st.findVoice (Voice.isHeldFrom src)).isSome) := by
  rw [Stage.keyDown_eq, if_pos (by simp [hc])]

/-- A KEY_DOWN with the table full (R34). -/
theorem Stage.keyDown_full (hc : candidates zones src vel ≠ []) (hfree : (st.retriggered src).freeIndex = none) :
    st.keyDown zones src vel =
      ((st.retriggered src).emit (.voiceFull src vel)).emit
        (.keyDownIn src vel none 0 (st.findVoice (Voice.isHeldFrom src)).isSome) := by
  rw [Stage.keyDown_eq, if_neg (by simpa using hc), hfree]

variable {k : Fin 128} {offered : Stage} (hc : candidates zones src vel ≠ [])
  (hfree : (st.retriggered src).freeIndex = some k)
  (ho : (st.retriggered src).claimedAndOffered (candidates zones src vel) src vel k = offered)
include hc hfree ho

/-- A KEY_DOWN that claims a place and keeps it (R34, R35). -/
theorem Stage.keyDown_kept (hrec : (offered.destsAt k).length ≠ 0) :
    st.keyDown zones src vel =
      offered.emit (.keyDownIn src vel (some k) (offered.destsAt k).length
        (st.findVoice (Voice.isHeldFrom src)).isSome) := by
  rw [Stage.keyDown_eq, if_neg (by simpa using hc), hfree]
  dsimp only
  rw [ho, if_neg hrec, Stage.freeIfEmpty_of_records hrec]

/-- A KEY_DOWN that claims a place of which no candidate was admitted (R28, R35; log 18). -/
theorem Stage.keyDown_dropped (hrec : (offered.destsAt k).length = 0) :
    st.keyDown zones src vel =
      (offered.setVoice k none).emit (.keyDownIn src vel none 0 (st.findVoice (Voice.isHeldFrom src)).isSome) := by
  rw [Stage.keyDown_eq, if_neg (by simpa using hc), hfree]
  dsimp only
  rw [ho, if_pos hrec, Stage.freeIfEmpty_of_none hrec, hrec]

omit hc hfree ho in
/-- A KEY_DOWN of a source that holds nothing, with one candidate below the limit on a destination without deferral. -/
theorem Stage.keyDown_one {c : Candidate} (hheld : st.findVoice (Voice.isHeldFrom src) = none)
    (hc : candidates zones src vel = [c]) (hdf : st.deferralFor c.key.dest = none)
    (hlevel : st.ports[c.key.dest.port].level < 24) (hfree : st.freeIndex = some k) :
    st.keyDown zones src vel =
      { st with
        voices := st.voices.set k
          (some { source := src, velIn := vel, state := .sounding, dests := [{ key := c.key, flag := .pending }] })
        ports := vecModify st.ports c.key.dest.port fun mp => mp.admitMain st.clock c.message }.emit
          (.keyDownIn src vel (some k) 1 false) := by
  have hfreed : st.retriggered src = st := by rw [Stage.retriggered, hheld]
  have hone := Stage.claimedAndOffered_one src vel k hdf hlevel
  rw [Stage.keyDown_kept (k := k) (by simp [hc]) (by rw [hfreed, hfree]) (by rw [hfreed, hc, hone])
    (by simp [Stage.destsAt]), hheld]
  simp [Stage.destsAt]

end KeyDown

/-- A KEY_DOWN whose stage is given, but for the entries of its own that it hands over last. -/
theorem KeyDownLeaves.of_keyDown {s : State} {port : Fin 4} {a : Arrival} {st : Stage} {es : List Entry}
    (hon : s.isOnline = true) (ha : s.dev.nextArrival port = some a) (hf : isKeyDown a.msg = true)
    (hst : s.dev.stage.keyDown s.dev.change.zones (sourceOf port a.msg) a.msg.data2 =
      { st with entries := st.entries ++ es })
    (hclock : st.clock = s.dev.stage.clock) (hdampers : st.dampers = s.dev.stage.dampers) :
    ∃ t, KeyDownLeaves port st es s t := by
  obtain ⟨t, ht, hstage, h⟩ := State.stageArrival_outcome (fits := isKeyDown)
    (f := fun zones m st => st.keyDown zones (sourceOf port m) m.data2) hon ha hf (st.entries ++ es)
    [.voices, .ports, .deferrals] hst rfl ⟨hclock, .inl (by simp), .inr hdampers, .inl (by simp), .inl (by simp)⟩
  exact ⟨t, ht, by rw [hstage], by rw [hstage], by rw [hstage], h⟩

/-- Settles O12: the retrigger, then the KEY_DOWN by its candidates and the room in the table. -/
theorem keyDownClaimsVoice : Obligations.KeyDownClaimsVoice := by
  intro s port a hon ha hf src vel held freed found
  obtain ⟨-, -, hen, -⟩ := State.isOnline_spec hon
  obtain ⟨hclock, hdampers⟩ := s.dev.stage.retriggered_frame src
  refine ⟨fun hc => ?_, fun hc hfree => ?_, fun k hc hfree => ⟨fun hrec => ?_, fun hrec => ?_⟩,
    fun k v key hheld hv hd helse hdf => ?_, fun c k hheld hc hdf hlevel hfree => ?_⟩
  · exact KeyDownLeaves.of_keyDown hon ha hf (Stage.keyDown_unmatched hc) hclock hdampers
  · exact KeyDownLeaves.of_keyDown hon ha hf
      ((Stage.keyDown_full hc hfree).trans (by simp only [Stage.emit, List.append_assoc]; rfl)) hclock hdampers
  · obtain ⟨hc', hd'⟩ := freed.claimedAndOffered_frame found src vel k
    exact KeyDownLeaves.of_keyDown hon ha hf (Stage.keyDown_kept hc hfree rfl hrec) (hc'.trans hclock)
      (hd'.trans hdampers)
  · obtain ⟨hc', hd'⟩ := freed.claimedAndOffered_frame found src vel k
    exact KeyDownLeaves.of_keyDown hon ha hf (Stage.keyDown_dropped hc hfree rfl hrec) (hc'.trans hclock)
      (hd'.trans hdampers)
  · have hfreed : freed = s.dev.stage.releaseVoice k := by simp only [freed, hheld]
    rw [hfreed]
    exact ⟨Stage.releaseVoice_alone_room hv hd helse hdf, Stage.releaseVoice_alone_full hv hd helse⟩
  · have hone := Stage.keyDown_one hheld hc hdf hlevel hfree
    obtain ⟨t, ht, hstage, hj, h⟩ := State.stageArrival_outcome (fits := isKeyDown)
      (f := fun zones m st => st.keyDown zones (sourceOf port m) m.data2) hon ha hf [.keyDownIn src vel (some k) 1 false]
      [.voices, .ports] hone (by simp [hen]) ⟨rfl, .inl (by simp), .inr rfl, .inl (by simp), .inr rfl⟩
    exact ⟨t, ht, by rw [hstage]; rfl, by rw [hstage]; rfl, hj, h⟩

end Sys2Proof.Machine
end

section
/-! CONTROL and PROGRAM arrivals (R39, R40, R120). -/
namespace Sys2Proof.Machine

open Sys2Proof

/-! ## CONTROL (R39) -/

/-- Settles O15: a CONTROL by the destinations that its zones pass it to, and the level of the one. -/
theorem controlArrivalPasses : Obligations.ControlArrivalPasses := by
  intro s port a hon ha hkind
  obtain ⟨-, -, hen, -⟩ := State.isOnline_spec hon
  have outcome {st : Stage} (es : List Entry) (bs : List Block)
      (hst : s.dev.stage.passControl s.dev.change.zones port a.msg = st) (hes : st.entries = es)
      (hfr : s.dev.stage.ChangesOnly bs st) :=
    State.stageArrival_outcome (fits := fun m => decide (m.kind = .control))
      (f := fun zones m st => st.passControl zones port m) hon ha (decide_eq_true hkind) es bs hst hes hfr
  refine ⟨fun hnone => ?_, fun d hone => ?_⟩
  · obtain ⟨t, ht, -, h⟩ := outcome [] [] (st := s.dev.stage) (by rw [Stage.passControl, hnone]; rfl) hen
      ⟨rfl, .inr rfl, .inr rfl, .inr rfl, .inr rfl⟩
    exact ⟨t, ht, h⟩
  · intro m
    have hpass : s.dev.stage.passControl s.dev.change.zones port a.msg = s.dev.stage.offerNonRelease d.port m := by
      rw [Stage.passControl, hone, ← hkind]
      rfl
    refine ⟨fun hlevel => ?_, fun hlevel => ?_⟩
    · obtain ⟨t, ht, hstage, h⟩ := outcome [] [.ports] (hpass.trans (Stage.offerNonRelease_below hlevel m)) hen
        ⟨rfl, .inr rfl, .inr rfl, .inl (by simp), .inr rfl⟩
      exact ⟨t, ht, by rw [hstage]; rfl, h⟩
    · obtain ⟨t, ht, -, h⟩ := outcome [.drop d.port m .nonRelease .limit s.dev.stage.ports[d.port].level] []
        (hpass.trans (Stage.offerNonRelease_at hlevel m)) (by simp [hen])
        ⟨rfl, .inr rfl, .inr rfl, .inr rfl, .inr rfl⟩
      exact ⟨t, ht, h⟩

/-! ## PROGRAM (R40, R120) -/

/-- A program select where no cue may begin is refused (R120). -/
theorem Device.programSelect_refused {d : Device} (h : d.change.mayCue = false) (n : BitVec 7) :
    d.programSelect n = d.emit (.cueTaken 0 .busy 0 .programSelect (some n) none) := if_neg (by simp [h])

/-- A program select where a cue may begin (R120). -/
theorem Device.programSelect_begins {d : Device} (h : d.change.mayCue = true) (n : BitVec 7) :
    d.programSelect n = d.onChange fun c => (c.cueByScene .programSelect n).carryGo .programSelect := if_pos h

/-- In HELD the cue of a program select sets the loading flag, and its go is absorbed (R120). -/
theorem ChangeUnit.selectScene_of_held {c : ChangeUnit} (h : c.state = .held) (n : BitVec 7) :
    (c.cueByScene .programSelect n).carryGo .programSelect =
      { c.withCue .programSelect none (some n) (.sceneRecord n) with loadingFlag := true } := by
  rw [ChangeUnit.cueByScene, ChangeUnit.beginCue_of_held h]
  exact if_pos h

/-- Elsewhere it begins LOADING with a waiting go (R120). -/
theorem ChangeUnit.selectScene_of_not_held {c : ChangeUnit} (h : c.state ≠ .held) (n : BitVec 7) :
    (c.cueByScene .programSelect n).carryGo .programSelect =
      { c.withCue .programSelect none (some n) (.sceneRecord n) with
        state := .loading, copy := none, go := some { origin := .programSelect, waiting := true } } := by
  rw [ChangeUnit.cueByScene, ChangeUnit.beginCue_of_not_held h]
  exact if_neg (by simp)

/-- What a PROGRAM arrival leaves, for the part that its row leaves. -/
theorem State.programArrival_outcome {s : State} {port : Fin 4} {a : Arrival} {d : Device} (es : List Entry)
    (bs : List Block) (hon : s.isOnline = true) (ha : s.dev.nextArrival port = some a) (hkind : a.msg.kind = .program)
    (hb : (s.dev.beginEvent.takeArrival port a).programArrival port a.msg = d)
    (hd : d = { s.dev.beginEvent.takeArrival port a with
      change := d.change, stage := { s.dev.stage with entries := es } })
    (hbs : Block.change ∈ bs ∨ d.change = s.dev.change) :
    ∃ t, exec (.programArrival port) s = .next t ∧ t.dev.change = d.change ∧ Journaled es s t ∧ ArrivalTaken port s t
      ∧ EventChanges (.keyPorts :: bs) s t := by
  rw [hd] at hb
  obtain ⟨t, ht, ⟨p, q, hs⟩, hj, hc⟩ := State.arrival_outcome (fits := fun m => decide (m.kind = .program))
    (body := fun m d => d.programArrival port m) _ es (.keyPorts :: bs) hon ha (decide_eq_true hkind) hb rfl rfl rfl
    (by intro b; cases b <;> simp [Block.agrees, Device.takeArrival]; exact hbs)
  exact ⟨t, congrArg _ ht.symm, by rw [hs], hj, by rw [hs]; rfl, hc⟩

/-- Settles O16: a PROGRAM arrival off and on the program-select port and channel, by change state. -/
theorem programArrivalSelectsScene : Obligations.ProgramArrivalSelectsScene := by
  intro s port a hon ha hkind
  obtain ⟨-, -, hen, -⟩ := State.isOnline_spec hon
  have hstage : s.dev.stage = { s.dev.stage with entries := [] } := by rw [← hen]
  refine ⟨fun hoff => ?_, fun hselect => ?_⟩
  · obtain ⟨t, ht, -, h⟩ := State.programArrival_outcome [] [] hon ha hkind (if_neg hoff) (by rw [← hstage]; rfl) (.inr rfl)
    exact ⟨t, ht, h⟩
  · have begins (hmay : s.dev.change.mayCue = true) := State.programArrival_outcome [] [.change] hon ha hkind
      ((if_pos hselect).trans (Device.programSelect_begins (d := s.dev.beginEvent.takeArrival port a) hmay _))
      (by rw [← hstage]; rfl) (.inl (by simp))
    refine ⟨fun h => ?_, fun hheld hflag => ?_, fun h => ?_⟩
    · have hne : s.dev.change.state ≠ .held := by rcases h with h | h <;> simp [h]
      obtain ⟨t, ht, hchange, h⟩ := begins ((ChangeUnit.mayCue_iff _).2 (h.imp_right Or.inl))
      exact ⟨t, ht, hchange.trans (ChangeUnit.selectScene_of_not_held hne _), h⟩
    · obtain ⟨t, ht, hchange, h⟩ := begins ((ChangeUnit.mayCue_iff _).2 (.inr (.inr ⟨hheld, hflag⟩)))
      exact ⟨t, ht, hchange.trans (ChangeUnit.selectScene_of_held hheld _), h⟩
    · have hmay := (ChangeUnit.mayCue_eq_false_iff _).2 h
      obtain ⟨t, ht, -, h⟩ := State.programArrival_outcome
        [.cueTaken 0 .busy 0 .programSelect (some a.msg.data1) none] [] hon ha hkind
        ((if_pos hselect).trans (Device.programSelect_refused (d := s.dev.beginEvent.takeArrival port a) hmay _))
        (by simp [Device.emit, Stage.emit, Device.takeArrival, hen]) (.inr rfl)
      exact ⟨t, ht, h⟩

end Sys2Proof.Machine
end

section
/-! A main-queue frame's completion (R30, R54), and the endings of a deferral (R135, R136). -/
namespace Sys2Proof.Machine

open Sys2Proof

/-- A machine that is steady is ready. -/
theorem State.isReady_of_isSteady {s : State} (h : s.isSteady = true) : s.isReady = true := by
  simp [State.isSteady, State.isReady] at h ⊢
  exact ⟨h.1.1, h.2⟩

/-! ## The backlog and the next frame (R53, R54, R57) -/

/-- The backlog moves while the main queue has room (R54). -/
theorem backlogMoves_eq {n : Nat} {main backlog : List Message} (h : backlog.length ≤ n) :
    backlogMoves n main backlog = (main ++ backlog.take (32 - main.length), backlog.drop (32 - main.length)) := by
  induction n generalizing main backlog with
  | zero => simp [backlogMoves, List.eq_nil_of_length_eq_zero (Nat.le_zero.1 h)]
  | succ n ih =>
    cases backlog with
    | nil => simp [backlogMoves]
    | cons m rest =>
      unfold backlogMoves
      dsimp only
      by_cases hroom : main.length < 32
      · obtain ⟨r, hr⟩ : ∃ r, 32 - main.length = r + 1 := ⟨31 - main.length, by omega⟩
        have hr' : 32 - (main ++ [m]).length = r := by rw [List.length_append, List.length_singleton]; omega
        rw [if_pos (by exact hroom), ih (by simpa using h), hr, hr']
        simp
      · rw [if_neg (by exact hroom), Nat.sub_eq_zero_of_le (Nat.not_lt.1 hroom)]
        simp

/-- The last two steps of a main-queue frame's completion, as `nextFramePicked` spells them. -/
theorem ModulePort.moveBacklog_pickFrame (mp : ModulePort) (now : Word) :
    (mp.moveBacklog now).pickFrame now = nextFramePicked mp now := by
  simp only [ModulePort.moveBacklog, backlogMoves_eq le_rfl, ModulePort.pickFrame, ModulePort.applyPolarity,
    nextFramePicked, frameEnd, Config.frameTime]
  congr 1
  cases mp.lane <;> cases mp.main ++ mp.backlog.take (32 - mp.main.length) <;> rfl

/-- One place takes the backlog's head while a frame is on the line (R54). -/
theorem ModulePort.moveBacklog_one {mp : ModulePort} {e : Word} {m : Message} {rest : List Message}
    (hlen : mp.main.length = 31) (htx : mp.tx = .sendingMain e) (hb : mp.backlog = m :: rest) (now : Word) :
    mp.moveBacklog now = { mp with main := mp.main ++ [m], backlog := rest } := by
  simp [ModulePort.moveBacklog, backlogMoves_eq, hlen, htx, hb]

/-! ## Owed releases (R30) -/

/-- A search over the table depends on its records alone. -/
theorem Stage.recordsWhere_congr {st st' : Stage} (h : st'.voices = st.voices) (f : DestRecord → Bool) :
    st'.recordsWhere f = st.recordsWhere f := by
  simp [Stage.recordsWhere, Stage.destsAt, h]

section Owed

variable {st : Stage} {p : Fin 6} {k : Fin 128} {v : Voice} {key : DestKey}

/-- Without an OWED record of the port nothing is offered. -/
theorem Stage.retryOwed_of_none
    (h : st.recordsWhere (fun r => decide (r.flag = .owed) && decide (r.key.dest.port = p)) = []) :
    st.retryOwed p = st := by
  rw [Stage.retryOwed, h]
  rfl

variable (h : st.recordsWhere (fun r => decide (r.flag = .owed) && decide (r.key.dest.port = p)) = [(k, 0)])
  (hv : st.voices[k] = some v) (hd : v.dests = [{ key := key, flag := .owed }])
include h hv hd

/-- The only OWED record of a port, alone in its entry, goes out when there is room (R30). -/
theorem Stage.retryOwed_alone_room (hp : key.dest.port = p) (hdf : st.deferralFor key.dest = none)
    (hroom : st.ports[p].main.length < 32) :
    st.retryOwed p =
      { st with
        voices := st.voices.set k none
        ports := vecModify st.ports p fun mp => mp.admitMain st.clock (keyUpMessage key) } := by
  have hadm : st.releaseAdmitted p = true := decide_eq_true hroom
  have hoffer : st.offerRelease p (keyUpMessage key) = st.modifyPort p (·.admitMain st.clock (keyUpMessage key)) :=
    if_pos hadm
  have hwalk : st.retryOwed p =
      (st.modifyPort p (·.admitMain st.clock (keyUpMessage key))).recordDone k 0 key.dest := by
    simp [Stage.retryOwed, h, owedWalk, Stage.destsAt_eq hv, hd, hadm, hoffer]
  exact hwalk.trans (Stage.recordDone_alone (st := st.modifyPort p _) (r := { key := key, flag := .owed }) hv hd
    ((Stage.deferralFor_congr rfl _).trans hdf))

/-- It stays OWED at a full port (R30). -/
theorem Stage.retryOwed_alone_full (hfull : 32 ≤ st.ports[p].main.length) : st.retryOwed p = st := by
  have hadm : st.releaseAdmitted p = false := decide_eq_false (Nat.not_lt.2 hfull)
  simp [Stage.retryOwed, h, owedWalk, Stage.destsAt_eq hv, hd, hadm]

end Owed

/-! ## The completion (R54) -/

/-- The stage once the head of a port's main queue has left. -/
def Stage.headGone (st : Stage) (p : Fin 6) : Stage :=
  { st with ports := st.ports.set p { st.ports[p] with main := st.ports[p].main.tail } }

/-- A main-queue frame's completion: the head, the owed releases, the backlog and the next frame. -/
theorem Stage.mainFrameDone_eq {st served : Stage} {p : Fin 6} (h : (st.headGone p).retryOwed p = served) :
    st.mainFrameDone p =
      { served with ports := served.ports.set p (nextFramePicked served.ports[p] st.clock) } := by
  rw [← h, ← ModulePort.moveBacklog_pickFrame]
  rfl

/-- Settles O20: the completion and its two middle steps, by what is OWED and the room at the port. -/
theorem mainFrameCompletes : Obligations.MainFrameCompletes := by
  intro s p hsteady mp freed owedThere
  obtain ⟨-, hstate, hen, -⟩ := State.isSteady_spec hsteady
  have outcome {due : Bool} {f : Stage → Stage} {st : Stage} (es : List Entry) (bs : List Block) (hdue : due = true)
      (hst : f s.dev.stage = st) (hes : st.entries = es) (hfr : s.dev.stage.ChangesOnly bs st) :=
    State.stageEvent_outcome es bs (State.isReady_of_isSteady hsteady) hdue hst hes
      (Device.drainOver_of_state hstate) hfr
  refine ⟨fun hdue hnone => ?_, fun hdue => ?_, fun k v key hone hv hd hp hdf =>
    ⟨fun hdue hroom => ?_, fun hroom => ?_, fun hfull => ?_⟩, fun e m rest hlen htx hb => ?_⟩
  · have howed : (s.dev.stage.headGone p).retryOwed p = s.dev.stage.headGone p :=
      Stage.retryOwed_of_none ((Stage.recordsWhere_congr rfl _).trans hnone)
    obtain ⟨t, ht, hstage, hj, hc⟩ := outcome (f := fun st => st.mainFrameDone p) [] [.ports] hdue
      (Stage.mainFrameDone_eq howed) hen ⟨rfl, .inr rfl, .inr rfl, .inl (by simp), .inr rfl⟩
    exact ⟨t, ht, by rw [hstage]; simp [Stage.headGone, freed, mp, Device.now], hj (.inr rfl), hc⟩
  · have hrel := (s.dev.stage.headGone p).retryOwed_releases p
    obtain ⟨t, ht, hstage, hj, hc⟩ := outcome (f := fun st => st.mainFrameDone p) _ [.voices, .ports, .deferrals] hdue
      (Stage.mainFrameDone_eq rfl) rfl
      ⟨hrel.clock, .inl (by simp), .inr hrel.dampers, .inl (by simp), .inl (by simp)⟩
    exact ⟨t, ht, by rw [hstage]; rfl, by rw [hstage]; rfl, by rw [hstage]; rfl,
      fun hon => hj (.inl (by simp [hon, EngineState.isRunning])), hc⟩
  · have howed := Stage.retryOwed_alone_room (st := s.dev.stage.headGone p) (p := p)
      ((Stage.recordsWhere_congr rfl _).trans hone) hv hd hp ((Stage.deferralFor_congr rfl _).trans hdf)
      (by simpa [Stage.headGone, mp] using hroom)
    obtain ⟨t, ht, hstage, hj, hc⟩ := outcome (f := fun st => st.mainFrameDone p) [] [.voices, .ports] hdue
      (Stage.mainFrameDone_eq howed) hen ⟨rfl, .inl (by simp), .inr rfl, .inl (by simp), .inr rfl⟩
    refine ⟨t, ht, by rw [hstage]; rfl, ?_, hj (.inr rfl), hc⟩
    rw [hstage]
    simp [Stage.headGone, vecModify, ModulePort.admitMain, nextFramePicked, mp, Device.now]
  · obtain ⟨t, ht, hstage, hj, hc⟩ := outcome (f := fun st => st.retryOwed p) [] [.voices, .ports] rfl
      (Stage.retryOwed_alone_room hone hv hd hp hdf hroom) hen
      ⟨rfl, .inl (by simp), .inr rfl, .inl (by simp), .inr rfl⟩
    exact ⟨t, ht, by rw [hstage], by rw [hstage]; rfl, hj (.inr rfl), hc⟩
  · obtain ⟨t, ht, -, hj, hc⟩ := outcome (f := fun st => st.retryOwed p) [] [] rfl
      (Stage.retryOwed_alone_full hone hv hd hfull) hen ⟨rfl, .inr rfl, .inr rfl, .inr rfl, .inr rfl⟩
    exact ⟨t, ht, hj (.inr rfl), hc⟩
  · obtain ⟨t, ht, hstage, hj, hc⟩ := outcome (f := fun st => st.modifyPort p fun mp => mp.moveBacklog st.clock) []
      [.ports] rfl rfl hen ⟨rfl, .inr rfl, .inr rfl, .inl (by simp), .inr rfl⟩
    refine ⟨t, ht, ?_, hj (.inr rfl), hc⟩
    rw [hstage]
    exact congrArg (s.dev.stage.ports.set p ·) (ModulePort.moveBacklog_one hlen htx hb _)

/-! ## The endings of a deferral (R135, R136) -/

/-- The end of a deferral changes the list, ports and entries alone. -/
theorem deferralEnded_changesOnly (st : Stage) (df : Deferral) :
    st.ChangesOnly [.deferrals, .ports] (deferralEnded st df) := by
  rw [deferralEnded, Stage.offerEntries_frame]
  exact ⟨rfl, .inr rfl, .inr rfl, .inl (by simp), .inl (by simp)⟩

/-- The list after the end of a deferral. -/
theorem deferralEnded_deferrals (st : Stage) (df : Deferral) :
    (deferralEnded st df).deferrals = st.deferrals.erase df := by
  rw [deferralEnded, Stage.offerEntries_frame]

/-- The voice table after the end of a deferral. -/
theorem deferralEnded_voices (st : Stage) (df : Deferral) : (deferralEnded st df).voices = st.voices := by
  rw [deferralEnded, Stage.offerEntries_frame]

/-- A cut of a destination without a PENDING record (R31). -/
theorem Stage.cut_of_none {st : Stage} {d : Dest}
    (h : st.recordsWhere (fun r => decide (r.flag = .pending) && decide (r.key.dest = d)) = []) : st.cut d = st := by
  rw [Stage.cut, h]
  rfl

/-- A cut of a destination with one PENDING record (R31). -/
theorem Stage.cut_of_one {st : Stage} {d : Dest} {k : Fin 128} {j : Nat}
    (h : st.recordsWhere (fun r => decide (r.flag = .pending) && decide (r.key.dest = d)) = [(k, j)]) :
    st.cut d = st.releaseRecord k j := by
  rw [Stage.cut, h]
  rfl

/-- The deadline ending of the deferral that is found for its destination (R136). -/
theorem Stage.endDestByCut_of_some {st : Stage} {df : Deferral} (h : st.deferralFor df.dest = some df) :
    st.endDestByCut df.dest = st.endDeferralByCut df := by
  rw [Stage.endDestByCut, h]

/-- A deadline ending that finds nothing PENDING on its destination (R136). -/
theorem Stage.endDeferralByCut_of_none {st : Stage} {df : Deferral}
    (h : st.recordsWhere (fun r => decide (r.flag = .pending) && decide (r.key.dest = df.dest)) = []) :
    st.endDeferralByCut df = deferralEnded st df := by
  have hcut : { st with deferrals := st.deferrals.erase df }.cut df.dest =
      { st with deferrals := st.deferrals.erase df } := Stage.cut_of_none h
  rw [Stage.endDeferralByCut, deferralEnded, hcut]

/-- Offers of entry messages do not depend on the voice table. -/
theorem Stage.offerEntries_withVoices (st : Stage) (w : Vector (Option Voice) 128) (p : Fin 6) (ms : List Message) :
    { st with voices := w }.offerEntries p ms = { st.offerEntries p ms with voices := w } := by
  induction ms generalizing st with
  | nil => rfl
  | cons m ms ih =>
    have h : { st with voices := w }.offerEntry p m = { st.offerEntry p m with voices := w } := by
      unfold offerEntry
      split
      · rfl
      · split <;> rfl
    calc { st with voices := w }.offerEntries p (m :: ms)
        = ({ st with voices := w }.offerEntry p m).offerEntries p ms := rfl
      _ = { (st.offerEntry p m).offerEntries p ms with voices := w } := by rw [h, ih]

section Cut

variable {st : Stage} {df : Deferral} {k : Fin 128} {v : Voice} {key : DestKey}
  (hone : st.recordsWhere (fun r => decide (r.flag = .pending) && decide (r.key.dest = df.dest)) = [(k, 0)])
  (hv : st.voices[k] = some v) (hd : v.dests = [{ key := key, flag := .pending }]) (hkey : key.dest = df.dest)
  (helse : st.heldElsewhere k 0 key = false)
include hone hv hd hkey helse

/-- The deadline ending that cuts one PENDING record at a port with room (R31, R136). -/
theorem Stage.endDeferralByCut_alone_room (hgone : ∀ x ∈ st.deferrals.erase df, x.dest ≠ df.dest)
    (hroom : st.ports[df.dest.port].main.length < 32) :
    st.endDeferralByCut df = deferralEnded
      { st with
        voices := st.voices.set k none
        ports := vecModify st.ports df.dest.port fun mp => mp.admitMain st.clock (keyUpMessage key) } df := by
  have hdf : { st with deferrals := st.deferrals.erase df }.deferralFor key.dest = none := by
    simpa [Stage.deferralFor, List.find?_eq_none, hkey] using hgone
  simp only [← hkey] at hone hroom
  have hcut := (Stage.cut_of_one (st := { st with deferrals := st.deferrals.erase df }) hone).trans
    (Stage.releaseRecord_alone_room (st := { st with deferrals := st.deferrals.erase df }) hv hd
      ((Stage.heldElsewhere_congr (fun _ => rfl) _ _ _).trans helse) hdf hroom)
  rw [Stage.endDeferralByCut, deferralEnded, ← hkey, hcut]

/-- The deadline ending that cuts one PENDING record at a full port: the record waits OWED (R29, R136). -/
theorem Stage.endDeferralByCut_alone_full (hfull : 32 ≤ st.ports[df.dest.port].main.length) :
    st.endDeferralByCut df =
      { deferralEnded st df with
        voices := st.voices.set k (some { v with dests := [{ key := key, flag := .owed }] }) } := by
  simp only [← hkey] at hone hfull
  have hcut := (Stage.cut_of_one (st := { st with deferrals := st.deferrals.erase df }) hone).trans
    (Stage.releaseRecord_alone_full (st := { st with deferrals := st.deferrals.erase df }) hv hd
      ((Stage.heldElsewhere_congr (fun _ => rfl) _ _ _).trans helse) hfull)
  rw [Stage.endDeferralByCut, deferralEnded, ← hkey, hcut]
  exact Stage.offerEntries_withVoices _ _ _ _

end Cut

/-- Settles O21: the two endings of a deferral, by the records on its destination and the moment. -/
theorem deferralsEnd : Obligations.DeferralsEnd := by
  intro s df hon hdf
  obtain ⟨-, -, hen, -⟩ := State.isOnline_spec hon
  have hdue : s.dev.stage.deadlineDue df.dest = reached s.dev.now df.deadline := by
    rw [Stage.deadlineDue, hdf]
    rfl
  have release {st : Stage} (bs : List Block) (hst : s.dev.stage.deferralCheck df.dest = st)
      (hfr : s.dev.stage.ChangesOnly bs st) :=
    State.stageEvent_online (f := fun st => st.deferralCheck df.dest) st.entries bs hon rfl hst rfl hfr
  have deadline {st : Stage} (bs : List Block) (hm : reached s.dev.now df.deadline = true)
      (hst : s.dev.stage.endDeferralByCut df = st) (hfr : s.dev.stage.ChangesOnly bs st) :=
    State.stageEvent_online (f := fun st => st.endDestByCut df.dest) st.entries bs hon (hdue.trans hm)
      ((Stage.endDestByCut_of_some hdf).trans hst) rfl hfr
  refine ⟨fun hfree => ?_, fun hheld => ?_, fun hm hnone => ?_, fun k v key hm hone hv hd hkey helse hgone =>
    ⟨fun hroom => ?_, fun hfull => ?_⟩, fun hm => ?_⟩
  · obtain ⟨t, ht, hstage, h⟩ := release [.deferrals, .ports] (st := deferralEnded s.dev.stage df)
      (by simp only [Stage.deferralCheck, hdf, hfree]; rfl) (deferralEnded_changesOnly _ df)
    exact ⟨t, ht, by rw [hstage]; exact deferralEnded_deferrals _ df, by rw [hstage], h⟩
  · obtain ⟨t, ht, -, hj, hc⟩ := release [] (st := s.dev.stage) (by simp [Stage.deferralCheck, hdf, hheld])
      ⟨rfl, .inr rfl, .inr rfl, .inr rfl, .inr rfl⟩
    exact ⟨t, ht, hen ▸ hj, hc⟩
  · obtain ⟨t, ht, hstage, h⟩ := deadline [.deferrals, .ports] hm
      (Stage.endDeferralByCut_of_none hnone) (deferralEnded_changesOnly _ df)
    exact ⟨t, ht, by rw [hstage]; exact deferralEnded_deferrals _ df, by rw [hstage], h⟩
  · obtain ⟨t, ht, hstage, h⟩ := deadline [.deferrals, .ports, .voices] hm
      (Stage.endDeferralByCut_alone_room hone hv hd hkey helse hgone hroom)
      (by rw [deferralEnded, Stage.offerEntries_frame]
          exact ⟨rfl, .inl (by simp), .inr rfl, .inl (by simp), .inl (by simp)⟩)
    exact ⟨t, ht, by rw [hstage]; exact deferralEnded_deferrals _ df, by rw [hstage]; exact deferralEnded_voices _ df,
      by rw [hstage]; rfl, h⟩
  · obtain ⟨t, ht, hstage, h⟩ := deadline [.deferrals, .ports, .voices] hm
      (Stage.endDeferralByCut_alone_full hone hv hd hkey helse hfull)
      (by rw [deferralEnded, Stage.offerEntries_frame]
          exact ⟨rfl, .inl (by simp), .inr rfl, .inl (by simp), .inl (by simp)⟩)
    exact ⟨t, ht, by rw [hstage]; exact deferralEnded_deferrals _ df, by rw [hstage], by rw [hstage], h⟩
  · exact congrArg _ (State.event_not_due s _ _ (.inr (hdue.trans hm)))

end Sys2Proof.Machine
end

section
/-! RELEASE_ALL (R41, R137). -/
namespace Sys2Proof.Machine

open Sys2Proof

/-! ## A table with nothing PENDING -/

/-- No record of a stage is PENDING (R27). -/
def Stage.NothingPending (st : Stage) : Prop :=
  ∀ (k : Fin 128) (j : Nat) (r : DestRecord), (st.destsAt k)[j]? = some r → r.flag ≠ .pending

/-- It depends on the voice table alone. -/
theorem Stage.NothingPending.congr {st st' : Stage} (h : st.NothingPending) (hv : st'.voices = st.voices) :
    st'.NothingPending := by
  unfold NothingPending destsAt
  rw [hv]
  exact h

/-- A search for PENDING records then finds none. -/
theorem Stage.NothingPending.recordsWhere_eq_nil {st : Stage} (h : st.NothingPending) (x : Dest) :
    st.recordsWhere (fun r => decide (r.flag = .pending) && decide (r.key.dest = x)) = [] := by
  refine List.flatMap_eq_nil_iff.2 fun k _ => List.map_eq_nil_iff.2 (List.filter_eq_nil_iff.2 fun rj hrj => ?_)
  simp [h k rj.2 rj.1 (List.mem_zipIdx_iff_getElem?.1 hrj)]

/-- Deferrals that end by a cut then end without one. -/
theorem Stage.NothingPending.endDeferralsByCut {st : Stage} (h : st.NothingPending) (dfs : List Deferral) :
    dfs.foldl Stage.endDeferralByCut st = dfs.foldl deferralEnded st
      ∧ (dfs.foldl deferralEnded st).voices = st.voices := by
  induction dfs generalizing st with
  | nil => exact ⟨rfl, rfl⟩
  | cons df dfs ih =>
    have hv := deferralEnded_voices st df
    obtain ⟨he, hvs⟩ := ih (h.congr hv)
    simp only [List.foldl_cons, Stage.endDeferralByCut_of_none (h.recordsWhere_eq_nil df.dest)]
    exact ⟨he, hvs.trans hv⟩

/-! ## Releases of entries under an empty deferral list -/

/-- The release of an entry (R29). -/
theorem Stage.releaseVoice_releasesQuietly {st : Stage} (hd : st.deferrals = []) (k : Fin 128) :
    st.ReleasesQuietly (st.releaseVoice k) := by
  have hstate : st.ReleasesQuietly (st.modifyVoice k fun v => { v with state := .releasing }) :=
    ⟨rfl, fun k' _ r h => ⟨r, st.destsAt_modifyState k k' _ ▸ h, rfl, id⟩⟩
  exact hstate.trans (.foldl (fun _ kj hd => Stage.releaseRecord_releasesQuietly hd kj.1 kj.2) _ hd)

/-- None of its records is PENDING afterwards (R29). -/
theorem Stage.releaseVoice_not_pending {st : Stage} (hd : st.deferrals = []) (k : Fin 128) (j : Nat) :
    ∀ r, ((st.releaseVoice k).destsAt k)[j]? = some r → r.flag ≠ .pending := by
  intro r hr
  obtain ⟨r0, hr0, -⟩ := (Stage.releaseVoice_releasesQuietly hd k).records k j r hr
  have hj : (k, j) ∈ (List.range (st.destsAt k).length).map fun j => (k, j) :=
    List.mem_map.2 ⟨j, List.mem_range.2 (List.getElem?_eq_some_iff.1 hr0).1, rfl⟩
  exact Stage.ReleasesQuietly.foldl_establishes
    (P := fun kj st => ∀ r, (st.destsAt kj.1)[kj.2]? = some r → r.flag ≠ .pending)
    (st := st.modifyVoice k fun v => { v with state := .releasing })
    (fun _ kj hd => Stage.releaseRecord_releasesQuietly hd kj.1 kj.2)
    (fun _ kj hd => Stage.releaseRecord_not_pending hd kj.1 kj.2)
    (fun _ _ _ h hn => h.keeps_not_pending hn) hj hd r hr

/-- Once entries are released none of their records is PENDING. -/
theorem Stage.releaseVoices_not_pending {st : Stage} (hd : st.deferrals = []) {ks : List (Fin 128)} {k : Fin 128}
    (hk : k ∈ ks) (j : Nat) : ∀ r, ((st.releaseVoices ks).destsAt k)[j]? = some r → r.flag ≠ .pending :=
  Stage.ReleasesQuietly.foldl_establishes
    (P := fun k st => ∀ r, (st.destsAt k)[j]? = some r → r.flag ≠ .pending)
    (fun _ k hd => Stage.releaseVoice_releasesQuietly hd k)
    (fun _ k hd => Stage.releaseVoice_not_pending hd k j)
    (fun _ _ _ h hn => h.keeps_not_pending hn) hk hd

/-! ## The three steps of RELEASE_ALL -/

/-- An entry is held unless it is RELEASING (R41). -/
theorem Stage.mem_heldVoices {st : Stage} {k : Fin 128} {v : Voice} (hv : st.voices[k] = some v) :
    k ∈ st.heldVoices ↔ v.state ≠ .releasing := by
  simp only [heldVoices, List.mem_filter, List.mem_finRange, true_and, hv, decide_eq_true_eq]

/-- No entry that the releases leave is held. -/
theorem Stage.releaseHeld_voice {st : Stage} {k : Fin 128} {v : Voice} (h : st.releaseHeld.voices[k] = some v) :
    v.state = .releasing := by
  obtain ⟨w, hw, -, hstate⟩ := Stage.releaseVoices_voice h
  have hw : st.voices[k] = some w := hw
  by_cases hk : w.state = .releasing
  · rw [hstate, hk, ite_self]
  · rw [hstate, if_pos ((Stage.mem_heldVoices hw).2 hk)]

/-- Nothing is PENDING after the releases, where no RELEASING entry had a PENDING record. -/
theorem Stage.releaseHeld_nothingPending {st : Stage}
    (h : ∀ (k : Fin 128) (v : Voice) (x : DestRecord), st.voices[k] = some v → v.state = .releasing → x ∈ v.dests →
      x.flag ≠ .pending) : st.releaseHeld.NothingPending := by
  intro k j
  by_cases hk : k ∈ st.heldVoices
  · exact Stage.releaseVoices_not_pending rfl hk j
  · have quiet : Stage.ReleasesQuietly
        { st with dampers := Vector.replicate 4 (Vector.replicate 16 false), deferrals := [] } st.releaseHeld :=
      .foldl (fun _ k hd => Stage.releaseVoice_releasesQuietly hd k) _ rfl
    refine quiet.keeps_not_pending fun r hr => ?_
    have hr : (st.destsAt k)[j]? = some r := hr
    cases hv : st.voices[k] with
    | none => simp [Stage.destsAt, hv] at hr
    | some v =>
      rw [Stage.destsAt_eq hv] at hr
      exact h k v r hv (by simpa [Stage.mem_heldVoices hv] using hk) (List.mem_of_getElem? hr)

/-- The deferrals that end after the releases only ever release (R137). -/
theorem Stage.releaseHeld_releases_releaseAll (st : Stage) : st.releaseHeld.Releases st.releaseAll :=
  Stage.endDeferralsByCut_releases _ _

/-- RELEASE_ALL leaves the clock, every damper up, and no deferral. -/
theorem Stage.releaseAll_frame (st : Stage) :
    st.releaseAll.clock = st.clock ∧ st.releaseAll.dampers = Vector.replicate 4 (Vector.replicate 16 false)
      ∧ st.releaseAll.deferrals = [] := by
  have h := st.releaseHeld_releases_releaseAll
  obtain ⟨hclock, hdampers⟩ := Stage.releaseVoices_frame
    { st with dampers := Vector.replicate 4 (Vector.replicate 16 false), deferrals := [] } st.heldVoices
  refine ⟨h.clock.trans hclock, h.dampers.trans hdampers, List.eq_nil_iff_forall_not_mem.2 fun df hdf => ?_⟩
  simpa using h.deferrals df hdf

/-- RELEASE_ALL leaves no entry held. -/
theorem Stage.releaseAll_voice {st : Stage} {k : Fin 128} {v : Voice} (h : st.releaseAll.voices[k] = some v) :
    v.state = .releasing := by
  obtain ⟨w, hw, -, -, hstate⟩ := st.releaseHeld_releases_releaseAll.voices k v h
  rw [hstate, Stage.releaseHeld_voice hw]

/-- Settles O49: the dampers, entries and deferrals in every state, and the ports where nothing is left to cut. -/
theorem releaseAllReleases : Obligations.ReleaseAllReleases := by
  intro s r hon ⟨hreq, hkind⟩ released ended
  obtain ⟨hclock, hdampers, hdeferrals⟩ := s.dev.stage.releaseAll_frame
  obtain ⟨t, ht, ⟨_, _, _, hs⟩, ha, hj, hc⟩ := State.request_answered (fits := fun k => k = 13#8)
    (body := Device.releaseAllRequest) (code := .ok) (value := s.dev.stage.heldVoices.length)
    ((s.dev.beginEvent.onReq RequestUnit.beginWork).onStage Stage.releaseAll) _
    [.voices, .dampers, .ports, .deferrals, .req] hon hreq (by simp [hkind]) rfl rfl rfl rfl rfl rfl rfl (by simp)
    (by intro b; cases b <;> simp [Block.agrees, Device.onStage, Device.onReq, Device.beginEvent, hclock])
  have hstage : t.dev.stage = { s.dev.stage.releaseAll with entries := [] } := by rw [hs]; rfl
  refine ⟨t, congrArg _ ht.symm, ?_, ?_, by rw [hstage]; exact hdeferrals, fun hquiet => ?_, ha, hc⟩
  · intro p c
    simp [hstage, Stage.damperDown, hdampers]
  · intro k v hv
    rw [hstage] at hv
    exact Stage.releaseAll_voice hv
  · obtain ⟨he, hv⟩ := (Stage.releaseHeld_nothingPending hquiet).endDeferralsByCut s.dev.stage.deferrals
    have hall : s.dev.stage.releaseAll = ended := he
    exact ⟨by rw [hstage, hall]; exact hv, by rw [hstage, hall], hall ▸ hj⟩

end Sys2Proof.Machine
end

section
/-! The debounced edges of the pedals (R144 to R151). -/
namespace Sys2Proof.Machine

open Sys2Proof

/-! ## An edge and its entry -/

/-- The device as the dispatch of a pedal's edge finds it. -/
def Device.edged (d : Device) (n : Fin 8) : Device := d.beginEvent.onPedal n debounced

/-- The timer's expiry is the dispatch of the edge and its entry. -/
theorem Device.debounce_eq (d : Device) (n : Fin 8) :
    d.beginEvent.debounce n = (d.edged n).pedalEdge n (if d.pedals[n].pressed then .release else .press) .input := rfl

/-- The pedals as the dispatch finds them. -/
theorem Device.edged_pedals (d : Device) (n : Fin 8) : (d.edged n).pedals = d.pedals.set n (debounced d.pedals[n]) :=
  rfl

/-- The setup of the pedal as the dispatch finds it. -/
theorem Device.edged_setup (d : Device) (n : Fin 8) : (d.edged n).pedals[n].setup = d.pedals[n].setup := by
  simp [edged_pedals, debounced]

/-- What the dispatch of an edge changes: of the stage, the tempo unit, the click unit, the change unit and tap capture
those in the named blocks, and no other part of the device. -/
structure Device.Dispatched (bs : List Block) (d o : Device) : Prop where
  rest : o = { d with stage := o.stage, tempo := o.tempo, click := o.click, change := o.change, tap := o.tap } := by rfl
  stage : d.stage.ChangesOnly bs o.stage := by exact ⟨rfl, .inr rfl, .inr rfl, .inr rfl, .inr rfl⟩
  tempo : .tempo ∈ bs ∨ o.tempo = d.tempo := by exact .inr rfl
  click : .click ∈ bs ∨ o.click = d.click := by exact .inr rfl
  change : .change ∈ bs ∨ o.change = d.change := by exact .inr rfl
  tap : .tap ∈ bs ∨ o.tap = d.tap := by exact .inr rfl

/-- Block by block, the frame of an edge. -/
theorem Device.Dispatched.agrees {s : State} {n : Fin 8} {bs : List Block} {o : Device}
    (h : (s.dev.edged n).Dispatched bs o) (b : Block) :
    b ∈ bs ∨ b ∈ [Block.pedals, .entries, .eventStamp, .page, .pageCause] ∨ b.agrees s { s with dev := o } := by
  obtain ⟨hrest, ⟨hclock, hvoices, hdampers, hports, hdeferrals⟩, htempo, hclick, hchange, htap⟩ := h
  generalize hst : o.stage = st, hte : o.tempo = te, hcl : o.click = cl, hch : o.change = ch, hta : o.tap = ta at *
  subst hrest
  cases b
  case voices => exact hvoices.imp_right .inr
  case dampers => exact hdampers.imp_right .inr
  case ports => exact hports.imp_right .inr
  case deferrals => exact hdeferrals.imp_right .inr
  case tempo => exact htempo.imp_right .inr
  case click => exact hclick.imp_right .inr
  case change => exact hchange.imp_right .inr
  case tap => exact htap.imp_right .inr
  case clock => exact .inr (.inr hclock)
  all_goals simp [Block.agrees, edged, Device.onPedal, Device.beginEvent]

section Edge

variable {s : State} {n : Fin 8} {f : PedalFunction} {edge : PedalEdge} (hedge : EdgeDue s n f edge)
include hedge

/-- The timer's expiry is due while the engine runs. -/
theorem EdgeDue.due (hrun : s.dev.engine.state.isRunning = true) :
    (s.dev.engine.state.isRunning && timerDue s.dev.now s.dev.pedals[n].timer) = true := by
  obtain ⟨-, -, m, hm, hreached⟩ := hedge
  rw [hrun, hm]
  exact hreached

/-- It is the named edge that comes. -/
theorem EdgeDue.edge_eq : (if s.dev.pedals[n].pressed then .release else .press) = edge := by
  obtain ⟨-, hpressed, -⟩ := hedge
  rw [hpressed]
  cases edge <;> rfl

/-- An edge, by what its dispatch leaves and reports (R144, R151). -/
theorem State.edge_outcome {o : Device} {rep : PedalReport} (es : List Entry) (bs : List Block)
    (hready : s.isReady = true) (hrun : s.dev.engine.state.isRunning = true)
    (hdisp : (s.dev.edged n).dispatchEdge n edge = (o, rep)) (hover : o.drainOver = false)
    (hes : o.stage.entries = es) (hfr : (s.dev.edged n).Dispatched bs o) :
    ∃ t, EdgeTaken s t n
        (es ++ [.pedal n s.dev.pedals[n].setup.function edge .input rep.outcome rep.main rep.second]) bs
      ∧ ∃ (stamp : Stamp) (p : PageWriter) (q : JournalWriter),
        t = { s with
              dev :=
                { o with
                  eventStamp := stamp, jw := q, stage := { o.stage with entries := [] }, page := p
                  pageCause := false } } := by
  obtain ⟨hr, hen, hpc, -⟩ := State.isReady_spec hready
  have hb : s.dev.beginEvent.debounce n =
      o.emit (.pedal n s.dev.pedals[n].setup.function edge .input rep.outcome rep.main rep.second) := by
    rw [Device.debounce_eq, EdgeDue.edge_eq hedge, Device.pedalEdge, hdisp, Device.edged_setup]
  obtain ⟨t, ht, ⟨p, q, hs⟩, hj, hc⟩ := State.event_outcome (body := fun d => d.debounce n) _ _ (.pedals :: bs)
    (EdgeDue.due hedge hrun) hr hen hpc (.inl hrun) hb rfl (by rw [Device.emit, hfr.rest]; rfl) hover
    (by intro b; have := hfr.agrees b; cases b <;> simp_all [Block.agrees, Device.emit, Stage.emit])
  exact ⟨t, ⟨congrArg _ ht.symm, by rw [PedalBecomes, hs, hfr.rest]; rfl, hes ▸ hj, hc⟩, _, p, q, hs⟩

/-- An edge ONLINE, dispatched by its function (R146). -/
theorem State.edge_online {o : Device} {rep : PedalReport} (es : List Entry) (bs : List Block) (hon : s.isOnline = true)
    (hdisp : (match edge with
      | .press => (s.dev.edged n).dispatchPress n
      | .release => (s.dev.edged n).dispatchRelease n) = (o, rep))
    (hes : o.stage.entries = es) (hfr : (s.dev.edged n).Dispatched bs o) :
    ∃ t, EdgeTaken s t n
        (es ++ [.pedal n s.dev.pedals[n].setup.function edge .input rep.outcome rep.main rep.second]) bs
      ∧ ∃ (stamp : Stamp) (p : PageWriter) (q : JournalWriter),
        t = { s with
              dev :=
                { o with
                  eventStamp := stamp, jw := q, stage := { o.stage with entries := [] }, page := p
                  pageCause := false } } := by
  obtain ⟨-, hstate, -⟩ := State.isOnline_spec hon
  have hne : (s.dev.edged n).engine.state ≠ .draining := fun h => by cases hstate.symm.trans h
  refine State.edge_outcome hedge es bs (State.isReady_of_isOnline hon) (by simp [hstate, EngineState.isRunning]) ?_
    (Device.drainOver_of_state (by rw [hfr.rest]; exact hne)) hes hfr
  refine (if_neg hne).trans ?_
  cases edge <;> exact hdisp

end Edge

/-! ## The functions, ONLINE -/

/-- An edge of a NOTIFY pedal (R151). -/
theorem State.notify_edge {s : State} {n : Fin 8} {edge : PedalEdge} (hon : s.isOnline = true)
    (hedge : EdgeDue s n .notify edge) :
    ∃ t, EdgeTaken s t n [.pedal n s.dev.pedals[n].setup.function edge .input .none 0 0] [] := by
  obtain ⟨-, -, hen, -⟩ := State.isOnline_spec hon
  obtain ⟨t, ht, -⟩ := State.edge_online hedge (o := s.dev.edged n) (rep := .nothing .none) [] [] hon
    (by cases edge <;> simp only [Device.dispatchPress, Device.dispatchRelease, Device.edged_setup, hedge.1])
    hen {}
  exact ⟨t, ht⟩

/-- A GO press in IDLE is ignored (R121, R147). -/
theorem State.goIdle_edge {s : State} {n : Fin 8} (hon : s.isOnline = true) (hedge : EdgeDue s n .go .press)
    (hidle : s.dev.change.state = .idle) :
    ∃ t, EdgeTaken s t n [.pedalIgnored n .go .idle s.dev.change.loadingFlag,
      .pedal n s.dev.pedals[n].setup.function .press .input .ignored s.dev.change.stateWord 0] [] := by
  obtain ⟨-, -, hen, -⟩ := State.isOnline_spec hon
  have hidle' : (s.dev.edged n).change.state = .idle := hidle
  have hignored : (s.dev.edged n).emitPedalIgnored n =
      (s.dev.edged n).emit (.pedalIgnored n .go .idle s.dev.change.loadingFlag) := by
    rw [Device.emitPedalIgnored, Device.edged_setup, hedge.1, hidle']
    rfl
  have hgo : (s.dev.edged n).dispatchPress n = goReport ((s.dev.edged n).emitPedalIgnored n) .ignored := by
    simp only [Device.dispatchPress, Device.edged_setup, hedge.1, Device.goPress, hidle']
  obtain ⟨t, ht, -⟩ := State.edge_online hedge [.pedalIgnored n .go .idle s.dev.change.loadingFlag] [] hon
    (hgo.trans (by rw [hignored, goReport])) (congrArg (· ++ _) hen) {}
  exact ⟨t, ht⟩

/-! ### Clicks -/

/-- With no pulse in progress, ending the pulses leaves everything (R112). -/
theorem Device.clickStop_of_idle {d : Device} (h : ∀ k : Fin 4, d.click.lines[k].endsAt = none) : d.clickStop = d := by
  refine List.foldl_fixed' (fun k => ?_) _
  have hline : endActive k d.click.lines[k] d.stage = (d.click.lines[k], d.stage) := if_neg (by rw [h k]; simp)
  rw [Device.onLine, hline]
  simp

/-- The mute toggled with no pulse in progress (R111). -/
theorem Device.toggleMute_of_idle {d : Device} (h : ∀ k : Fin 4, d.click.lines[k].endsAt = none) :
    d.toggleMute = { d with click := { d.click with mute := !d.click.mute } } := by
  unfold Device.toggleMute
  dsimp only
  split
  · exact Device.clickStop_of_idle h
  · rfl

/-- A CLICK_MUTE press with no pulse in progress (R111). -/
theorem State.clickMute_edge {s : State} {n : Fin 8} (hon : s.isOnline = true) (hedge : EdgeDue s n .clickMute .press)
    (hidle : ∀ k : Fin 4, s.dev.click.lines[k].endsAt = none) :
    ∃ t, EdgeTaken s t n [.pedal n s.dev.pedals[n].setup.function .press .input .acted
        (BitVec.ofNat 32 (flagCode (!s.dev.click.mute))) 0] [.click]
      ∧ t.dev.click = { s.dev.click with mute := !s.dev.click.mute } := by
  obtain ⟨-, -, hen, -⟩ := State.isOnline_spec hon
  have htoggle : (s.dev.edged n).dispatchPress n =
      ({ s.dev.edged n with click := { s.dev.click with mute := !s.dev.click.mute } },
        .acted (BitVec.ofNat 32 (flagCode (!s.dev.click.mute)))) := by
    simp only [Device.dispatchPress, Device.edged_setup, hedge.1, Device.toggleMute_of_idle (d := s.dev.edged n) hidle]
    rfl
  obtain ⟨t, ht, _, _, _, hs⟩ := State.edge_online hedge [] [.click] hon htoggle hen
    { click := .inl (by simp) }
  exact ⟨t, ht, by rw [hs]⟩

/-! ### Holds -/

section Hold

variable {s : State} {n : Fin 8} {sc : SceneCopy} (hon : s.isOnline = true) (hedge : EdgeDue s n .hold .press)
  (hcopy : s.dev.change.copy = some sc)
include hon hedge hcopy

/-- A HOLD press in ARMED (R123). -/
theorem State.holdArmed_edge (harmed : s.dev.change.state = .armed) :
    ∃ t, EdgeTaken s t n [.changeHeld sc.number (.pedal n),
        .pedal n s.dev.pedals[n].setup.function .press .input .acted t.dev.change.stateWord 0] [.change]
      ∧ t.dev.change = { s.dev.change with state := .held, armed := none } := by
  obtain ⟨-, -, hen, -⟩ := State.isOnline_spec hon
  have hcopy' : (s.dev.edged n).change.copy = some sc := hcopy
  have hstate' : (s.dev.edged n).change.state = .armed := harmed
  have hhold : (s.dev.edged n).dispatchPress n = goReport ((s.dev.edged n).holdArmed sc (.pedal n)) .acted := by
    simp only [Device.dispatchPress, Device.edged_setup, hedge.1, Device.holdPress, hcopy', hstate']
  obtain ⟨t, ht, _, _, _, hs⟩ := State.edge_online hedge [.changeHeld sc.number (.pedal n)] [.change] hon hhold
    (congrArg (· ++ _) hen) { change := .inl (by simp) }
  have hchange : t.dev.change = { s.dev.change with state := .held, armed := none } := by rw [hs]; rfl
  exact ⟨t, by rw [hchange]; exact ht, hchange⟩

/-- A HOLD press in HELD, at a boundary that waits (R122, R124). -/
theorem State.holdHeld_edge (hheld : s.dev.change.state = .held) (hload : s.dev.change.loadingFlag = false)
    (hnow : sc.boundary ≠ .now) (hrun : s.dev.tempo.transport ≠ .stopped) :
    ∃ t, EdgeTaken s t n [.changeResumed sc.number sc.boundary (.pedal n),
        .pedal n s.dev.pedals[n].setup.function .press .input .acted t.dev.change.stateWord 0] [.change]
      ∧ t.dev.change =
          { s.dev.change with state := .armed, armed := some { boundary := sc.boundary, since := s.dev.now } } := by
  obtain ⟨-, -, hen, -⟩ := State.isOnline_spec hon
  have hcopy' : (s.dev.edged n).change.copy = some sc := hcopy
  have hstate' : (s.dev.edged n).change.state = .held := hheld
  have hload' : (s.dev.edged n).change.loadingFlag = false := hload
  have hresume : (s.dev.edged n).resumeHeld sc (.pedal n) =
      ((s.dev.edged n).emit (.changeResumed sc.number sc.boundary (.pedal n))).onChange fun c =>
        { c with state := .armed, armed := some { boundary := sc.boundary, since := s.dev.now } } :=
    Device.arm_of_not_atOnce hcopy (not_or.2 ⟨hnow, hrun⟩)
  have hhold : (s.dev.edged n).dispatchPress n = goReport ((s.dev.edged n).resumeHeld sc (.pedal n)) .acted := by
    simp only [Device.dispatchPress, Device.edged_setup, hedge.1, Device.holdPress, hcopy', hstate', hload',
      Bool.false_eq_true, if_false]
  obtain ⟨t, ht, _, _, _, hs⟩ := State.edge_online hedge [.changeResumed sc.number sc.boundary (.pedal n)] [.change] hon
    (hhold.trans (by rw [hresume, goReport])) (congrArg (· ++ _) hen) { change := .inl (by simp) }
  have hchange : t.dev.change =
      { s.dev.change with state := .armed, armed := some { boundary := sc.boundary, since := s.dev.now } } := by
    rw [hs]; rfl
  exact ⟨t, by rw [hchange]; exact ht, hchange⟩

end Hold

/-! ### The override level -/

/-- A LOCK_OVERRIDE edge (R148). -/
theorem State.override_edge {s : State} {n : Fin 8} {edge : PedalEdge} (hon : s.isOnline = true)
    (hedge : EdgeDue s n .lockOverride edge) :
    ∃ t, EdgeTaken s t n [.pedal n s.dev.pedals[n].setup.function edge .input .acted
        (BitVec.ofNat 32 (flagCode t.dev.overrideHeld)) 0] []
      ∧ (edge = .press → t.dev.overrideHeld = true) := by
  obtain ⟨-, -, hen, -⟩ := State.isOnline_spec hon
  obtain ⟨t, ht, _, _, _, hs⟩ := State.edge_online hedge [] [] (o := s.dev.edged n) hon
    (by cases edge <;> simp only [Device.dispatchPress, Device.dispatchRelease, Device.edged_setup, hedge.1] <;> rfl)
    hen {}
  have hlevel : t.dev.overrideHeld = (s.dev.edged n).overrideHeld := Device.overrideHeld_congr (by rw [hs])
  refine ⟨t, by rw [hlevel]; exact ht, fun hpress => ?_⟩
  obtain ⟨hf, hpressed, -⟩ := hedge
  subst hpress
  rw [hlevel, Device.overrideHeld, List.any_eq_true]
  refine ⟨n, List.mem_finRange n, ?_⟩
  have hp : (s.dev.edged n).pedals[n].pressed = true := by
    rw [Device.edged_pedals]
    simpa [debounced] using hpressed
  rw [hp, Device.edged_setup, hf]
  rfl

/-! ### Dampers -/

/-- Levels set at some dampers, with nothing released: the levels alone change (R37). -/
structure Stage.DampersSet (here : Fin 4 → BitVec 4 → Bool) (down : Bool) (st st' : Stage) : Prop where
  frame : st' = { st with dampers := st'.dampers }
  level : ∀ q c, st'.damperDown q c = if here q c then down else st.damperDown q c

/-- The levels set one after another. -/
theorem Stage.DampersSet.trans {here here' : Fin 4 → BitVec 4 → Bool} {down : Bool} {a b c : Stage}
    (h : DampersSet here down a b) (h' : DampersSet here' down b c) :
    DampersSet (fun q ch => here q ch || here' q ch) down a c where
  frame := by
    have := h'.frame
    rw [h.frame] at this
    exact this
  level q ch := by
    rw [h'.level, h.level]
    cases here q ch <;> simp

/-- They are all that changes. -/
theorem Stage.DampersSet.changesOnly {here : Fin 4 → BitVec 4 → Bool} {down : Bool} {st st' : Stage}
    (h : DampersSet here down st st') : st.ChangesOnly [.dampers] st' := by
  rw [h.frame]
  exact ⟨rfl, .inr rfl, .inl (by simp), .inr rfl, .inr rfl⟩

/-- One damper, down or with nothing SUSTAINED there. -/
theorem Stage.setDamper_dampersSet {st : Stage} {p : Fin 4} {c : BitVec 4} {down : Bool}
    (h : down = false → st.sustainedOf p c = []) :
    DampersSet (fun q ch => decide (q = p ∧ ch = c)) down st (st.setDamper p c down) := by
  rw [Stage.setDamper_of_quiet h]
  exact ⟨rfl, fun q ch => by simp only [Stage.withDamper_damperDown, decide_eq_true_eq]⟩

/-- A fold that sets levels, each on the table as it stood. -/
theorem Stage.DampersSet.foldl {α : Type} {here : α → Fin 4 → BitVec 4 → Bool} {down : Bool} {f : Stage → α → Stage}
    {as : List α} {st : Stage}
    (hf : ∀ a ∈ as, ∀ st' : Stage, st'.voices = st.voices → DampersSet (here a) down st' (f st' a)) :
    DampersSet (fun q c => as.any fun a => here a q c) down st (as.foldl f st) := by
  induction as generalizing st with
  | nil => exact ⟨rfl, fun _ _ => by simp⟩
  | cons a as ih =>
    have first := hf a (by simp) st rfl
    have hv : (f st a).voices = st.voices := by rw [first.frame]
    have rest := ih (st := f st a) fun b hb st' h => hf b (by simp [hb]) st' (h.trans hv)
    exact first.trans rest

/-- A damper pedal's edge: all channels of its masked ports (R38, R149). -/
theorem Stage.setDampers_dampersSet {st : Stage} {mask : BitVec 4} {down : Bool}
    (h : down = false → ∀ (q : Fin 4) (c : BitVec 4), mask.getLsbD q.val = true → st.sustainedOf q c = []) :
    DampersSet (fun q _ => mask.getLsbD q.val) down st (st.setDampers mask down) := by
  have quiet (st' : Stage) (hv : st'.voices = st.voices) (q : Fin 4) (c : BitVec 4) :
      st'.sustainedOf q c = st.sustainedOf q c := by unfold Stage.sustainedOf; rw [hv]
  have all := DampersSet.foldl (st := st) (down := down)
    (as := (List.finRange 4).filter fun p => mask.getLsbD p.val)
    (f := fun st p => (List.finRange 16).foldl (fun st c => st.setDamper p (BitVec.ofFin c) down) st)
    fun p hp st' hv => DampersSet.foldl fun c _ st'' hv' => Stage.setDamper_dampersSet fun hd =>
      (quiet st'' (hv'.trans hv) p _).trans (h hd p _ (by simpa using hp))
  refine ⟨all.frame, fun q c => ?_⟩
  have hq : (((List.finRange 4).filter fun p => mask.getLsbD p.val).any fun p => (List.finRange 16).any fun ch =>
      decide (q = p ∧ c = BitVec.ofFin ch)) = mask.getLsbD q.val := by
    rw [Bool.eq_iff_iff]
    simp only [List.any_eq_true, List.mem_filter, List.mem_finRange, true_and, decide_eq_true_eq]
    constructor
    · rintro ⟨p, hp, ch, rfl, -⟩
      exact hp
    · exact fun hq => ⟨q, hq, c.toFin, rfl, rfl⟩
  rw [Stage.setDampers, all.level, hq]

/-- A DAMPER edge (R38, R149). -/
theorem State.damper_edge {s : State} {n : Fin 8} {edge : PedalEdge} (hon : s.isOnline = true)
    (hedge : EdgeDue s n .damper edge)
    (hquiet : edge = .release → ∀ (q : Fin 4) (c : BitVec 4), s.dev.pedals[n].setup.mask.getLsbD q.val = true →
      s.dev.stage.sustainedOf q c = []) :
    ∃ t, EdgeTaken s t n [.pedal n s.dev.pedals[n].setup.function edge .input .acted
        (word4 s.dev.pedals[n].setup.mask.toNat (if edge = .press then 1 else 0) 0 0) 0] [.dampers]
      ∧ ∀ (q : Fin 4) (c : BitVec 4), t.dev.stage.damperDown q c =
          (if s.dev.pedals[n].setup.mask.getLsbD q.val then decide (edge = .press) else s.dev.stage.damperDown q c) := by
  obtain ⟨-, -, hen, -⟩ := State.isOnline_spec hon
  have hset := Stage.setDampers_dampersSet (st := s.dev.stage) (mask := s.dev.pedals[n].setup.mask)
    (down := decide (edge = .press)) fun hup => hquiet (by cases edge with
      | press => cases hup
      | release => rfl)
  obtain ⟨t, ht, _, _, _, hs⟩ := State.edge_online hedge [] [.dampers]
    (o := (s.dev.edged n).onStage fun st => st.setDampers s.dev.pedals[n].setup.mask (decide (edge = .press)))
    (rep := .acted (word4 s.dev.pedals[n].setup.mask.toNat (flagCode (decide (edge = .press))) 0 0)) hon
    (by cases edge <;> simp only [Device.dispatchPress, Device.dispatchRelease, Device.edged_setup, hedge.1,
          Device.damperEdge] <;> rfl)
    ((congrArg Stage.entries hset.frame).trans hen)
    { stage := hset.changesOnly }
  refine ⟨t, ?_, fun q c => ?_⟩
  · cases edge <;> exact ht
  · rw [hs]
    exact hset.level q c

end Sys2Proof.Machine
end

section
/-! The press that releases everything, in a drain too, and the other edges of a drain (R41, R145, R150). -/
namespace Sys2Proof.Machine

open Sys2Proof

/-! ## Ports that hold a message -/

/-- Each port that holds a message still holds one. -/
def Stage.KeepsMessages (st st' : Stage) : Prop :=
  ∀ q : Fin 6, st.ports[q].isEmpty = false → st'.ports[q].isEmpty = false

/-- Nothing done is within the relation. -/
theorem Stage.KeepsMessages.refl (st : Stage) : st.KeepsMessages st := fun _ => id

/-- The relation composes. -/
theorem Stage.KeepsMessages.trans {a b c : Stage} (h : a.KeepsMessages b) (h' : b.KeepsMessages c) :
    a.KeepsMessages c := fun q hq => h' q (h q hq)

/-- A fold of operations within the relation. -/
theorem Stage.KeepsMessages.foldl {α : Type} {f : Stage → α → Stage} (hf : ∀ (st : Stage) a, st.KeepsMessages (f st a))
    (as : List α) (st : Stage) : st.KeepsMessages (as.foldl f st) := by
  induction as generalizing st with
  | nil => exact .refl st
  | cons a as ih => exact (hf st a).trans (ih _)

/-- A change of one port within the relation. -/
theorem Stage.KeepsMessages.ofPort (st : Stage) (p : Fin 6) {f : ModulePort → ModulePort}
    (hf : (f st.ports[p]).isEmpty = false) : st.KeepsMessages (st.modifyPort p f) := by
  intro q hq
  rw [Stage.modifyPort, getElem_vecModify]
  split
  · rename_i h
    exact h ▸ hf
  · exact hq

/-- An offered release (R47). -/
theorem Stage.offerRelease_keepsMessages (st : Stage) (p : Fin 6) (m : Message) :
    st.KeepsMessages (st.offerRelease p m) := by
  unfold offerRelease
  split
  · exact .ofPort st p (by simp [ModulePort.isEmpty, ModulePort.admitMain])
  · exact .refl st

/-- An offered entry message (R49). -/
theorem Stage.offerEntry_keepsMessages (st : Stage) (p : Fin 6) (m : Message) :
    st.KeepsMessages (st.offerEntry p m) := by
  unfold offerEntry
  split
  · exact .ofPort st p (by simp [ModulePort.isEmpty, ModulePort.admitMain])
  · split
    · exact .ofPort st p (by simp [ModulePort.isEmpty])
    · exact fun _ => id

/-- Entry messages offered in order. -/
theorem Stage.offerEntries_keepsMessages (st : Stage) (p : Fin 6) (ms : List Message) :
    st.KeepsMessages (st.offerEntries p ms) :=
  .foldl (fun st m => st.offerEntry_keepsMessages p m) ms st

/-- The ending of a deferral (R135). -/
theorem Stage.endDeferral_keepsMessages (st : Stage) (df : Deferral) : st.KeepsMessages (st.endDeferral df) :=
  offerEntries_keepsMessages { st with deferrals := st.deferrals.erase df } df.dest.port df.messages

/-- The check that a release makes (R135). -/
theorem Stage.deferralCheck_keepsMessages (st : Stage) (d : Dest) : st.KeepsMessages (st.deferralCheck d) := by
  unfold deferralCheck
  split
  · exact .refl st
  · split
    · exact .refl st
    · exact st.endDeferral_keepsMessages _

/-- The removal of a finished entry (R28, R32). -/
theorem Stage.removeIfDone_keepsMessages (st : Stage) (k : Fin 128) : st.KeepsMessages (st.removeIfDone k) := by
  unfold removeIfDone
  split
  · exact .refl st
  · split
    · exact KeepsMessages.foldl deferralCheck_keepsMessages _ (st.setVoice k none)
    · exact .refl st

/-- A record that becomes DONE (R32). -/
theorem Stage.recordDone_keepsMessages (st : Stage) (k : Fin 128) (j : Nat) (d : Dest) :
    st.KeepsMessages (st.recordDone k j d) :=
  ((st.setFlag k j .done).deferralCheck_keepsMessages d).trans (removeIfDone_keepsMessages _ k)

/-- The release of one record (R29). -/
theorem Stage.releaseRecord_keepsMessages (st : Stage) (k : Fin 128) (j : Nat) :
    st.KeepsMessages (st.releaseRecord k j) := by
  unfold releaseRecord
  split
  · exact .refl st
  · split
    · exact .refl st
    · split
      · exact st.recordDone_keepsMessages k j _
      · split
        · exact (st.offerRelease_keepsMessages _ _).trans (recordDone_keepsMessages _ k j _)
        · exact fun _ => id

/-- The release of records in order. -/
theorem Stage.releaseRecords_keepsMessages (st : Stage) (ps : List (Fin 128 × Nat)) :
    st.KeepsMessages (st.releaseRecords ps) :=
  .foldl (f := fun st (kj : Fin 128 × Nat) => st.releaseRecord kj.1 kj.2)
    (fun st kj => st.releaseRecord_keepsMessages kj.1 kj.2) ps st

/-- The release of entries in order (R41). -/
theorem Stage.releaseVoices_keepsMessages (st : Stage) (ks : List (Fin 128)) : st.KeepsMessages (st.releaseVoices ks) :=
  .foldl (fun st k => releaseRecords_keepsMessages (st.modifyVoice k _) _) ks st

/-- The ending of a deferral by a cut (R136, R137). -/
theorem Stage.endDeferralByCut_keepsMessages (st : Stage) (df : Deferral) : st.KeepsMessages (st.endDeferralByCut df) := by
  unfold endDeferralByCut
  refine KeepsMessages.trans ?_ (offerEntries_keepsMessages _ _ _)
  exact releaseRecords_keepsMessages { st with deferrals := st.deferrals.erase df } _

/-- RELEASE_ALL (R41). -/
theorem Stage.releaseAll_keepsMessages (st : Stage) : st.KeepsMessages st.releaseAll :=
  (releaseVoices_keepsMessages { st with dampers := _, deferrals := [] } _).trans
    (.foldl endDeferralByCut_keepsMessages _ _)

/-- A port that holds a message keeps a drain going (R60, R189). -/
theorem Device.drainOver_of_message {d : Device} {q : Fin 6} (h : d.stage.ports[q].isEmpty = false) :
    d.drainOver = false := by
  have hall : ((List.finRange 6).all fun p => d.stage.ports[p].isEmpty) = false :=
    List.all_eq_false.2 ⟨q, List.mem_finRange q, by rw [h]; decide⟩
  rw [Device.drainOver, Stage.isQuiet, hall, Bool.and_false, Bool.and_false]

/-- A press that releases everything does not end the drain, where nothing is left to release or a port holds a message
(R41, R60). -/
theorem Device.releaseAll_drainOver {d : Device} (h : d.drainOver = false)
    (hleft : (d.stage.heldVoices = [] ∧ d.stage.deferrals = []) ∨ ∃ q : Fin 6, d.stage.ports[q].isEmpty = false) :
    (d.onStage Stage.releaseAll).drainOver = false := by
  rcases hleft with ⟨hheld, hdef⟩ | ⟨q, hq⟩
  · have hall : d.stage.releaseAll =
        { d.stage with dampers := Vector.replicate 4 (Vector.replicate 16 false), deferrals := [] } := by
      rw [Stage.releaseAll, hdef, Stage.releaseHeld, hheld]
      rfl
    rw [Device.onStage, hall]
    exact h
  · exact Device.drainOver_of_message (d.stage.releaseAll_keepsMessages q hq)

/-! ## Edges -/

/-- A PANIC press, ONLINE and in DRAINING (R41, R150). -/
theorem State.panic_edge {s : State} {n : Fin 8} (hready : s.isReady = true)
    (hstate : s.dev.engine.state = .online ∨ (s.dev.engine.state = .draining ∧
      ((s.dev.stage.heldVoices = [] ∧ s.dev.stage.deferrals = []) ∨
        ∃ q : Fin 6, s.dev.stage.ports[q].isEmpty = false)))
    (hedge : EdgeDue s n .panic .press) :
    ∃ t es, EdgeTaken s t n (es ++ [.pedal n s.dev.pedals[n].setup.function .press .input .acted
          (BitVec.ofNat 32 s.dev.stage.heldVoices.length) 0]) [.voices, .dampers, .ports, .deferrals]
      ∧ t.dev.stage = { s.dev.stage.releaseAll with entries := [] } := by
  obtain ⟨-, -, -, hover⟩ := State.isReady_spec hready
  obtain ⟨hclock, -, -⟩ := s.dev.stage.releaseAll_frame
  have hpanic : (s.dev.edged n).dispatchEdge n .press = (s.dev.edged n).panicPress := by
    unfold Device.dispatchEdge
    split
    · rw [Device.edged_setup, hedge.1]
      rfl
    · simp only [Device.dispatchPress, Device.edged_setup, hedge.1]
  have hrun : s.dev.engine.state.isRunning = true := by
    rcases hstate with h | ⟨h, -⟩ <;> rw [h] <;> rfl
  have hgoes : ((s.dev.edged n).onStage Stage.releaseAll).drainOver = false := by
    rcases hstate with h | ⟨-, h⟩
    · exact Device.drainOver_of_state (fun hd => by cases h.symm.trans hd)
    · exact Device.releaseAll_drainOver (d := s.dev.edged n) hover h
  obtain ⟨t, ht, _, _, _, hs⟩ := State.edge_outcome hedge _ [.voices, .dampers, .ports, .deferrals] hready hrun hpanic
    hgoes rfl { stage := ⟨hclock, .inl (by simp), .inl (by simp), .inl (by simp), .inl (by simp)⟩ }
  exact ⟨t, _, ht, by rw [hs]; rfl⟩

/-- Every other edge of a drain (R145, R151). -/
theorem State.draining_edge {s : State} {n : Fin 8} {f : PedalFunction} {edge : PedalEdge} (hready : s.isReady = true)
    (hstate : s.dev.engine.state = .draining) (hedge : EdgeDue s n f edge) (hother : edge = .release ∨ f ≠ .panic) :
    ∃ t, EdgeTaken s t n [.pedal n s.dev.pedals[n].setup.function edge .input .draining
        ((s.dev.edged n).drainingDetail n edge) 0] []
      ∧ t.dev.overrideHeld = (s.dev.edged n).overrideHeld := by
  obtain ⟨-, hen, -, hover⟩ := State.isReady_spec hready
  have hdisp : (s.dev.edged n).dispatchEdge n edge =
      (s.dev.edged n, { outcome := .draining, main := (s.dev.edged n).drainingDetail n edge, second := 0 }) := by
    have hnot : ¬ (edge = .press ∧ (s.dev.edged n).pedals[n].setup.function = .panic) := by
      rw [Device.edged_setup, hedge.1]
      rintro ⟨rfl, rfl⟩
      simp at hother
    exact (if_pos hstate).trans (if_neg hnot)
  obtain ⟨t, ht, _, _, _, hs⟩ := State.edge_outcome hedge [] [] hready (by rw [hstate]; rfl) hdisp hover hen {}
  exact ⟨t, ht, Device.overrideHeld_congr (by rw [hs])⟩

end Sys2Proof.Machine
end

section
/-! The presses of a TAP pedal (R85, R87 to R89), and the debounce timer whole. -/
namespace Sys2Proof.Machine

open Sys2Proof

/-! ## Tap capture (R85) -/

/-- The ring that keeps the newest intervals, as one cut of the grown ring (R85). -/
theorem pushRing_eq_drop (cap : Nat) (hcap : 0 < cap) (ring : List Nat) (i : Nat) :
    pushRing cap ring i = (ring ++ [i]).drop (ring.length + 1 - cap) := by
  unfold pushRing
  split
  · rw [Nat.sub_eq_zero_of_le (by omega), List.drop_zero]
  · rw [List.drop_append_of_le_length (by omega)]

/-- T_tap lies in the tempo range (R87). -/
theorem clampNat_tapTempo (ring : List Nat) :
    clampNat Config.tempoMin Config.tempoMax (tapTempo ring) = tapTempo ring := by
  unfold tapTempo clampNat Config.tempoMin Config.tempoMax
  split_ifs <;> omega

section TakeTap

variable {d : Device}

/-- The first tap of a series (R85). -/
theorem Device.takeTap_first (h : d.tap.last = none) :
    d.takeTap = ({ d with tap := { ring := [], last := some d.now } },
      { kind := .first, count := 0, interval := 0, tTap := 0, sourceChanged := false }) := by
  rw [Device.takeTap, h]

variable {l : Word} {i : Nat} (h : d.tap.last = some l) (hi : interval d.now l = i)
include h hi

/-- A tap too soon or too late after the last (R85). -/
theorem Device.takeTap_restart (hout : i < 150000 ∨ 2000000 < i) :
    d.takeTap = ({ d with tap := { ring := [], last := some d.now } },
      { kind := .restart, count := 0, interval := i, tTap := 0, sourceChanged := false }) := by
  rw [Device.takeTap, h, ← hi]
  exact if_pos (hi ▸ hout)

/-- A tap that adds its interval (R85, R87). -/
theorem Device.takeTap_added {ring : List Nat} (hring : (d.tap.ring ++ [i]).drop (d.tap.ring.length + 1 - 4) = ring)
    (hlo : 150000 ≤ i) (hhi : i ≤ 2000000) :
    d.takeTap =
      if ring.length < 2 then
        ({ d with tap := { ring := ring, last := some d.now } },
          { kind := .added, count := ring.length, interval := i, tTap := 0, sourceChanged := false })
      else
        let r := { d with tap := { ring := ring, last := some d.now } }.offerTap (tapTempo ring)
        (r.1, { kind := r.2.1, count := ring.length, interval := i, tTap := tapTempo ring, sourceChanged := r.2.2 }) := by
  have hkept : ¬ (interval d.now l < Config.tapMin ∨ Config.tapMax < interval d.now l) :=
    hi ▸ not_or.2 ⟨Nat.not_lt.2 hlo, Nat.not_lt.2 hhi⟩
  subst hring hi
  rw [Device.takeTap, h]
  refine (if_neg hkept).trans ?_
  rw [← pushRing_eq_drop 4 (by decide)]
  rfl

/-- A tap that gives a tempo, by what becomes of it (R88). -/
theorem Device.takeTap_offered {ring : List Nat} {o : Device} {kind : TapKind} {changed : Bool}
    (hring : (d.tap.ring ++ [i]).drop (d.tap.ring.length + 1 - 4) = ring) (hlo : 150000 ≤ i) (hhi : i ≤ 2000000)
    (hlong : 2 ≤ ring.length)
    (hoffer : { d with tap := { ring := ring, last := some d.now } }.offerTap (tapTempo ring) = (o, kind, changed)) :
    d.takeTap = (o, { kind := kind, count := ring.length, interval := i, tTap := tapTempo ring
                      sourceChanged := changed }) := by
  rw [Device.takeTap_added h hi hring hlo hhi, if_neg (Nat.not_lt.2 hlong)]
  simp only [hoffer]

end TakeTap

/-- The second detail of a tap press (R151). -/
def TapOutcome.second (r : TapOutcome) : Word :=
  word4 (r.tTap % 256) (r.tTap / 256) r.kind.code (r.count + 16 * flagCode r.sourceChanged)

/-- Without a computed tempo it shows the kind and the count. -/
theorem TapOutcome.second_of_none (kind : TapKind) (count interval : Nat) :
    TapOutcome.second { kind := kind, count := count, interval := interval, tTap := 0, sourceChanged := false } =
      word4 0 0 kind.code count := by
  simp [TapOutcome.second, flagCode]

/-- A pending tempo written while the transport runs with no glide (R71, R75). -/
theorem Device.writePendingTempo_of_running {d : Device} (hrun : d.tempo.transport ≠ .stopped)
    (hglide : d.tempo.glide = none) (v : Nat) (cause : TempoCause) :
    d.writePendingTempo v cause = d.onTempo fun t =>
      { t with pending := some (clampNat Config.tempoMin Config.tempoMax v, cause) } := by
  rw [Device.writePendingTempo, Device.cancelGlide, hglide]
  exact if_neg (fun h => hrun (of_decide_eq_true h))

section Offer

variable {d : Device} {T : Nat} (hrun : d.tempo.transport ≠ .stopped) (hglide : d.tempo.glide = none)
  (hT : clampNat Config.tempoMin Config.tempoMax T = T)
include hrun hglide hT

/-- A computed tempo under MANUAL is written pending (R88). -/
theorem Device.offerTap_manual (hsource : d.tempo.source = .manual) :
    d.offerTap T = (d.onTempo fun t => { t with pending := some (T, .tap) }, .added, false) := by
  rw [Device.offerTap, if_pos hsource, Device.writePendingTempo_of_running hrun hglide, hT]

/-- Under FOLLOW without a lock it takes the source to MANUAL (R88). -/
theorem Device.offerTap_follow (hsource : d.tempo.source = .follow) (hfree : d.sync.state ≠ .locked) :
    d.offerTap T = (d.onTempo fun t => { t with source := .manual, pending := some (T, .tap) }, .added, true) := by
  have hset : d.setSource .manual = d.onTempo fun t => { t with source := .manual } := by
    rw [Device.setSource, if_neg (by rw [hsource]; decide)]
  rw [Device.offerTap, if_neg (by rw [hsource]; decide), if_neg hfree, hset,
    Device.writePendingTempo_of_running (d := d.onTempo fun t => { t with source := .manual }) hrun hglide, hT]
  rfl

end Offer

/-- Under a LOCKED FOLLOW it is withheld (R88). -/
theorem Device.offerTap_locked {d : Device} {T e : Nat} (hsource : d.tempo.source = .follow)
    (hlocked : d.sync.state = .locked) (he : d.sync.estimate = some e) :
    d.offerTap T = (d.emit (.tapIgnored T e), .ignored, false) := by
  rw [Device.offerTap, if_neg (by rw [hsource]; decide), if_pos hlocked, he]
  rfl

section Press

variable {s : State} {n : Fin 8} (hon : s.isOnline = true) (hedge : EdgeDue s n .tap .press)
include hon hedge

/-- A TAP press, by what tap capture makes of it (R150, R151). -/
theorem State.tap_edge {o : Device} {r : TapOutcome} {outcome : PedalOutcome} {second : Word} (es : List Entry)
    (bs : List Block) (houtcome : (if r.kind = .ignored then PedalOutcome.ignored else .acted) = outcome)
    (hsecond : r.second = second)
    (htake : (s.dev.edged n).takeTap = (o, r)) (hes : o.stage.entries = es) (hfr : (s.dev.edged n).Dispatched bs o) :
    ∃ t, EdgeTaken s t n (es ++ [.pedal n .tap .press .input outcome (BitVec.ofNat 32 r.interval) second]) bs
      ∧ t.dev.tap = o.tap ∧ t.dev.tempo = o.tempo := by
  have htap : (s.dev.edged n).dispatchPress n = (s.dev.edged n).tapPress := by
    simp only [Device.dispatchPress, Device.edged_setup, hedge.1]
  obtain ⟨t, ht, _, _, _, hs⟩ := State.edge_online hedge es bs hon
    (rep := { outcome := outcome, main := BitVec.ofNat 32 r.interval, second := second })
    (htap.trans (by rw [Device.tapPress, htake, ← hsecond, ← houtcome]; rfl)) hes hfr
  exact ⟨t, hedge.1 ▸ ht, by rw [hs], by rw [hs]⟩

/-- A press of a TAP pedal (R85, R87 to R89). -/
theorem State.tapPressSays : TapPressSays s n := by
  obtain ⟨-, -, hen, -⟩ := State.isOnline_spec hon
  refine ⟨fun hfirst => ?_, fun l hl => ?_⟩
  · obtain ⟨t, ht, htap, -⟩ := State.tap_edge hon hedge [] [.tap] rfl (TapOutcome.second_of_none _ _ _)
      (Device.takeTap_first (d := s.dev.edged n) hfirst) hen { tap := .inl (by simp) }
    exact ⟨t, ht, htap⟩
  intro i ring T second
  have hl : (s.dev.edged n).tap.last = some l := hl
  have hi : interval (s.dev.edged n).now l = i := rfl
  have hring : ((s.dev.edged n).tap.ring ++ [i]).drop ((s.dev.edged n).tap.ring.length + 1 - 4) = ring := rfl
  clear_value ring i
  refine ⟨fun hout => ?_, fun hlo hhi => ⟨fun hshort => ?_, fun hlong hrun hglide => ?_⟩⟩
  · obtain ⟨t, ht, htap, -⟩ := State.tap_edge hon hedge [] [.tap] rfl (TapOutcome.second_of_none _ _ _)
      (Device.takeTap_restart hl hi hout) hen { tap := .inl (by simp) }
    exact ⟨t, ht, htap⟩
  · obtain ⟨t, ht, htap, -⟩ := State.tap_edge hon hedge [] [.tap] rfl (TapOutcome.second_of_none _ _ _)
      ((Device.takeTap_added hl hi hring hlo hhi).trans (if_pos hshort)) hen { tap := .inl (by simp) }
    exact ⟨t, ht, htap⟩
  let tapped : Device := { s.dev.edged n with tap := { ring := ring, last := some s.dev.now } }
  refine ⟨fun hmanual => ?_, fun hfollow hfree => ?_, fun e hfollow hlocked he => ?_⟩
  · obtain ⟨t, ht, htap, htempo⟩ := State.tap_edge hon hedge [] [.tap, .tempo] rfl rfl
      (Device.takeTap_offered hl hi hring hlo hhi hlong
        (Device.offerTap_manual (d := tapped) hrun hglide (clampNat_tapTempo ring) hmanual)) hen
      { tap := .inl (by simp), tempo := .inl (by simp) }
    exact ⟨t, ht, htap, htempo⟩
  · obtain ⟨t, ht, htap, htempo⟩ := State.tap_edge hon hedge [] [.tap, .tempo] rfl rfl
      (Device.takeTap_offered hl hi hring hlo hhi hlong
        (Device.offerTap_follow (d := tapped) hrun hglide (clampNat_tapTempo ring) hfollow hfree)) hen
      { tap := .inl (by simp), tempo := .inl (by simp) }
    exact ⟨t, ht, htap, htempo⟩
  · obtain ⟨t, ht, htap, -⟩ := State.tap_edge hon hedge [.tapIgnored T e] [.tap] rfl rfl
      (Device.takeTap_offered hl hi hring hlo hhi hlong (Device.offerTap_locked (d := tapped) hfollow hlocked he))
      (congrArg (· ++ _) hen) { tap := .inl (by simp) }
    exact ⟨t, ht, htap⟩

end Press

/-! ## The debounce timer whole -/

/-- A flag as a detail word (R199). -/
theorem ofNat_flagCode (b : Bool) : (BitVec.ofNat 32 (flagCode b) : Word) = if b then 1 else 0 := by
  cases b <;> rfl

/-- Settles O34: each function ONLINE, the PANIC press, and the other edges of a drain. -/
theorem debounceReportsPedal : Obligations.DebounceReportsPedal := by
  intro s n edge p report flag
  refine ⟨fun hon => ⟨State.notify_edge hon, fun hedge hpress hidle => ?_, State.tapPressSays hon,
    fun sc hedge hpress hcopy => ?_, fun hedge => ?_, State.damper_edge hon, fun hedge hpress hidle => ?_⟩,
    fun hready hstate hedge hpress => ?_, fun hready hstate hedge hother => ?_⟩
  · subst hpress
    exact State.goIdle_edge hon hedge hidle
  · subst hpress
    exact ⟨State.holdArmed_edge hon hedge hcopy, State.holdHeld_edge hon hedge hcopy⟩
  · obtain ⟨t, ht, hlevel⟩ := State.override_edge hon hedge
    exact ⟨t, by rwa [ofNat_flagCode] at ht, hlevel⟩
  · subst hpress
    obtain ⟨t, ht, hclick⟩ := State.clickMute_edge hon hedge hidle
    exact ⟨t, by rwa [ofNat_flagCode] at ht, hclick⟩
  · subst hpress
    obtain ⟨t, es, ht, hstage⟩ := State.panic_edge hready hstate hedge
    obtain ⟨-, hdampers, hdeferrals⟩ := s.dev.stage.releaseAll_frame
    refine ⟨t, es, ht, fun q c => by simp [hstage, Stage.damperDown, hdampers], fun k v hv => ?_,
      by rw [hstage]; exact hdeferrals⟩
    rw [hstage] at hv
    exact Stage.releaseAll_voice hv
  · obtain ⟨t, ht, hlevel⟩ := State.draining_edge hready hstate hedge hother
    refine ⟨t, (congrArg (fun w => EdgeTaken s t n [report .draining w] []) ?_).mp ht⟩
    unfold Device.drainingDetail
    rw [Device.edged_setup, ofNat_flagCode, ofNat_flagCode, ← hlevel]
    dsimp only [p]
    cases s.dev.pedals[n].setup.function <;> cases edge <;> rfl

end Sys2Proof.Machine
end

section
/-! The ends of a drain (R60, R61, R189). -/
namespace Sys2Proof.Machine

open Sys2Proof

/-! ## An event at whose end a drain is over -/

/-- The engine after a drain (R189). -/
def Engine.drained (e : Engine) : Engine :=
  { e with state := if e.restart then .loading else .offline, restart := false, drainAt := none }

/-- The end of a drain, whole but for the state page (R145, R185, R189). -/
theorem Device.endDrain_whole (d : Device) :
    ∃ page, d.endDrain =
      { d with
        engine := d.engine.drained
        pedals := d.pedals.map Pedal.release
        regs := { d.regs with fieldCode := if d.engine.restart then 0 else d.regs.fieldCode }
        page := page } := by
  refine ⟨d.endDrain.page, ?_⟩
  unfold Device.endDrain Device.beginLoading Engine.drained
  cases d.engine.restart <;> rfl

/-- Without a restart mark it leaves the page (R182). -/
theorem Device.endDrain_page {d : Device} (h : d.engine.restart = false) : d.endDrain.page = d.page := by
  simp [Device.endDrain, h]

section Over

variable {s : State} {d : Device} (hover : d.drainOver = true)
include hover

/-- All that settling does to a part whose drain is over (R189). -/
theorem State.settle_over (m : Mem) :
    ∃ page, s.settle d m =
      { s with
        mem := (s.drainTaken d m).2.mem
        drains := s.drains + 1
        dev :=
          { d with
            eventStamp := d.stampHere
            engine := d.engine.drained
            pedals := d.pedals.map Pedal.release
            regs :=
              { d.regs with
                fieldCode := if d.engine.restart then 0 else d.regs.fieldCode
                causes := (s.drainTaken d m).1.regs.causes
                faults := (s.drainTaken d m).1.regs.faults
                attnPulse := (s.drainTaken d m).1.regs.attnPulse }
            jw := (s.drainTaken d m).1.jw
            stage := { d.stage with entries := [] }
            page := page
            pageCause := false } } := by
  obtain ⟨page, hend⟩ := Device.endDrain_whole (s.drainTaken d m).1
  have hs := State.endEvent_over (s := s) m (fun d => d.pageSettle s.dev) hover
  rw [Device.pageSettle_eq] at hs
  generalize ((s.drainTaken d m).1.endDrain.pageSettle s.dev).page = p at hs
  rw [hend, State.drainTaken_eq] at hs
  exact ⟨p, hs⟩

/-- A drain that ends without a restart mark causes a rewrite (R181, R189). -/
theorem PageCaused.of_settle_over (m : Mem) (hrun : s.dev.engine.state.isRunning = true)
    (hrestart : d.engine.restart = false) (hpage : d.page = s.dev.page) : PageCaused s (s.settle d m) := by
  have hend : (s.drainTaken d m).1.endDrain.page = s.dev.page := by
    rw [Device.endDrain_page (by rw [State.drainTaken_eq]; exact hrestart), State.drainTaken_eq]
    exact hpage
  have hends : (s.drainTaken d m).1.endDrain.engine.state.isRunning = false := by
    obtain ⟨_, h⟩ := Device.endDrain_whole (s.drainTaken d m).1
    have hengine : (s.drainTaken d m).1.endDrain.engine = d.engine.drained := by rw [h, State.drainTaken_eq]; rfl
    rw [hengine, Engine.drained, hrestart]
    rfl
  have hs : (s.settle d m).dev = { (s.drainTaken d m).1.endDrain with pageCause := false : Device }.rewriteCaused := by
    rw [State.settle, State.endEvent_over m _ hover]
    simp [Device.pageSettle, Device.pageWritten, Device.pageDue, hrun, hends]
  rw [PageCaused, hs, Device.rewriteCaused, ← hend]
  split
  · rfl
  · rfl

end Over

/-- An event that hands no entries leaves the journal writer (R157). -/
theorem Device.afterHanding_jw {s : State} {d : Device} (hjw : d.jw = s.dev.jw) (hen : d.stage.entries = []) :
    (d.afterHanding s.dev.engine.state).jw = s.dev.jw := by
  simp [Device.afterHanding, Device.journalSettle, Device.restamp, hjw, hen, JournalWriter.hand]

/-- What the journal writer finds after an event that hands it no entries (R157). -/
theorem Device.afterHanding_alike {s : State} {d : Device} (hjw : d.jw = s.dev.jw) (hregs : d.regs = s.dev.regs)
    (hlayout : d.layout = s.dev.layout) (hnow : d.now = s.dev.now) (hen : d.stage.entries = []) :
    s.dev.JournalAlike (d.afterHanding s.dev.engine.state) where
  jw := Device.afterHanding_jw hjw hen
  regs := hregs
  layout := hlayout
  now := hnow

/-- A drain that ends in an event without entries takes those that waited as it began (R157, R167). -/
theorem EntriesTaken.of_settle_over {s : State} {d : Device} (hover : d.drainOver = true) (hjw : d.jw = s.dev.jw)
    (hregs : d.regs = s.dev.regs) (hlayout : d.layout = s.dev.layout) (hnow : d.now = s.dev.now)
    (hen : d.stage.entries = []) : EntriesTaken s (s.settle d s.mem) := by
  obtain ⟨halike, hrun⟩ := (Device.afterHanding_alike hjw hregs hlayout hnow hen).takeAll
    { mem := s.mem, bus := Config.drainBus s.drains }
  obtain ⟨page, hs⟩ := State.settle_over hover s.mem
  have hqueue := (Device.takeAll_spec (d.afterHanding s.dev.engine.state)
    { mem := s.mem, bus := Config.drainBus s.drains }).queue.1
  have hcauses := congrArg Registers.causes halike.regs
  have hfaults := congrArg Registers.faults halike.regs
  have hpulse := congrArg Registers.attnPulse halike.regs
  rw [hs]
  exact ⟨congrArg PortRun.mem hrun.symm, halike.jw, hqueue, hcauses, hfaults, hpulse, rfl⟩

/-- The frame of an event at whose end a drain is over, without a restart mark for the field code. -/
theorem State.settle_over_changes {s : State} {d : Device} (bs : List Block) (hover : d.drainOver = true)
    (hjw : d.jw = s.dev.jw) (hen : s.dev.stage.entries = [])
    (hfield : .fieldCode ∈ bs ∨ d.engine.restart = false)
    (hcause : .pageCause ∈ bs ∨ s.dev.pageCause = false)
    (hbs : ∀ b : Block, b ∈ bs ∨ b ∈ [Block.entries, .eventStamp] ∨ b.agrees s { s with dev := d }) :
    EventChanges (bs ++ [.engine, .pedals, .journalCounts, .mem, .faults, .causes, .attnPulse, .drains]) s
      (s.settle d s.mem) := by
  obtain ⟨page, hs⟩ := State.settle_over hover s.mem
  have hsetup : (s.drainTaken d s.mem).1.jw.mode = d.jw.mode ∧ (s.drainTaken d s.mem).1.jw.watermark = d.jw.watermark
      ∧ (s.drainTaken d s.mem).1.jw.mask = d.jw.mask := (Device.takeAll_spec _ _).setup
  rw [hjw] at hsetup
  refine onlyChanges_of_forall fun b => ?_
  rw [hs]
  have hb := hbs b
  cases b
  case fieldCode =>
    rcases hfield with h | h
    · exact .inl (by simp [h])
    · simpa [Block.agrees, h, bookkeeping] using hb
  case journalSetup => exact .inr hsetup
  all_goals simp_all [Block.agrees, bookkeeping]

/-! ## What is left to send -/

/-- A stage is quiet when its table and its ports are empty (R60, R189). -/
theorem Stage.isQuiet_iff (st : Stage) :
    st.isQuiet = true ↔ (∀ k : Fin 128, st.voices[k] = none) ∧ ∀ q : Fin 6, st.ports[q].isEmpty = true := by
  simp only [Stage.isQuiet, Bool.and_eq_true, List.all_eq_true, List.mem_finRange, forall_const,
    Option.isNone_iff_eq_none]

/-- The next frame of an empty port is none (R53). -/
theorem nextFramePicked_of_empty {mp : ModulePort} (hmain : mp.main = []) (hbacklog : mp.backlog = [])
    (hlane : mp.lane = []) (now : Word) :
    nextFramePicked mp now =
      { mp with polarity := mp.pendingPolarity.getD mp.polarity, pendingPolarity := none, tx := .idle } := by
  simp [nextFramePicked, hmain, hbacklog, hlane]

/-- The last frame of a part leaves its port empty (R54). -/
theorem Stage.mainFrameDone_last {st : Stage} {p : Fin 6} {m : Message}
    (hvoices : ∀ k : Fin 128, st.voices[k] = none) (hmain : st.ports[p].main = [m])
    (hbacklog : st.ports[p].backlog = []) (hlane : st.ports[p].lane = []) :
    st.mainFrameDone p =
      { st with
        ports := st.ports.set p
          { st.ports[p] with
            main := [], polarity := st.ports[p].pendingPolarity.getD st.ports[p].polarity
            pendingPolarity := none, tx := .idle } } := by
  have hnone : (st.headGone p).retryOwed p = st.headGone p := by
    refine Stage.retryOwed_of_none (List.flatMap_eq_nil_iff.2 fun k _ => ?_)
    have hk : (st.headGone p).voices[k] = none := hvoices k
    simp [Stage.destsAt, hk]
  have hhead : (st.headGone p).ports[p] = { st.ports[p] with main := [] } := by
    have htail : st.ports[p].main.tail = [] := by rw [hmain]; rfl
    simp [Stage.headGone, ← htail]
  rw [Stage.mainFrameDone_eq hnone, hhead,
    nextFramePicked_of_empty (mp := { st.ports[p] with main := [] }) rfl hbacklog hlane]
  simp only [Stage.headGone, Vector.set_set]

/-- A due event, by the part that its work leaves. -/
theorem State.event_settles {s : State} {due : Bool} {body : Device → Device} {d : Device} (hr : s.resetLow = false)
    (hdue : due = true) (hb : body s.dev.beginEvent = d) :
    (.next (s.event due body) : Host.Outcome State Fault Refusal) = .next (s.settle d s.mem) := by
  rw [hdue, State.event_due hr, hb]

/-- DRAIN_END ends a drain that is over (R189; log 31). -/
theorem State.drainEnd_outcome {s : State} (hr : s.resetLow = false) (hover : s.dev.drainOver = true)
    (hen : s.dev.stage.entries = []) :
    ∃ t, exec .drainEnd s = .next t ∧ EntriesTaken s t ∧ t.dev.engine = s.dev.engine.drained
      ∧ t.dev.regs.fieldCode = (if s.dev.engine.restart then 0 else s.dev.regs.fieldCode)
      ∧ t.dev.pedals = s.dev.pedals.map Pedal.release
      ∧ EventChanges [.engine, .fieldCode, .pedals, .pageCause, .journalCounts, .mem, .faults, .causes, .attnPulse,
          .drains] s t := by
  have hover' : s.dev.beginEvent.drainOver = true := hover
  obtain ⟨page, hs⟩ := State.settle_over (s := s) hover' s.mem
  have hchanges := State.settle_over_changes [.fieldCode, .pageCause] hover' rfl hen (.inl (by simp)) (.inl (by simp))
    (by intro b; cases b <;> simp [Block.agrees, Device.beginEvent])
  refine ⟨s.settle s.dev.beginEvent s.mem, State.event_settles hr hover rfl,
    EntriesTaken.of_settle_over hover' rfl rfl rfl rfl hen, ?_, ?_, ?_, hchanges.mono (by decide)⟩
  all_goals
    rw [hs]
    rfl

/-- The last frame of a drain ends it (R60, R189). -/
theorem State.lastFrame_outcome {s : State} {p : Fin 6} {m : Message} {e : Word} (hready : s.isReady = true)
    (hstate : s.dev.engine.state = .draining) (hrestart : s.dev.engine.restart = false)
    (hvoices : ∀ k : Fin 128, s.dev.stage.voices[k] = none)
    (hothers : ∀ q : Fin 6, q ≠ p → s.dev.stage.ports[q].isEmpty = true) (hmain : s.dev.stage.ports[p].main = [m])
    (hbacklog : s.dev.stage.ports[p].backlog = []) (hlane : s.dev.stage.ports[p].lane = [])
    (htx : s.dev.stage.ports[p].tx = .sendingMain e) (he : reached s.dev.now e = true) :
    ∃ t, exec (.mainFrameCompletion p) s = .next t ∧ t.dev.engine.state = .offline ∧ EntriesTaken s t
      ∧ t.dev.stage.ports[p].main = [] ∧ t.dev.stage.ports[p].tx = .idle ∧ PageCaused s t
      ∧ EventChanges [.engine, .pedals, .ports, .journalCounts, .mem, .faults, .causes, .attnPulse, .drains] s t := by
  obtain ⟨hr, hen, hpc, -⟩ := State.isReady_spec hready
  have hrun : s.dev.engine.state.isRunning = true := by rw [hstate]; rfl
  have hdue : s.dev.stage.ports[p].mainFrameDue s.dev.now = true := by rw [ModulePort.mainFrameDue, htx]; exact he
  have hdone := Stage.mainFrameDone_last hvoices hmain hbacklog hlane
  generalize hst : s.dev.stage.mainFrameDone p = st at hdone
  have hquiet : st.isQuiet = true := by
    refine (Stage.isQuiet_iff st).2 ⟨by rw [hdone]; exact hvoices, fun q => ?_⟩
    rw [hdone]
    by_cases hq : q = p
    · subst hq
      simpa [ModulePort.isEmpty] using And.intro hbacklog hlane
    · have hne : (p : Nat) ≠ q := fun h => hq (Fin.ext h.symm)
      simpa [hne] using hothers q hq
  have hover : ({ s.dev.beginEvent with stage := st } : Device).drainOver = true := by
    rw [Device.drainOver, hquiet]
    simp [Device.beginEvent, hstate]
  have hbody : s.dev.beginEvent.onStage (fun st => st.mainFrameDone p) = { s.dev.beginEvent with stage := st } := by
    rw [← hst]; rfl
  obtain ⟨page, hs⟩ := State.settle_over (s := s) hover s.mem
  have hchanges := State.settle_over_changes [.ports] hover rfl hen (.inr hrestart) (.inr hpc)
    (by intro b; cases b <;> simp [Block.agrees, Device.beginEvent, hdone])
  have hstage : (s.settle { s.dev.beginEvent with stage := st } s.mem).dev.stage = { st with entries := [] } :=
    State.settle_stage _ _ _
  refine ⟨_, State.event_settles hr hdue hbody, ?_,
    EntriesTaken.of_settle_over hover rfl rfl rfl (by rw [Device.now, hdone]; rfl) (by rw [hdone]; exact hen),
    by rw [hstage, hdone]; simp, by rw [hstage, hdone]; simp,
    PageCaused.of_settle_over hover s.mem hrun hrestart rfl, hchanges.mono (by decide)⟩
  rw [hs]
  exact if_neg (fun h => by cases hrestart.symm.trans h)

/-- An entry taken while something is left to send (R155, R157). -/
theorem State.entryTaken_outcome {s : State} {h : Handed} {rest : List Handed} (bus : Bus) (hready : s.isReady = true)
    (hstate : s.dev.engine.state = .draining) (hqueue : s.dev.jw.queue = h :: rest) :
    ∃ t, exec (.journalWriteCompletion bus) s = .next t ∧ t.dev.jw.queue = rest
      ∧ t.mem = (s.dev.takeEntry h { mem := s.mem, bus := bus }).2.mem
      ∧ EventChanges [.journalCounts, .mem, .faults, .causes, .attnPulse] s t := by
  obtain ⟨hr, hen, hpc, hover⟩ := State.isReady_spec hready
  have hexec : exec (.journalWriteCompletion bus) s =
      .next (s.portEvent true bus fun d run => d.takeEntry h run) := by
    have he : exec (.journalWriteCompletion bus) s = execJournalWriteCompletion bus s := rfl
    rw [he, execJournalWriteCompletion, hqueue, hstate]
    rfl
  have halike : s.dev.JournalAlike s.dev.beginEvent := ⟨rfl, rfl, rfl, rfl⟩
  have hrun := (halike.takeEntry h { mem := s.mem, bus := bus }).2
  have htaken := s.dev.beginEvent.takeEntry_queue h { mem := s.mem, bus := bus }
  obtain ⟨hrest, hsetup, -, hregs, -⟩ := s.dev.beginEvent.takeEntry_spec h { mem := s.mem, bus := bus }
  obtain ⟨d, run, hd⟩ : ∃ d run, s.dev.beginEvent.takeEntry h { mem := s.mem, bus := bus } = (d, run) := ⟨_, _, rfl⟩
  simp only [hd] at hrest hsetup hregs hrun htaken
  have hent : d.stage.entries = [] := by rw [hrest]; exact hen
  obtain ⟨p, hs⟩ := State.portEvent_spec hr (body := fun d run => d.takeEntry h run) hd (by rw [hrest]; exact hover)
  have hqueue' : d.jw.queue = rest := htaken.trans (by rw [Device.beginEvent, hqueue]; rfl)
  have hnone : d.handedOver s.dev.engine.state = [] := by rw [Device.handedOver, hent, ite_self]
  rw [hregs] at hrest
  refine ⟨_, hexec, by rw [hs, hnone, hqueue']; exact List.append_nil _, by rw [hs, hrun], onlyChanges_of_forall fun b => ?_⟩
  rw [hs, hrest]
  cases b
  case journalSetup => exact .inr hsetup
  all_goals simp [Block.agrees, bookkeeping, Device.onJournal, Device.beginEvent, hen, hpc]

/-- A fault that was set is set (R190). -/
theorem Registers.setFault_sets (r : Registers) (now : Word) (f : StickyFault) :
    (r.setFault now f).faultSet f = true := by
  unfold Registers.setFault
  split
  · assumption
  · cases f <;> simp [Registers.faultSet, Registers.latch, StickyFault.index]

/-- With every port idle, the drain limit leaves the part quiet (R44, R61). -/
theorem Stage.drainLimit_isQuiet {st : Stage} (h : ∀ p : Fin 6, st.ports[p].tx = .idle) :
    st.drainLimit.isQuiet = true := by
  refine (Stage.isQuiet_iff _).2 ⟨fun k => by simp [Stage.drainLimit, Stage.reset], fun q => ?_⟩
  have hq : st.drainLimit.ports[q] = st.ports[q].discard := by simp [Stage.drainLimit]
  rw [hq, ModulePort.discard, h q]
  rfl

/-- The drain limit (R44, R61, R189). -/
theorem State.drainLimit_outcome {s : State} {m : Word} (hready : s.isReady = true)
    (hstate : s.dev.engine.state = .draining) (hleft : s.dev.stage.isQuiet = false)
    (hat : s.dev.engine.drainAt = some m) (hm : reached s.dev.now m = true) :
    ∃ t, exec .drainLimit s = .next t
      ∧ (∀ k : Fin 128, t.dev.stage.voices[k] = none) ∧ t.dev.stage.deferrals = []
      ∧ t.dev.stage.ports = s.dev.stage.ports.map ModulePort.discard
      ∧ t.dev.regs.faultSet .drain = true ∧ t.dev.engine.drainAt = none
      ∧ (s.dev.jw.queue = [] ∨ t.dev.engine.state = .draining → FaultRaised .drain s t)
      ∧ ((∀ p : Fin 6, s.dev.stage.ports[p].tx = .idle) → s.dev.engine.restart = false →
          t.dev.engine.state = .offline ∧ t.dev.jw.queue = [] ∧ t.drains = s.drains + 1 ∧ PageCaused s t) := by
  obtain ⟨hr, hen, -, -⟩ := State.isReady_spec hready
  have hrun : s.dev.engine.state.isRunning = true := by rw [hstate]; rfl
  have hdue : s.dev.drainLimitDue = true := by
    rw [Device.drainLimitDue, hstate, hat, hleft]
    simp [timerDue, hm]
  let d := s.dev.beginEvent.drainLimit
  have hstage : (s.settle d s.mem).dev.stage = { s.dev.stage.drainLimit with entries := [] } := State.settle_stage _ _ _
  refine ⟨s.settle d s.mem, State.event_settles hr hdue rfl, fun k => ?_, by rw [hstage]; rfl, by rw [hstage]; rfl, ?_⟩
  · rw [hstage]
    simp [Stage.drainLimit, Stage.reset]
  have hset : d.regs.faultSet .drain = true := Registers.setFault_sets _ _ _
  have hidle (h : ∀ p : Fin 6, s.dev.stage.ports[p].tx = .idle) : d.drainOver = true := by
    have hengine : d.engine.state = .draining := hstate
    have hquiet : d.stage.isQuiet = true := Stage.drainLimit_isQuiet h
    rw [Device.drainOver, hengine, hquiet]
    rfl
  cases hover : d.drainOver with
  | false =>
    have hs := State.settle_eq (s := s) s.mem hover
    have hregs : (s.settle d s.mem).dev.regs = d.regs := (State.settle_regs s d s.mem).2.2 hover
    refine ⟨hregs ▸ hset, by rw [hs]; rfl, fun _ => .of_setFault hregs, fun h => ?_⟩
    cases hover.symm.trans (hidle h)
  | true =>
    obtain ⟨page, hs⟩ := State.settle_over (s := s) hover s.mem
    have hspec := Device.takeAll_spec (d.afterHanding s.dev.engine.state)
      { mem := s.mem, bus := Config.drainBus s.drains }
    have hkept : (s.drainTaken d s.mem).1.regs.faultSet .drain = true := hspec.kept .drain hset
    refine ⟨by rw [hs]; exact hkept, by rw [hs]; rfl, fun h => ?_, fun _ hrestart => ⟨?_, ?_, by rw [hs],
      PageCaused.of_settle_over hover s.mem hrun hrestart rfl⟩⟩
    · have hqueue : s.dev.jw.queue = [] := h.resolve_right (by
        rw [hs]
        simp only [Engine.drained]
        split <;> decide)
      have hempty : (d.afterHanding s.dev.engine.state).jw.queue = [] :=
        (congrArg JournalWriter.queue (Device.afterHanding_jw (d := d) rfl hen)).trans hqueue
      have hregs : (s.drainTaken d s.mem).1.regs = d.regs := by
        rw [State.drainTaken, Device.takeAll_of_nil hempty]
        rfl
      obtain ⟨hfaults, hcauses⟩ : FaultRaised .drain s { s with dev := d } := .of_setFault rfl
      rw [hs]
      exact ⟨(congrArg Registers.faults hregs).trans hfaults, (congrArg Registers.causes hregs).trans hcauses⟩
    · rw [hs]
      exact if_neg (fun h => by cases hrestart.symm.trans h)
    · rw [hs]
      exact hspec.queue.1

/-- Settles O59: the ends of a drain, and the taking of an entry while something is left to send. -/
theorem drainEnds : Obligations.DrainEnds := by
  intro s hr hstate
  refine ⟨fun hquiet hen => State.drainEnd_outcome hr (by rw [Device.drainOver, hquiet, hstate]; rfl) hen,
    fun p m e hready hrestart => State.lastFrame_outcome hready hstate hrestart,
    fun bus h rest hready hqueue => State.entryTaken_outcome bus hready hstate hqueue, fun m hready hleft hat hm => ?_⟩
  · exact State.drainLimit_outcome hready hstate hleft hat hm

end Sys2Proof.Machine
end

section
/-! The bounds of the module ports' lists (R46 to R50) and of the completion retry list (R173): what each operation on the
stage, and then each command's work on the part, keeps of them. -/
namespace Sys2Proof.Machine

open Sys2Proof

/-! ## Bounds of the stage -/

/-- If every list of every module port is within its length before, it is so after (R46). -/
def Stage.KeepsBounds (st st' : Stage) : Prop :=
  (∀ p : Fin 6, st.ports[p].within = true) → ∀ p : Fin 6, st'.ports[p].within = true

/-- Nothing done is within the relation. -/
theorem Stage.KeepsBounds.refl (st : Stage) : st.KeepsBounds st := id

/-- The relation composes. -/
theorem Stage.KeepsBounds.trans {a b c : Stage} (h : a.KeepsBounds b) (h' : b.KeepsBounds c) : a.KeepsBounds c :=
  h' ∘ h

/-- A fold of operations within the relation. -/
theorem Stage.KeepsBounds.foldl {α : Type} {f : Stage → α → Stage} (hf : ∀ (st : Stage) a, st.KeepsBounds (f st a))
    (as : List α) (st : Stage) : st.KeepsBounds (as.foldl f st) := by
  induction as generalizing st with
  | nil => exact .refl st
  | cons a as ih => exact (hf st a).trans (ih _)

/-- Ports left as they were keep their bounds. -/
theorem Stage.KeepsBounds.ofPorts {st st' : Stage} (h : st'.ports = st.ports) : st.KeepsBounds st' := by
  intro hw
  rw [h]
  exact hw

/-- Releases, cuts and offers keep the bounds. -/
theorem Stage.Releases.keepsBounds {st st' : Stage} (h : st.Releases st') : st.KeepsBounds st' := h.within

/-- A change of one port that keeps its bounds. -/
theorem Stage.modifyPort_keepsBounds (st : Stage) (p : Fin 6) {f : ModulePort → ModulePort}
    (hf : st.ports[p].within = true → (f st.ports[p]).within = true) : st.KeepsBounds (st.modifyPort p f) := by
  intro hw q
  rw [Stage.modifyPort_ports, getElem_vecModify]
  split
  · rename_i h
    exact h ▸ hf (hw p)
  · exact hw q

/-- The release of an entry. -/
theorem Stage.releaseVoice_keepsBounds (st : Stage) (k : Fin 128) : st.KeepsBounds (st.releaseVoice k) :=
  (Stage.releaseRecords_releases (st.modifyVoice k _) _).keepsBounds

/-- Releases of entries. -/
theorem Stage.releaseVoices_keepsBounds (st : Stage) (ks : List (Fin 128)) : st.KeepsBounds (st.releaseVoices ks) :=
  .foldl releaseVoice_keepsBounds ks st

/-- RELEASE_ALL (R41). -/
theorem Stage.releaseAll_keepsBounds (st : Stage) : st.KeepsBounds st.releaseAll :=
  (releaseVoices_keepsBounds { st with dampers := _, deferrals := [] } _).trans
    (endDeferralsByCut_releases _ _).keepsBounds

/-! ### Arrivals (R33 to R39) -/

/-- The offer of a candidate (R35). -/
theorem Stage.offerCandidate_keepsBounds (k : Fin 128) (st : Stage) (c : Candidate) :
    st.KeepsBounds (st.offerCandidate k c) := by
  have offered := ((st.endDestByCut_releases c.key.dest).trans
    (offerNonRelease_releases _ c.key.dest.port c.message)).keepsBounds
  unfold offerCandidate
  dsimp only
  split
  · exact offered.trans (.ofPorts rfl)
  · exact offered

/-- The claim of a place and the offers of its candidates (R34, R35). -/
theorem Stage.claimedAndOffered_keepsBounds (st : Stage) (cs : List Candidate) (src : Source) (vel : BitVec 7)
    (k : Fin 128) : st.KeepsBounds (st.claimedAndOffered cs src vel k) :=
  .foldl (f := candidateOffered k) (fun st c => st.offerCandidate_eq k c ▸ st.offerCandidate_keepsBounds k c) cs
    (st.setVoice k _)

/-- KEY_DOWN (R33 to R35). -/
theorem Stage.keyDown_keepsBounds (st : Stage) (zones : List Zone) (src : Source) (vel : BitVec 7) :
    st.KeepsBounds (st.keyDown zones src vel) := by
  have retriggered : st.KeepsBounds (st.retriggered src) := by
    unfold retriggered
    split
    · exact .refl st
    · exact st.releaseVoice_keepsBounds _
  rw [Stage.keyDown_eq]
  refine retriggered.trans ?_
  split
  · exact .ofPorts rfl
  · split
    · exact .ofPorts rfl
    · rename_i k _
      have offered := (st.retriggered src).claimedAndOffered_keepsBounds (candidates zones src vel) src vel k
      generalize (st.retriggered src).claimedAndOffered (candidates zones src vel) src vel k = st' at offered ⊢
      refine offered.trans (.ofPorts ?_)
      simp only [emit_ports, freeIfEmpty]
      split <;> rfl

/-- KEY_UP (R36). -/
theorem Stage.keyUp_keepsBounds (st : Stage) (src : Source) (vel : BitVec 7) : st.KeepsBounds (st.keyUp src vel) := by
  unfold keyUp
  split
  · exact .ofPorts rfl
  · dsimp only
    split
    · exact .ofPorts rfl
    · exact st.releaseVoice_keepsBounds _

/-- A damper's level set (R37, R38). -/
theorem Stage.setDamper_keepsBounds (st : Stage) (port : Fin 4) (channel : BitVec 4) (down : Bool) :
    st.KeepsBounds (st.setDamper port channel down) := by
  have level : st.KeepsBounds (st.withDamper port channel down) := .ofPorts rfl
  rw [setDamper_eq]
  split
  · exact level
  · exact level.trans (releaseVoices_keepsBounds _ _)

/-- A damper pedal's edge (R38). -/
theorem Stage.setDampers_keepsBounds (st : Stage) (mask : BitVec 4) (down : Bool) :
    st.KeepsBounds (st.setDampers mask down) :=
  .foldl (f := fun st p => (List.finRange 16).foldl (fun st c => st.setDamper p (BitVec.ofFin c) down) st)
    (fun st p => .foldl (f := fun st c => st.setDamper p (BitVec.ofFin c) down)
      (fun st c => st.setDamper_keepsBounds p (BitVec.ofFin c) down) _ st) _ st

/-- CONTROL (R39). -/
theorem Stage.passControl_keepsBounds (st : Stage) (zones : List Zone) (port : Fin 4) (m : Message) :
    st.KeepsBounds (st.passControl zones port m) := by
  have offers (st : Stage) (d : Dest) :
      st.KeepsBounds (st.offerNonRelease d.port { m with kind := .control, channel := d.channel }) :=
    (st.offerNonRelease_releases _ _).keepsBounds
  exact .foldl offers _ st

/-! ### Frame completions (R53, R54), the drain limit (R61) and ONLINE entry (R59) -/

/-- The backlog's moves keep both lists within their lengths: the main queue grows only below 32 (R54). -/
theorem backlogMoves_within (n : Nat) (main backlog : List Message) (hm : main.length ≤ 32)
    (hb : backlog.length ≤ 16) :
    (backlogMoves n main backlog).1.length ≤ 32 ∧ (backlogMoves n main backlog).2.length ≤ 16 := by
  induction n generalizing main backlog with
  | zero => exact ⟨hm, hb⟩
  | succ n ih =>
    unfold backlogMoves
    cases backlog with
    | nil => exact ⟨hm, hb⟩
    | cons m rest =>
      dsimp only
      split
      · rename_i h
        have hroom : main.length < 32 := h
        exact ih _ _ (by simpa using hroom) (by simp only [List.length_cons] at hb; omega)
      · exact ⟨hm, hb⟩

/-- The backlog moves within the bounds. -/
theorem ModulePort.moveBacklog_within (mp : ModulePort) (now : Word) (h : mp.within = true) :
    (mp.moveBacklog now).within = true := by
  obtain ⟨hmain, hbacklog, hlane⟩ := mp.within_iff.1 h
  obtain ⟨hmain', hbacklog'⟩ := backlogMoves_within mp.backlog.length mp.main mp.backlog hmain hbacklog
  exact (ModulePort.within_iff _).2 ⟨hmain', hbacklog', hlane⟩

/-- Picking a frame moves no message. -/
theorem ModulePort.pickFrame_within (mp : ModulePort) (now : Word) : (mp.pickFrame now).within = mp.within := rfl

/-- A main-queue frame's completion (R54). -/
theorem Stage.mainFrameDone_keepsBounds (st : Stage) (p : Fin 6) : st.KeepsBounds (st.mainFrameDone p) := by
  unfold mainFrameDone
  dsimp only
  refine ((st.modifyPort_keepsBounds p fun h => ?_).trans (retryOwed_releases _ p).keepsBounds).trans
    (modifyPort_keepsBounds _ p fun h => ModulePort.moveBacklog_within _ st.clock h)
  obtain ⟨hmain, hbacklog, hlane⟩ := (ModulePort.within_iff _).1 h
  exact (ModulePort.within_iff _).2 ⟨by rw [List.length_tail]; omega, hbacklog, hlane⟩

/-- A lane frame's completion (R53). -/
theorem Stage.laneFrameDone_keepsBounds (st : Stage) (p : Fin 6) : st.KeepsBounds (st.laneFrameDone p) := by
  refine st.modifyPort_keepsBounds p fun h => ?_
  obtain ⟨hmain, hbacklog, hlane⟩ := (ModulePort.within_iff _).1 h
  exact (ModulePort.within_iff _).2 ⟨hmain, hbacklog,
    show (List.tail _).length ≤ 8 by rw [List.length_tail]; omega⟩

/-- What a drain limit keeps of a port is within the bounds (R61). -/
theorem ModulePort.discard_within (mp : ModulePort) : mp.discard.within = true := by
  unfold discard
  split <;> simp [within_iff]

/-- The drain limit (R61). -/
theorem Stage.drainLimit_keepsBounds (st : Stage) : st.KeepsBounds st.drainLimit := fun _ p => by
  simpa [drainLimit] using ModulePort.discard_within st.ports[p]

/-- ONLINE entry empties the ports (R59). -/
theorem Stage.enter_keepsBounds (st : Stage) (h : List Byte) : st.KeepsBounds (st.enter h) := fun _ p => by
  simp [enter, ModulePort.reset, ModulePort.within]

/-- The reload of the polarities moves no message (R57). -/
theorem Stage.reloadPolarities_keepsBounds (st : Stage) (b : Nat) : st.KeepsBounds (st.reloadPolarities b) :=
  .foldl (fun st p => st.modifyPort_keepsBounds p fun h => by
    unfold ModulePort.reloadPolarity
    split <;> exact h) _ st

/-! ### Switches (R129 to R131) -/

/-- The spill of a switch. -/
theorem Stage.spill_keepsBounds (st : Stage) (sc : SceneCopy) (activation : BitVec 16) :
    st.KeepsBounds (st.spill sc activation) := by
  have discarded : st.KeepsBounds st.discardDeferrals := .ofPorts (by rw [Stage.discardDeferrals_eq])
  have cuts : st.KeepsBounds (sc.touched.foldl (fun st x => st.cut x) st.discardDeferrals) :=
    discarded.trans (.foldl (fun st x => (st.cut_releases x).keepsBounds) _ _)
  unfold spill
  dsimp only
  split
  · exact discarded
  · exact cuts
  · split
    · exact cuts
    · exact discarded

/-- The entry messages of a switch. -/
theorem Stage.sendEntryMessages_keepsBounds (st : Stage) (sc : SceneCopy) : st.KeepsBounds (st.sendEntryMessages sc) :=
  .foldl (fun st (e : EntryMessage) => (st.offerEntry_releases e.port e.msg).keepsBounds) _ st

/-! ### Click notes (R107 to R113) -/

/-- The end of a click note. -/
theorem endNote_releases (n : Fin 4) (l : ClickLine) (st : Stage) : st.Releases (endNote n l st).2 := by
  unfold endNote
  split
  · exact .refl st
  · exact st.offerClick_releases _ _ _

/-- The end of the pulse of an ACTIVE line. -/
theorem endActive_releases (n : Fin 4) (l : ClickLine) (st : Stage) : st.Releases (endActive n l st).2 := by
  unfold endActive
  split
  · exact endNote_releases n _ st
  · exact .refl st

/-- A click that sounds. -/
theorem soundClick_releases (n : Fin 4) (accent : Bool) (l : ClickLine) (st : Stage) :
    st.Releases (soundClick n accent l st).2 := by
  unfold soundClick beginNote
  dsimp only
  split
  · exact endNote_releases n l st
  · exact (endNote_releases n l st).trans (Stage.offerClick_releases _ _ _ _)

/-- A click line's tick. -/
theorem takeClickTick_releases (mute : Bool) (tr : Transport) (beat tick : Nat) (n : Fin 4) (l : ClickLine) (st : Stage) :
    st.Releases (takeClickTick mute tr beat tick n l st).2 := by
  unfold takeClickTick
  dsimp only
  split
  · exact soundClick_releases _ _ _ _
  · exact .refl st

/-- A click line's setup reloaded. -/
theorem reloadLine_releases (setup : ClickSetup) (n : Fin 4) (l : ClickLine) (st : Stage) :
    st.Releases (reloadLine setup n l st).2 := by
  unfold reloadLine
  dsimp only
  split
  · exact endActive_releases n l st
  · exact .refl st

/-- What every click line's work does to the stage, all of them do in turn. -/
theorem Device.onLines_stage {R : Stage → Stage → Prop} (hrefl : ∀ st, R st st)
    (htrans : ∀ a b c, R a b → R b c → R a c) {f : Fin 4 → ClickLine → Stage → ClickLine × Stage}
    (hf : ∀ n l st, R st (f n l st).2) (d : Device) : R d.stage (d.onLines f).stage := by
  unfold onLines
  generalize List.finRange 4 = ns
  induction ns generalizing d with
  | nil => exact hrefl _
  | cons n ns ih => exact htrans _ _ _ (hf n _ _) (ih (d.onLine n (f n)))

/-- The work of the click lines releases or offers, when that of each does. -/
theorem Device.onLines_releases {f : Fin 4 → ClickLine → Stage → ClickLine × Stage}
    (hf : ∀ n l (st : Stage), st.Releases (f n l st).2) (d : Device) : d.stage.Releases (d.onLines f).stage :=
  d.onLines_stage Stage.Releases.refl (fun _ _ _ => Stage.Releases.trans) hf

end Sys2Proof.Machine
end

section
/-! The work of the tempo generator, of the feeders and of the change unit, as the module ports and the completion retry
list see it. -/
namespace Sys2Proof.Machine

open Sys2Proof

/-! ## The tempo record's work leaves the module ports -/

/-- A tempo made current. -/
@[simp] theorem Device.makeCurrent_ports (d : Device) (v : Nat) (cause : TempoCause) :
    (d.makeCurrent v cause).stage.ports = d.stage.ports := by
  unfold makeCurrent
  dsimp only
  split <;> rfl

/-- A pending tempo made current. -/
@[simp] theorem Device.applyPendingTempo_ports (d : Device) : d.applyPendingTempo.stage.ports = d.stage.ports := by
  unfold applyPendingTempo
  split
  · rfl
  · exact makeCurrent_ports _ _ _

/-- A glide cancelled. -/
@[simp] theorem Device.cancelGlide_ports (d : Device) : d.cancelGlide.stage.ports = d.stage.ports := by
  unfold cancelGlide
  split <;> rfl

/-- A pending tempo written. -/
@[simp] theorem Device.writePendingTempo_ports (d : Device) (v : Nat) (cause : TempoCause) :
    (d.writePendingTempo v cause).stage.ports = d.stage.ports := by
  unfold writePendingTempo
  dsimp only
  split <;> simp

/-- A tempo written with its glide length. -/
@[simp] theorem Device.writeTempo_ports (d : Device) (v g : Nat) (cause : TempoCause) :
    (d.writeTempo v g cause).stage.ports = d.stage.ports := by
  unfold writeTempo writeGlide
  split
  · simp
  · split <;> simp

/-- The source set. -/
@[simp] theorem Device.setSource_ports (d : Device) (src : TempoSource) :
    (d.setSource src).stage.ports = d.stage.ports := by
  unfold setSource
  split
  · rfl
  · cases src <;> simp

/-- A beat boundary at the tempo record. -/
@[simp] theorem Device.beatWork_ports (d : Device) : d.beatWork.stage.ports = d.stage.ports := by
  unfold beatWork
  split
  · simp
  · unfold stepGlide
    dsimp only
    split <;> simp
  · unfold followRead
    split
    · split
      · split <;> simp
      · rfl
    · rfl

/-- A tick that begins at the tempo generator. -/
@[simp] theorem Device.startTick_ports (d : Device) : d.startTick.stage.ports = d.stage.ports := by
  unfold startTick
  dsimp only
  split <;> split <;> simp

/-- A tick's length that has passed. -/
@[simp] theorem Device.advanceTick_ports (d : Device) : d.advanceTick.stage.ports = d.stage.ports := by
  unfold advanceTick
  split
  · rfl
  · split <;> simp

/-- Entry to STOPPED at the tempo generator. -/
@[simp] theorem Device.stopTempo_ports (d : Device) (cause : TransportCause) :
    (d.stopTempo cause).stage.ports = d.stage.ports := by
  unfold stopTempo
  split <;> simp

/-! ## The lists of a part within their bounds -/

/-- The lists of every module port are within their lengths, and the completion retry list holds at most one for each
slot (R46, R173). -/
def Device.queuesWithin (d : Device) : Prop :=
  (∀ p : Fin 6, d.stage.ports[p].within = true)
    ∧ d.req.retries.Pairwise fun r r' => r.completion.slot ≠ r'.completion.slot

/-- Work on a part that keeps those bounds. -/
def Device.KeepsQueues (d d' : Device) : Prop := d.queuesWithin → d'.queuesWithin

/-- The bounds of a machine are those of its part. -/
theorem State.queuesWithin_iff (s : State) : s.queuesWithin ↔ s.dev.queuesWithin := Iff.rfl

/-- Nothing done is within the relation. -/
theorem Device.KeepsQueues.refl (d : Device) : d.KeepsQueues d := id

/-- The relation composes. -/
theorem Device.KeepsQueues.trans {a b c : Device} (h : a.KeepsQueues b) (h' : b.KeepsQueues c) : a.KeepsQueues c :=
  h' ∘ h

/-- Work that keeps the bounds of the stage and leaves the retry list. -/
theorem Device.KeepsQueues.ofStage {d d' : Device} (hs : d.stage.KeepsBounds d'.stage)
    (hr : d'.req.retries = d.req.retries) : d.KeepsQueues d' := fun h => ⟨hs h.1, hr ▸ h.2⟩

/-- Work that leaves the module ports and the retry list. -/
theorem Device.KeepsQueues.ofPorts {d d' : Device} (hs : d'.stage.ports = d.stage.ports)
    (hr : d'.req.retries = d.req.retries) : d.KeepsQueues d' := .ofStage (.ofPorts hs) hr

/-- A fold of operations within the relation. -/
theorem Device.KeepsQueues.foldl {α : Type} {f : Device → α → Device} (hf : ∀ (d : Device) a, d.KeepsQueues (f d a))
    (as : List α) (d : Device) : d.KeepsQueues (as.foldl f d) := by
  induction as generalizing d with
  | nil => exact .refl d
  | cons a as ih => exact (hf d a).trans (ih _)

/-- Work on the stage alone. -/
theorem Device.onStage_keepsQueues (d : Device) {f : Stage → Stage} (hf : ∀ st : Stage, st.KeepsBounds (f st)) :
    d.KeepsQueues (d.onStage f) := .ofStage (hf d.stage) rfl

/-- Work of the tempo generator and the click unit that keeps the bounds of the stage. -/
theorem Device.OnlyPlays.keepsQueues {d d' : Device} (h : d.OnlyPlays d') (hs : d.stage.KeepsBounds d'.stage) :
    d.KeepsQueues d' := .ofStage hs (by rw [h.frame])

/-- Click lines whose work on the stage releases or offers. -/
theorem Device.onLines_keepsQueues (d : Device) {f : Fin 4 → ClickLine → Stage → ClickLine × Stage}
    (hf : ∀ n l (st : Stage), st.Releases (f n l st).2)
    (hr : ∀ n l st, (f n l st).2 = { st with ports := (f n l st).2.ports, entries := (f n l st).2.entries }) :
    d.KeepsQueues (d.onLines f) := .ofStage (d.onLines_releases hf).keepsBounds (by rw [d.onLines_frame f hr])

/-- An entry handed. -/
theorem Device.emit_keepsQueues (d : Device) (e : Entry) : d.KeepsQueues (d.emit e) := .ofPorts rfl rfl

/-- A completion given is no retry. -/
theorem Device.complete_keepsQueues (d : Device) (slot : Fin 8) (tag : Word) (code : ResultCode) (value : Word) :
    d.KeepsQueues (d.complete slot tag code value) := .ofPorts rfl rfl

/-- A request completed. -/
theorem Device.answer_keepsQueues (d : Device) (r : Request) (code : ResultCode) (value : Nat) :
    d.KeepsQueues (d.answer r code value) := d.complete_keepsQueues _ _ _ _

/-- A cue completed (R117). -/
theorem Device.completeCue_keepsQueues (d : Device) (o : CueOrigin) (code : ResultCode) (value : Nat) :
    d.KeepsQueues (d.completeCue o code value) := by
  rw [d.completeCue_eq (s := { State.reset with dev := d }) rfl rfl]
  exact .ofPorts rfl rfl

/-- A go completed (R133). -/
theorem Device.completeGo_keepsQueues (d : Device) (g : Option GoFlight) (code : ResultCode) (value : Nat) :
    d.KeepsQueues (d.completeGo g code value) := by
  rw [d.completeGo_eq (s := { State.reset with dev := d }) rfl rfl]
  exact .ofPorts rfl rfl

/-! ## Ticks and clicks (R64, R66, R104, R112) -/

/-- The click unit's tick. -/
theorem Device.clickTick_keepsQueues (d : Device) : d.KeepsQueues d.clickTick :=
  d.onLines_keepsQueues (takeClickTick_releases _ _ _ _) (takeClickTick_frame _ _ _ _)

/-- The click unit's stop. -/
theorem Device.clickStop_keepsQueues (d : Device) : d.KeepsQueues d.clickStop :=
  d.onLines_keepsQueues endActive_releases endActive_frame

/-- A tick that begins. -/
theorem Device.beginTick_keepsQueues (d : Device) : d.KeepsQueues d.beginTick := by
  have start : d.stage.KeepsBounds d.startTick.stage := .ofPorts d.startTick_ports
  exact d.beginTick_onlyPlays.keepsQueues
    (start.trans (d.startTick.onLines_releases (takeClickTick_releases _ _ _ _)).keepsBounds)

/-- The start of the transport. -/
theorem Device.startTransport_keepsQueues (d : Device) (bars : Nat) (cause : TransportCause) :
    d.KeepsQueues (d.startTransport bars cause) := by
  unfold startTransport
  split
  all_goals
    refine KeepsQueues.trans ?_ (beginTick_keepsQueues _)
    exact .ofPorts rfl rfl

/-- Entry to STOPPED at the tempo generator. -/
theorem Device.stopTempo_onlyPlays (d : Device) (cause : TransportCause) : d.OnlyPlays (d.stopTempo cause) := by
  unfold stopTempo
  split
  · exact .refl d
  · exact (((d.onTempo_onlyPlays _).trans (emit_onlyPlays _ _)).trans (applyPendingTempo_onlyPlays _)).trans
      (onTempo_onlyPlays _ _)

/-- A tick's length that has passed. -/
theorem Device.advanceTick_onlyPlays (d : Device) : d.OnlyPlays d.advanceTick := by
  unfold advanceTick
  split
  · exact d.onTempo_onlyPlays _
  · split
    · exact d.onTempo_onlyPlays _
    · exact (d.onTempo_onlyPlays _).trans (emit_onlyPlays _ _)

/-! ## Switches (R122, R126 to R133) -/

/-- The timing stage of a switch. -/
theorem Device.handTiming_keepsQueues (d : Device) (sc : SceneCopy) : d.KeepsQueues (d.handTiming sc) := by
  have settings : d.KeepsQueues
      (((d.onTempo (·.handMeter sc.meter)).handClick sc.subdivisions sc.accents).setSource sc.source) :=
    KeepsQueues.trans (b := (d.onTempo (·.handMeter sc.meter)).handClick sc.subdivisions sc.accents)
      (onLines_keepsQueues (d.onTempo (·.handMeter sc.meter)) (fun _ _ st => .refl st) (fun _ _ _ => rfl))
      ((setSource_onlyPlays _ _).keepsQueues (.ofPorts (setSource_ports _ _)))
  unfold handTiming
  dsimp only
  generalize (((d.onTempo (·.handMeter sc.meter)).handClick sc.subdivisions sc.accents).setSource sc.source)
    = d2 at settings
  have tempo : d.KeepsQueues (if sc.tempo = 0 then d2
      else if sc.source = .follow then d2.emit (.tempoIgnored sc.number sc.tempo)
      else d2.writeTempo sc.tempo sc.glideBeats .scene) := by
    split
    · exact settings
    · split
      · exact settings.trans (.ofPorts rfl rfl)
      · exact settings.trans ((d2.writeTempo_onlyPlays _ _ _).keepsQueues (.ofPorts (d2.writeTempo_ports _ _ _)))
  generalize (if sc.tempo = 0 then d2 else _) = d3 at tempo ⊢
  split
  · exact tempo.trans (startTransport_keepsQueues _ _ _)
  · exact tempo

/-- A switch, by its six stages. -/
theorem Device.switchTo_keepsQueues (d : Device) (sc : SceneCopy) (moment : Moment) :
    d.KeepsQueues (d.switchTo sc moment) := by
  let d1 := d.onChange (·.activate sc (sc.zones ++ carriedZones sc d.overrideHeld d.change.zones))
  have carried : d.KeepsQueues (d1.onStage (·.emitAll (carryEntries sc d.overrideHeld d.change.zones))) :=
    .ofPorts (by rw [onStage_stage, Stage.emitAll_eq]; rfl) rfl
  have spilt := carried.trans (onStage_keepsQueues _ fun st => st.spill_keepsBounds sc d1.change.activation)
  have sent := spilt.trans (onStage_keepsQueues _ fun st => st.sendEntryMessages_keepsBounds sc)
  have timed := sent.trans (handTiming_keepsQueues _ sc)
  exact (timed.trans (emit_keepsQueues _ _)).trans (completeGo_keepsQueues _ d.change.go .ok d1.change.activation.toNat)

/-- The switch of the pending copy. -/
theorem Device.makeSwitch_keepsQueues (d : Device) (moment : Moment) : d.KeepsQueues (d.makeSwitch moment) := by
  unfold makeSwitch
  split
  · exact .refl d
  · exact d.switchTo_keepsQueues _ _

/-- An arming. -/
theorem Device.arm_keepsQueues (d : Device) : d.KeepsQueues d.arm := by
  unfold arm
  split
  · exact .refl d
  · split
    · exact d.switchTo_keepsQueues _ _
    · split
      · exact d.switchTo_keepsQueues _ _
      · exact .ofPorts rfl rfl

/-- A boundary at the change unit. -/
theorem Device.changeBoundary_keepsQueues (d : Device) : d.KeepsQueues d.changeBoundary := by
  have switches (due : Bool) (m : Moment) : d.KeepsQueues (if due then d.makeSwitch m else d) := by
    split
    · exact d.makeSwitch_keepsQueues m
    · exact .refl d
  unfold changeBoundary
  split
  · split <;> exact switches _ _
  · exact .refl d

/-- A stop at the change unit. -/
theorem Device.changeStop_keepsQueues (d : Device) : d.KeepsQueues d.changeStop := by
  unfold changeStop
  split
  · exact d.makeSwitch_keepsQueues _
  · exact .refl d

end Sys2Proof.Machine
end

section
/-! Every command keeps the bounds of the module ports' lists and of the completion retry list (R46, R48, R173). -/
namespace Sys2Proof.Machine

open Sys2Proof

/-! ## Copies and cancels (R12 to R19, R117, R118, R125, R141) -/

/-- A failure of the memory port is reported by a fault and an entry. -/
theorem Device.memoryFailure_keepsQueues (d : Device) (off : Nat) (user : MemoryUser) :
    d.KeepsQueues (d.memoryFailure off user) := .ofPorts rfl rfl

/-- A copy that formed. -/
theorem Device.copyFormed_keepsQueues (d : Device) (ld : Load) (sc : SceneCopy) : d.KeepsQueues (d.copyFormed ld sc) := by
  have taken : d.KeepsQueues (((d.onChange fun c => { c with load := none }).completeCue ld.origin .ok sc.clamps).emit
      (.cueTaken sc.headCount .ok sc.clamps ld.origin (some sc.number) ld.position)) :=
    (completeCue_keepsQueues (d.onChange fun c => { c with load := none }) _ _ _).trans (emit_keepsQueues _ _)
  unfold copyFormed
  dsimp only
  generalize Device.emit _ _ = d1 at taken ⊢
  split
  · split
    · exact taken.trans (.ofPorts rfl rfl)
    · exact taken.trans (arm_keepsQueues (d1.onChange _))
  · exact taken.trans (.ofPorts rfl rfl)
  · exact taken

/-- A copy that failed. -/
theorem Device.copyFailed_keepsQueues (d : Device) (ld : Load) (code : ResultCode) (value : Nat) :
    d.KeepsQueues (d.copyFailed ld code value) := by
  rw [d.copyFailed_eq (s := { State.reset with dev := d }) rfl rfl rfl]
  exact .ofPorts rfl rfl

/-- A cue abandoned. -/
theorem Device.abandonCue_keepsQueues (d : Device) (code : ResultCode) : d.KeepsQueues (d.abandonCue code) := by
  unfold abandonCue
  split
  · exact .refl d
  · exact (completeCue_keepsQueues (d.onChange _) _ _ _).trans (emit_keepsQueues _ _)

/-- A change cancelled. -/
theorem Device.cancelChange_keepsQueues (d : Device) : d.KeepsQueues d.cancelChange :=
  ((d.abandonCue_keepsQueues _).trans (completeGo_keepsQueues _ _ _ _)).trans (.ofPorts rfl rfl)

/-- The change unit at a drain's begin. -/
theorem Device.drainChange_keepsQueues (d : Device) : d.KeepsQueues d.drainChange :=
  ((d.abandonCue_keepsQueues _).trans (completeGo_keepsQueues _ _ _ _)).trans (.ofPorts rfl rfl)

/-- A set list entry that was read. -/
theorem Device.setListRead_keepsQueues (d : Device) (rd : CopyRead) (p : Nat) (run : PortRun) :
    d.KeepsQueues (d.setListRead rd p run).1 := by
  have failed (off : Nat) : d.KeepsQueues ((d.onChange ChangeUnit.popRead).memoryFailure off .setListRead) :=
    .ofPorts rfl rfl
  have entry (ld : Load) (n : Nat) : d.KeepsQueues ((d.onChange ChangeUnit.popRead).setListEntryRead ld n) := by
    unfold setListEntryRead
    split
    · exact copyFailed_keepsQueues (d.onChange _) _ _ _
    · exact .ofPorts rfl rfl
  unfold setListRead
  dsimp only
  split
  · dsimp only
    split
    · exact failed _
    · exact (failed _).trans (copyFailed_keepsQueues _ _ _ _)
  · exact failed _
  · dsimp only
    split
    · exact .ofPorts rfl rfl
    · exact entry _ _
  · exact .ofPorts rfl rfl

/-- A scene record that was read. -/
theorem Device.sceneRecordRead_keepsQueues (d : Device) (ld : Load) (n : BitVec 7) (rec : List Byte) :
    d.KeepsQueues (d.sceneRecordRead ld n rec) := by
  unfold sceneRecordRead
  dsimp only
  split
  · unfold tornRead
    split
    · exact .ofPorts rfl rfl
    · exact d.copyFailed_keepsQueues _ _ _
  · split
    · exact d.copyFailed_keepsQueues _ _ _
    · exact d.copyFormed_keepsQueues _ _

/-- A scene read that completed. -/
theorem Device.sceneRead_keepsQueues (d : Device) (rd : CopyRead) (n : BitVec 7) (run : PortRun) :
    d.KeepsQueues (d.sceneRead rd n run).1 := by
  have failed (off : Nat) : d.KeepsQueues ((d.onChange ChangeUnit.popRead).memoryFailure off .sceneCopy) :=
    .ofPorts rfl rfl
  unfold sceneRead
  dsimp only
  split
  · dsimp only
    split
    · exact failed _
    · exact (failed _).trans (copyFailed_keepsQueues _ _ _ _)
  · exact failed _
  · dsimp only
    split
    · exact .ofPorts rfl rfl
    · exact sceneRecordRead_keepsQueues (d.onChange _) _ _ _
  · exact .ofPorts rfl rfl

/-! ## The feeders (R85 to R97) -/

/-- A computed tap tempo. -/
theorem Device.offerTap_keepsQueues (d : Device) (tTap : Nat) : d.KeepsQueues (d.offerTap tTap).1 := by
  have written (d : Device) : d.KeepsQueues (d.writePendingTempo tTap .tap) :=
    (d.writePendingTempo_onlyPlays _ _).keepsQueues (.ofPorts (d.writePendingTempo_ports _ _))
  unfold offerTap
  split
  · exact written d
  · split
    · exact d.emit_keepsQueues _
    · exact ((d.setSource_onlyPlays _).keepsQueues (.ofPorts (d.setSource_ports _))).trans (written _)

/-- A TAP press. -/
theorem Device.takeTap_keepsQueues (d : Device) : d.KeepsQueues d.takeTap.1 := by
  unfold takeTap
  split
  · exact .ofPorts rfl rfl
  · dsimp only
    split
    · exact .ofPorts rfl rfl
    · split
      · exact .ofPorts rfl rfl
      · refine KeepsQueues.trans ?_ (offerTap_keepsQueues _ _)
        exact .ofPorts rfl rfl

/-- An estimate of the sync follower. -/
theorem Device.setEstimate_keepsQueues (d : Device) (average : Nat) : d.KeepsQueues (d.setEstimate average) := by
  unfold setEstimate
  dsimp only
  split <;> exact .ofPorts rfl rfl

/-- An edge on SYNC. -/
theorem Device.takeEdge_keepsQueues (d : Device) : d.KeepsQueues d.takeEdge := by
  have gathered (i : Nat) : d.KeepsQueues (d.gatherEdge i) := by
    unfold gatherEdge syncLock
    dsimp only
    split
    · exact (setEstimate_keepsQueues (((d.onSync _).onSync _)) _).trans (.ofPorts rfl rfl)
    · exact .ofPorts rfl rfl
  have locked (i : Nat) : d.KeepsQueues (d.lockedEdge i) := by
    unfold lockedEdge
    dsimp only
    split
    · exact (setEstimate_keepsQueues (d.onSync _) _).trans (.ofPorts rfl rfl)
    · exact .ofPorts rfl rfl
  have accepted : d.KeepsQueues d.acceptEdge := by
    unfold acceptEdge
    dsimp only
    refine KeepsQueues.trans ?_ (.ofPorts (d := _) rfl rfl)
    split
    · exact .refl d
    · exact .ofPorts rfl rfl
    · exact .ofPorts rfl rfl
    · exact gathered _
    · exact locked _
  unfold takeEdge
  split
  · exact .refl d
  · split
    · exact accepted
    · split
      · exact .refl d
      · exact accepted

/-! ## Pedals (R144 to R152) -/

/-- A change of one pedal. -/
theorem Device.onPedal_keepsQueues (d : Device) (n : Fin 8) (f : Pedal → Pedal) : d.KeepsQueues (d.onPedal n f) :=
  .ofPorts rfl rfl

/-- The mute toggled (R111). -/
theorem Device.toggleMute_keepsQueues (d : Device) : d.KeepsQueues d.toggleMute := by
  have toggled : d.KeepsQueues { d with click := { d.click with mute := !d.click.mute } } := .ofPorts rfl rfl
  unfold toggleMute
  dsimp only
  split
  · exact toggled.trans (clickStop_keepsQueues _)
  · exact toggled

/-- A PANIC press (R150). -/
theorem Device.panicPress_keepsQueues (d : Device) : d.KeepsQueues d.panicPress.1 :=
  d.onStage_keepsQueues Stage.releaseAll_keepsBounds

/-- A NEXT or PREV press (R119). -/
theorem Device.stepPress_keepsQueues (d : Device) (n : Fin 8) (dir : Direction) :
    d.KeepsQueues (d.stepPress n dir).1 := by
  unfold stepPress
  split
  · exact d.emit_keepsQueues _
  · split <;> exact .ofPorts rfl rfl

/-- A GO press (R121). -/
theorem Device.goPress_keepsQueues (d : Device) (n : Fin 8) : d.KeepsQueues (d.goPress n).1 := by
  unfold goPress goReport
  split
  · split <;> exact .ofPorts rfl rfl
  · exact arm_keepsQueues (d.onChange _)
  all_goals exact d.emit_keepsQueues _

/-- A HOLD press (R123, R124). -/
theorem Device.holdPress_keepsQueues (d : Device) (n : Fin 8) : d.KeepsQueues (d.holdPress n).1 := by
  unfold holdPress goReport
  split
  · exact .ofPorts rfl rfl
  · split
    · exact d.emit_keepsQueues _
    · exact (d.emit_keepsQueues _).trans (arm_keepsQueues _)
  · exact d.emit_keepsQueues _

/-- A DAMPER edge (R149). -/
theorem Device.damperEdge_keepsQueues (d : Device) (n : Fin 8) (down : Bool) :
    d.KeepsQueues (d.damperEdge n down).1 :=
  d.onStage_keepsQueues fun st => st.setDampers_keepsBounds _ down

/-- A press or release, dispatched (R145, R146). -/
theorem Device.dispatchEdge_keepsQueues (d : Device) (n : Fin 8) (edge : PedalEdge) :
    d.KeepsQueues (d.dispatchEdge n edge).1 := by
  unfold dispatchEdge
  split
  · split
    · exact d.panicPress_keepsQueues
    · exact .refl d
  · cases edge with
    | press =>
      dsimp only [dispatchPress]
      split
      · exact d.stepPress_keepsQueues n .next
      · exact d.stepPress_keepsQueues n .prev
      · exact d.goPress_keepsQueues n
      · exact d.holdPress_keepsQueues n
      · exact d.takeTap_keepsQueues
      · exact .refl d
      · exact d.damperEdge_keepsQueues n true
      · exact d.toggleMute_keepsQueues
      · exact d.panicPress_keepsQueues
      · exact .refl d
    | release =>
      dsimp only [dispatchRelease]
      split
      · exact .refl d
      · exact d.damperEdge_keepsQueues n false
      all_goals exact .refl d

/-- An edge with its entry (R151). -/
theorem Device.pedalEdge_keepsQueues (d : Device) (n : Fin 8) (edge : PedalEdge) (cause : PedalCause) :
    d.KeepsQueues (d.pedalEdge n edge cause) := (d.dispatchEdge_keepsQueues n edge).trans (emit_keepsQueues _ _)

/-- The reload of the pedals (R152). -/
theorem Device.reloadPedals_keepsQueues (d : Device) (bs : List Byte) : d.KeepsQueues (d.reloadPedals bs) := by
  have one (d : Device) (n : Fin 8) : d.KeepsQueues (d.reloadPedal n (pedalSetupOf (pedalBytes bs n.val))) := by
    unfold reloadPedal
    split
    · exact d.onPedal_keepsQueues n _
    · refine KeepsQueues.trans ?_ (onPedal_keepsQueues _ n _)
      split
      · exact (d.onPedal_keepsQueues n _).trans (pedalEdge_keepsQueues _ n .release .reload)
      · exact .refl d
  exact .foldl one _ d

/-! ## The engine (R170, R187 to R189) -/

/-- ONLINE entry (R59, R183): the ports are emptied, and the retry list stands. -/
theorem Device.enterOnline_keepsQueues (d : Device) (h : List Byte) (page : Option (List Byte)) :
    d.KeepsQueues (d.enterOnline h page) := .ofStage (d.stage.enter_keepsBounds h) rfl

/-- A drain that begins (R188). -/
theorem Device.beginDrain_keepsQueues (d : Device) : d.KeepsQueues d.beginDrain := by
  let d0 : Device :=
    { d with
      engine := { d.engine with state := .draining, restart := false, drainAt := some (after d.now Config.drainTime) }
      keyPorts := Vector.replicate 4 KeyPort.reset }
  have begun : d.KeepsQueues d0 := .ofPorts rfl rfl
  have withdrawn := begun.trans d0.drainChange_keepsQueues
  have stopped := (withdrawn.trans ((stopTempo_onlyPlays _ .drain).keepsQueues (.ofPorts (stopTempo_ports _ _)))).trans
    ((cancelGlide_onlyPlays _).keepsQueues (.ofPorts (cancelGlide_ports _)))
  have told := (stopped.trans (clickStop_keepsQueues _)).trans (changeStop_keepsQueues _)
  exact (told.trans (onStage_keepsQueues _ Stage.releaseAll_keepsBounds)).trans (.ofPorts rfl rfl)

/-- A write to CONTROL (R186, R187). -/
theorem Device.writeControl_keepsQueues (d : Device) (v : Word) : d.KeepsQueues (d.writeControl v) := by
  let d' : Device := { d with regs := d.regs.writeControl v }
  have written : d.KeepsQueues d' := .ofPorts rfl rfl
  have set : d'.KeepsQueues d'.enableSet := by
    unfold enableSet
    split <;> exact .ofPorts rfl rfl
  have cleared : d'.KeepsQueues d'.enableCleared := by
    unfold enableCleared
    split
    · exact .ofPorts rfl rfl
    · exact d'.beginDrain_keepsQueues
    all_goals exact .ofPorts rfl rfl
  unfold writeControl
  dsimp only
  split
  · exact written.trans set
  · split
    · exact written.trans cleared
    · exact written

/-- The header read of LOADING (R170). -/
theorem Device.loadHeader_keepsQueues (d : Device) (run : PortRun) : d.KeepsQueues (d.loadHeader run).1 := by
  have page (h : List Byte) (run : PortRun) : d.KeepsQueues (d.loadPage h run).1 := by
    unfold loadPage
    split
    · exact KeepsQueues.trans (b := d.setFault .memory) (.ofPorts rfl rfl) (enterOnline_keepsQueues _ _ _)
    · exact d.enterOnline_keepsQueues _ _
  unfold loadHeader
  split
  · exact .ofPorts rfl rfl
  · split
    · exact .ofPorts rfl rfl
    · exact page _ _

/-- The header read of an abandoned LOADING (R187). -/
theorem Device.abandonedRead_keepsQueues (d : Device) (run : PortRun) : d.KeepsQueues (d.abandonedRead run).1 := by
  unfold abandonedRead
  dsimp only
  split <;> exact .ofPorts rfl rfl

end Sys2Proof.Machine
end

section
/-! Requests, completions and the machine: every step keeps the bounds of the queues (R46, R48, R173). -/
namespace Sys2Proof.Machine

open Sys2Proof

/-! ## Requests (R175, R176) -/

/-- The scan that goes on leaves the retry list (R175). -/
@[simp] theorem RequestUnit.endScan_retries (q : RequestUnit) : q.endScan.retries = q.retries := by
  unfold endScan
  split
  · split <;> rfl
  · rfl

/-- The scan that goes on leaves the retry list (R175). -/
@[simp] theorem RequestUnit.nextSlot_retries (q : RequestUnit) : q.nextSlot.retries = q.retries := endScan_retries _

/-- The scan going on. -/
theorem Device.nextSlot_keepsQueues (d : Device) : d.KeepsQueues (d.onReq RequestUnit.nextSlot) :=
  .ofPorts rfl (RequestUnit.nextSlot_retries _)

/-- A taken request, whose owner's work keeps the bounds. -/
theorem Device.carryOut_keepsQueues (d : Device) (r : Request) {body : Device → Device}
    (hb : ∀ d : Device, d.KeepsQueues (body d)) : d.KeepsQueues (d.carryOut r body) := by
  have begun : d.KeepsQueues (d.onReq RequestUnit.beginWork) := .ofPorts rfl rfl
  unfold carryOut
  dsimp only
  refine KeepsQueues.trans ?_ (nextSlot_keepsQueues _)
  split
  · exact begun.trans (hb _)
  · exact begun.trans (answer_keepsQueues _ _ _ _)

section Owners

variable (r : Request) (d : Device)

/-- CUE_SCENE. -/
theorem Device.cueSceneRequest_keepsQueues : d.KeepsQueues (Device.cueSceneRequest r d) := by
  unfold cueSceneRequest
  split
  · exact d.answer_keepsQueues _ _ _
  · split
    · exact .ofPorts rfl rfl
    · exact d.answer_keepsQueues _ _ _

/-- CUE_POSITION. -/
theorem Device.cuePositionRequest_keepsQueues : d.KeepsQueues (Device.cuePositionRequest r d) := by
  unfold cuePositionRequest
  split
  · exact d.answer_keepsQueues _ _ _
  · split
    · exact .ofPorts rfl rfl
    · exact d.answer_keepsQueues _ _ _

/-- GO. -/
theorem Device.goRequest_keepsQueues : d.KeepsQueues (Device.goRequest r d) := by
  unfold goRequest
  split
  · exact d.answer_keepsQueues _ _ _
  · split
    · exact .ofPorts rfl rfl
    · exact d.answer_keepsQueues _ _ _
  · exact arm_keepsQueues (d.onChange _)
  all_goals exact d.answer_keepsQueues _ _ _

/-- HOLD. -/
theorem Device.holdRequest_keepsQueues : d.KeepsQueues (Device.holdRequest r d) := by
  unfold holdRequest
  split
  · exact KeepsQueues.trans (b := d.holdArmed _ _) (.ofPorts rfl rfl) (answer_keepsQueues _ _ _ _)
  all_goals exact d.answer_keepsQueues _ _ _

/-- RESUME. -/
theorem Device.resumeRequest_keepsQueues : d.KeepsQueues (Device.resumeRequest r d) := by
  unfold resumeRequest
  split
  · exact d.answer_keepsQueues _ _ _
  · split
    · exact d.answer_keepsQueues _ _ _
    · exact ((d.answer_keepsQueues _ _ _).trans (emit_keepsQueues _ _)).trans (arm_keepsQueues _)
  · exact d.answer_keepsQueues _ _ _

/-- CANCEL. -/
theorem Device.cancelRequest_keepsQueues : d.KeepsQueues (Device.cancelRequest r d) := by
  unfold cancelRequest
  split
  · exact d.answer_keepsQueues _ _ _
  · exact d.cancelChange_keepsQueues.trans (answer_keepsQueues _ _ _ _)

/-- START. -/
theorem Device.startRequest_keepsQueues : d.KeepsQueues (Device.startRequest r d) := by
  unfold startRequest
  split
  · exact (d.startTransport_keepsQueues _ _).trans (answer_keepsQueues _ _ _ _)
  · exact d.answer_keepsQueues _ _ _

/-- STOP. -/
theorem Device.stopRequest_keepsQueues : d.KeepsQueues (Device.stopRequest r d) := by
  have stopped : d.KeepsQueues (d.stopTempo .request).clickStop.changeStop :=
    (((d.stopTempo_onlyPlays _).keepsQueues (.ofPorts (d.stopTempo_ports _))).trans (clickStop_keepsQueues _)).trans
      (changeStop_keepsQueues _)
  unfold stopRequest
  dsimp only
  refine KeepsQueues.trans ?_ (answer_keepsQueues _ _ _ _)
  split
  · exact .refl d
  · exact stopped

/-- LOCATE. -/
theorem Device.locateRequest_keepsQueues : d.KeepsQueues (Device.locateRequest r d) := by
  unfold locateRequest
  dsimp only
  split
  · exact d.answer_keepsQueues _ _ _
  · split <;> exact .ofPorts rfl rfl

/-- SET_TEMPO. -/
theorem Device.setTempoRequest_keepsQueues : d.KeepsQueues (Device.setTempoRequest r d) := by
  unfold setTempoRequest
  split
  · exact d.answer_keepsQueues _ _ _
  · exact ((d.writeTempo_onlyPlays _ _ _).keepsQueues (.ofPorts (d.writeTempo_ports _ _ _))).trans
      (answer_keepsQueues _ _ _ _)

/-- APPLY_SYNC. -/
theorem Device.applySyncRequest_keepsQueues : d.KeepsQueues (Device.applySyncRequest r d) := by
  unfold applySyncRequest
  split
  · exact d.answer_keepsQueues _ _ _
  · split
    · exact ((d.writePendingTempo_onlyPlays _ _).keepsQueues (.ofPorts (d.writePendingTempo_ports _ _))).trans
        (answer_keepsQueues _ _ _ _)
    · exact d.answer_keepsQueues _ _ _

/-- RELEASE_ALL. -/
theorem Device.releaseAllRequest_keepsQueues : d.KeepsQueues (Device.releaseAllRequest r d) :=
  (d.onStage_keepsQueues Stage.releaseAll_keepsBounds).trans (answer_keepsQueues _ _ _ _)

end Owners

/-- A click setup reloaded changes ports and entries of the stage alone (R113). -/
theorem reloadLine_frame (setup : ClickSetup) (n : Fin 4) (l : ClickLine) (st : Stage) :
    (reloadLine setup n l st).2 =
      { st with ports := (reloadLine setup n l st).2.ports, entries := (reloadLine setup n l st).2.entries } := by
  unfold reloadLine
  dsimp only
  split
  · exact endActive_frame n l st
  · rfl

/-- RELOAD (R172), as the scan took it. -/
theorem Device.carryOutReload_keepsQueues (d : Device) (r : Request) (run : PortRun) :
    d.KeepsQueues (d.carryOutReload r run).1 := by
  have applied (d : Device) (sec : Section) (bs : List Byte) : d.KeepsQueues (d.applySection sec bs) := by
    cases sec with
    | click => exact d.onLines_keepsQueues (fun n => reloadLine_releases _ n) fun n => reloadLine_frame _ n
    | pedals => exact d.reloadPedals_keepsQueues bs
    | ports => exact .ofStage (d.stage.reloadPolarities_keepsBounds _) rfl
    | _ => exact .ofPorts rfl rfl
  have reloaded (d : Device) (sec : Section) (bs : List Byte) : d.KeepsQueues (d.sectionRead r sec bs) := by
    unfold sectionRead
    split
    · exact d.answer_keepsQueues _ _ _
    · exact ((applied d sec bs).trans (.ofPorts rfl rfl)).trans (answer_keepsQueues _ _ _ _)
  have owned (d : Device) : d.KeepsQueues (Device.reloadRequest r run d).1 := by
    unfold reloadRequest
    split
    · exact d.answer_keepsQueues _ _ _
    · split
      · exact (d.memoryFailure_keepsQueues _ _).trans (answer_keepsQueues _ _ _ _)
      · exact reloaded d _ _
  have begun : d.KeepsQueues (d.onReq RequestUnit.beginWork) := .ofPorts rfl rfl
  unfold carryOutReload
  dsimp only
  refine KeepsQueues.trans ?_ (nextSlot_keepsQueues _)
  split
  · exact begun.trans (owned _)
  · exact begun.trans (answer_keepsQueues _ _ _ _)

/-! ## Slots and completions (R175, R177, R179) -/

/-- An access failure at a slot. -/
theorem Device.slotFailure_keepsQueues (d : Device) (slot : Fin 8) (offset : Nat) :
    d.KeepsQueues (d.slotFailure slot offset) := by
  unfold slotFailure
  dsimp only
  split <;> exact .ofPorts rfl rfl

/-- A visit to a slot. -/
theorem Device.visitSlot_keepsQueues (d : Device) (slot : Fin 8) (run : PortRun) :
    d.KeepsQueues (d.visitSlot slot run).1 := by
  have failed : d.KeepsQueues ((d.slotFailure slot (slotOffset d slot)).onReq RequestUnit.nextSlot) :=
    (d.slotFailure_keepsQueues _ _).trans (nextSlot_keepsQueues _)
  have marked : d.KeepsQueues (d.onReq (·.markRun slot false)) := .ofPorts rfl rfl
  have taken (d : Device) (bs : List Byte) (run : PortRun) : d.KeepsQueues (d.takeSlot slot bs run).1 := by
    unfold takeSlot
    split
    · exact (d.slotFailure_keepsQueues _ _).trans (nextSlot_keepsQueues _)
    · exact .ofPorts rfl rfl
  unfold visitSlot
  split
  · exact failed
  · dsimp only
    split
    · exact marked.trans (nextSlot_keepsQueues _)
    · exact marked.trans (taken _ _ _)

/-- A completion joins the retry list where none of its slot stands in it (R173, R179). -/
theorem Device.retryLater_queuesWithin {d : Device} (h : d.queuesWithin) (r : Retry)
    (hfree : d.req.awaitsRetry r.completion.slot = false) : (d.onReq (·.retryLater r)).queuesWithin :=
  ⟨h.1, RequestUnit.retryLater_pairwise r hfree h.2⟩

/-- The writes of a completion whose slot has none in the retry list (R177, R179). -/
theorem Device.writeCompletion_keepsQueues (d : Device) (c : Completion) (run : PortRun)
    (hfree : d.req.awaitsRetry c.slot = false) : d.KeepsQueues (d.writeCompletion c run).1 := by
  intro h
  have erased : d.KeepsQueues (d.onReq fun q => { q with completions := q.completions.erase c }) := .ofPorts rfl rfl
  unfold writeCompletion
  dsimp only
  generalize hd : d.onReq (fun q => { q with completions := q.completions.erase c }) = d' at erased
  have hretries : d'.req.retries = d.req.retries := by rw [← hd]; rfl
  split
  · exact KeepsQueues.ofPorts (d := d') rfl (RequestUnit.endScan_retries _) (erased h)
  · have failed := (d'.slotFailure_keepsQueues c.slot c.offset) (erased h)
    have hfree' : (d'.slotFailure c.slot c.offset).req.awaitsRetry c.slot = false := by
      have : (d'.slotFailure c.slot c.offset).req.retries = d'.req.retries := by
        unfold slotFailure
        dsimp only
        split <;> rfl
      rw [RequestUnit.awaitsRetry, this, hretries]
      exact hfree
    have waits := retryLater_queuesWithin failed { completion := c, dueAt := after d.now Config.retryTime } hfree'
    refine KeepsQueues.ofPorts ?_ ?_ waits
    · rfl
    · exact RequestUnit.endScan_retries _

/-- A retry of a completion that stands in the list (R179). -/
theorem Device.retryCompletion_keepsQueues (d : Device) (r : Retry) (run : PortRun) (hr : r ∈ d.req.retries) :
    d.KeepsQueues (d.retryCompletion r run).1 := by
  rintro ⟨hports, hretries⟩
  have erased : (d.onReq fun q => { q with retries := q.retries.erase r }).queuesWithin :=
    ⟨hports, hretries.sublist List.erase_sublist⟩
  have hfree : (d.onReq fun q => { q with retries := q.retries.erase r }).req.awaitsRetry r.completion.slot = false :=
    RequestUnit.awaitsRetry_erase hr hretries
  unfold retryCompletion
  dsimp only
  generalize d.onReq (fun q => { q with retries := q.retries.erase r }) = d' at erased hfree
  split
  · exact KeepsQueues.ofPorts (d := d') rfl rfl erased
  · have faulted : (d'.setFault .memory).queuesWithin := KeepsQueues.ofPorts (d := d') rfl rfl erased
    exact retryLater_queuesWithin faulted { r with dueAt := after d.now Config.retryTime } hfree

/-! ## Events of the machine -/

/-- What ends an event leaves the ports and the retry list, whatever its part for the state page (R157, R181, R189). -/
theorem State.endEvent_queuesWithin {s : State} {d : Device} {m : Mem} {page : Device → Device}
    (hp : ∀ d : Device, d.KeepsQueues (page d)) (h : d.queuesWithin) : (s.endEvent d m page).queuesWithin := by
  cases hover : d.drainOver
  · rw [State.endEvent_not_over m page hover]
    exact hp _ h
  · rw [State.endEvent_over m page hover]
    refine hp _ ?_
    rw [Device.endDrain_eq, State.drainTaken_eq]
    exact h

/-- What ends an event leaves the ports and the retry list. -/
theorem State.settle_queuesWithin {s : State} {d : Device} {m : Mem} (h : d.queuesWithin) :
    (s.settle d m).queuesWithin :=
  State.endEvent_queuesWithin (fun d => .ofPorts (by rw [Device.pageSettle_eq]) (by rw [Device.pageSettle_eq])) h

/-- A device reset empties the ports and the retry list (R58, R183). -/
theorem State.deviceReset_queuesWithin (s : State) (cut : ResetCut) (clock : Word) (low : Bool) :
    (s.deviceReset cut clock low).queuesWithin := by
  refine ⟨fun p => ?_, List.Pairwise.nil⟩
  simp [State.deviceReset, Device.afterReset, Stage.reset, ModulePort.reset, ModulePort.within]

section Commands

variable {s : State} (h : s.queuesWithin)
include h

/-- A command that touches no memory, by its work. -/
theorem State.event_queuesWithin {due : Bool} {body : Device → Device}
    (hb : due = true → s.dev.beginEvent.KeepsQueues (body s.dev.beginEvent)) : (s.event due body).queuesWithin := by
  unfold State.event
  split
  · exact h
  · rename_i hdue
    exact settle_queuesWithin (hb (by simp at hdue; exact hdue.2) h)

/-- A command with accesses of the memory port, by its work. -/
theorem State.portEvent_queuesWithin {due : Bool} {bus : Bus} {body : Device → PortRun → Device × PortRun}
    (hb : due = true → ∀ run, s.dev.beginEvent.KeepsQueues (body s.dev.beginEvent run).1) :
    (s.portEvent due bus body).queuesWithin := by
  unfold State.portEvent
  split
  · exact h
  · rename_i hdue
    exact settle_queuesWithin (hb (by simp at hdue; exact hdue.2) _ h)

/-- An arrival, by its row's work on the stage or the change unit. -/
theorem State.arrival_queuesWithin {port : Fin 4} {fits : Message → Bool} {body : Message → Device → Device}
    (hb : ∀ (m : Message) (d : Device), d.KeepsQueues (body m d)) : (s.arrival port fits body).queuesWithin := by
  unfold State.arrival
  split
  · exact h
  · rename_i a _
    exact State.event_queuesWithin h fun _ =>
      Device.KeepsQueues.trans (b := s.dev.beginEvent.takeArrival port a) (.ofPorts rfl rfl) (hb _ _)

/-- An arrival whose row works on the stage. -/
theorem State.stageArrival_queuesWithin {port : Fin 4} {fits : Message → Bool} {f : Message → Device → Stage → Stage}
    (hf : ∀ m d (st : Stage), st.KeepsBounds (f m d st)) :
    (s.arrival port fits fun m d => d.onStage (f m d)).queuesWithin :=
  State.arrival_queuesWithin h fun m d => d.onStage_keepsQueues (hf m d)

/-- A request, by its owner's work. -/
theorem State.request_queuesWithin {fits : Byte → Bool} {body : Request → Device → Device}
    (hb : ∀ (r : Request) (d : Device), d.KeepsQueues (body r d)) : (s.request fits body).queuesWithin := by
  unfold State.request
  split
  · exact h
  · exact State.event_queuesWithin h fun _ => Device.carryOut_keepsQueues _ _ (hb _)

/-- A write to CONTROL (R186). -/
theorem State.controlWrite_queuesWithin (w : RegWrite) (cut : ResetCut) : (s.controlWrite w cut).queuesWithin := by
  unfold State.controlWrite
  split
  · exact h
  · split
    · exact State.deviceReset_queuesWithin s cut _ false
    · exact State.event_queuesWithin h fun _ => Device.writeControl_keepsQueues _ _

end Commands

/-! ## Every command -/

/-- The rewrite of the state page leaves the queues (R181, R182). -/
theorem State.rewritePage_queuesWithin {s : State} (h : s.queuesWithin) (image : List Byte) (bus : Bus) :
    (s.rewritePage image bus).queuesWithin := by
  have whole : s.dev.beginEvent.KeepsQueues s.dev.beginEvent.rewriteWhole := by
    unfold Device.rewriteWhole
    dsimp only
    split <;> exact .ofPorts rfl rfl
  have failed : s.dev.beginEvent.KeepsQueues (s.dev.beginEvent.rewriteFailed bus) := by
    unfold Device.rewriteFailed
    dsimp only
    split <;> exact .ofPorts rfl rfl
  unfold State.rewritePage
  split
  · exact State.settle_queuesWithin (whole h)
  · exact State.endEvent_queuesWithin (fun d => .ofPorts rfl rfl) (failed h)

/-- An outcome that, where it goes on, leaves the queues within their bounds. -/
def LeavesWithin (o : Host.Outcome State Fault Refusal) : Prop := ∀ t, o = .next t → t.queuesWithin

/-- The machine goes on with its queues within their bounds. -/
theorem LeavesWithin.next {t : State} (h : t.queuesWithin) : LeavesWithin (.next t) := by
  intro t' e
  cases e
  exact h

section Arms

variable {s : State} (h : s.queuesWithin)
include h

/-- SET_LIST_READ_COMPLETION (R12). -/
theorem setListReadCompletion_leavesWithin (bus : Bus) : LeavesWithin (execSetListReadCompletion bus s) := by
  unfold execSetListReadCompletion
  split
  · exact .next (State.portEvent_queuesWithin h fun _ run => Device.setListRead_keepsQueues _ _ _ run)
  · exact .next h

/-- SCENE_READ_COMPLETION (R14). -/
theorem sceneReadCompletion_leavesWithin (bus : Bus) : LeavesWithin (execSceneReadCompletion bus s) := by
  unfold execSceneReadCompletion
  split
  · exact .next (State.portEvent_queuesWithin h fun _ run => Device.sceneRead_keepsQueues _ _ _ run)
  · exact .next h

/-- SLOT_VISIT (R175). -/
theorem slotVisit_leavesWithin (bus : Bus) : LeavesWithin (execSlotVisit bus s) := by
  unfold execSlotVisit
  split
  · exact .next h
  · exact .next (State.portEvent_queuesWithin h fun _ run => Device.visitSlot_keepsQueues _ _ run)

/-- RELOAD (R172). -/
theorem reload_leavesWithin (bus : Bus) : LeavesWithin (execReload bus s) := by
  unfold execReload
  split
  · exact .next h
  · exact .next (State.portEvent_queuesWithin h fun _ run => Device.carryOutReload_keepsQueues _ _ run)

/-- SLOT_COMPLETION (R177): it is due where the slot has none in the retry list. -/
theorem slotCompletion_leavesWithin (slot : Fin 8) (bus : Bus) : LeavesWithin (execSlotCompletion slot bus s) := by
  unfold execSlotCompletion
  split
  · exact .next h
  · rename_i c hc
    have hslot : c.slot = slot := by simpa using List.find?_some hc
    refine .next (State.portEvent_queuesWithin h fun hdue run => Device.writeCompletion_keepsQueues _ c run ?_)
    rw [hslot]
    simpa using hdue

/-- COMPLETION_RETRY (R179): the retry stands in the list. -/
theorem completionRetry_leavesWithin (slot : Fin 8) (bus : Bus) : LeavesWithin (execCompletionRetry slot bus s) := by
  unfold execCompletionRetry
  split
  · exact .next h
  · rename_i r hr
    exact .next (State.portEvent_queuesWithin h fun _ run =>
      Device.retryCompletion_keepsQueues _ r run (List.mem_of_find?_eq_some hr))

/-- STATE_PAGE_REWRITE (R181). -/
theorem statePageRewrite_leavesWithin (bus : Bus) : LeavesWithin (execStatePageRewrite bus s) := by
  unfold execStatePageRewrite
  split
  · exact .next h
  · refine .next ?_
    split
    · exact h
    · exact State.rewritePage_queuesWithin h _ bus

/-- JOURNAL_WRITE_COMPLETION (R157). -/
theorem journalWriteCompletion_leavesWithin (bus : Bus) : LeavesWithin (execJournalWriteCompletion bus s) := by
  unfold execJournalWriteCompletion
  split
  · exact .next h
  · rename_i entry _ _
    refine .next (State.portEvent_queuesWithin h fun _ run => ?_)
    have hrest := (Device.takeEntry_spec s.dev.beginEvent entry run).rest
    exact .ofPorts (by rw [hrest]; rfl) (by rw [hrest]; rfl)

/-- HEADER_READ_COMPLETION (R170, R187). -/
theorem headerReadCompletion_leavesWithin (bus : Bus) : LeavesWithin (execHeaderReadCompletion bus s) := by
  unfold execHeaderReadCompletion
  split
  · exact .next (State.portEvent_queuesWithin h fun _ run => Device.abandonedRead_keepsQueues _ run)
  · exact .next (State.portEvent_queuesWithin h fun _ run => Device.loadHeader_keepsQueues _ run)

/-- PEDAL_INPUT_CHANGE (R144). -/
theorem pedalInputChange_leavesWithin (pedal : Fin 8) (high : Bool) :
    LeavesWithin (execPedalInputChange pedal high s) := by
  unfold execPedalInputChange
  split
  · exact .next h
  · exact .next (State.event_queuesWithin h fun _ => Device.onPedal_keepsQueues _ _ _)

/-- Every command keeps the bounds, by what its row does. -/
theorem exec_leavesWithin (c : Instr) : LeavesWithin (exec c s) := by
  cases c with
  -- key ports and routing unit
  | keyByteArrival port byte stopBit =>
    refine .next (State.event_queuesWithin h fun _ => ?_)
    unfold Device.keyByte Device.reportLineFault
    dsimp only
    split <;> exact .ofPorts rfl rfl
  | keyDown port => exact .next (State.stageArrival_queuesWithin h fun _ _ st => st.keyDown_keepsBounds _ _ _)
  | keyUp port => exact .next (State.stageArrival_queuesWithin h fun _ _ st => st.keyUp_keepsBounds _ _)
  | damperArrival port =>
    exact .next (State.stageArrival_queuesWithin h fun _ _ st => (st.setDamper_keepsBounds _ _ _).trans (.ofPorts rfl))
  | controlArrival port => exact .next (State.stageArrival_queuesWithin h fun _ _ st => st.passControl_keepsBounds _ _ _)
  | programArrival port =>
    refine .next (State.arrival_queuesWithin h fun m d => ?_)
    unfold Device.programArrival Device.programSelect
    split
    · split <;> exact .ofPorts rfl rfl
    · exact .refl d
  -- module ports and deferrals
  | mainFrameCompletion port =>
    exact .next (State.event_queuesWithin h fun _ => Device.onStage_keepsQueues _ fun st =>
      st.mainFrameDone_keepsBounds _)
  | laneFrameCompletion port =>
    exact .next (State.event_queuesWithin h fun _ => Device.onStage_keepsQueues _ fun st =>
      st.laneFrameDone_keepsBounds _)
  | owedReleaseRetry port =>
    exact .next (State.event_queuesWithin h fun _ => Device.onStage_keepsQueues _ fun st =>
      (st.retryOwed_releases _).within)
  | backlogMove port =>
    exact .next (State.event_queuesWithin h fun _ => Device.onStage_keepsQueues _ fun st =>
      st.modifyPort_keepsBounds _ (ModulePort.moveBacklog_within _ _))
  | deferralReleaseEnding port channel =>
    exact .next (State.event_queuesWithin h fun _ => Device.onStage_keepsQueues _ fun st =>
      (st.deferralCheck_releases _).within)
  | deferDeadline port channel =>
    exact .next (State.event_queuesWithin h fun _ => Device.onStage_keepsQueues _ fun st =>
      (st.endDestByCut_releases _).within)
  -- timing
  | tick =>
    exact .next (State.event_queuesWithin h fun _ =>
      (((Device.advanceTick_onlyPlays _).keepsQueues (.ofPorts (Device.advanceTick_ports _))).trans
        (Device.beginTick_keepsQueues _)).trans (Device.changeBoundary_keepsQueues _))
  | clickWidthExpiry line =>
    exact .next (State.event_queuesWithin h fun _ => .ofStage (endNote_releases line _ _).within rfl)
  | attnPulseEnd => exact .next (State.event_queuesWithin h fun _ => .ofPorts rfl rfl)
  | tapLapse => exact .next (State.event_queuesWithin h fun _ => .ofPorts rfl rfl)
  | syncEdge => exact .next (State.event_queuesWithin h fun _ => Device.takeEdge_keepsQueues _)
  | syncLost => exact .next (State.event_queuesWithin h fun _ => .ofPorts rfl rfl)
  -- pedals
  | pedalInputChange pedal high => exact pedalInputChange_leavesWithin h pedal high
  | debounceExpiry pedal =>
    exact .next (State.event_queuesWithin h fun _ =>
      (Device.onPedal_keepsQueues _ pedal _).trans (Device.pedalEdge_keepsQueues _ _ _ _))
  -- scene copies
  | setListReadCompletion bus => exact setListReadCompletion_leavesWithin h bus
  | sceneReadCompletion bus => exact sceneReadCompletion_leavesWithin h bus
  | sceneReadRetry => exact .next (State.event_queuesWithin h fun _ => .ofPorts rfl rfl)
  -- requests
  | notice w => exact .next (State.event_queuesWithin h fun _ => .ofPorts rfl rfl)
  | scanBegin => exact .next (State.event_queuesWithin h fun _ => .ofPorts rfl rfl)
  | slotVisit bus => exact slotVisit_leavesWithin h bus
  | cueScene => exact .next (State.request_queuesWithin h Device.cueSceneRequest_keepsQueues)
  | cuePosition => exact .next (State.request_queuesWithin h Device.cuePositionRequest_keepsQueues)
  | go => exact .next (State.request_queuesWithin h Device.goRequest_keepsQueues)
  | hold => exact .next (State.request_queuesWithin h Device.holdRequest_keepsQueues)
  | resume => exact .next (State.request_queuesWithin h Device.resumeRequest_keepsQueues)
  | cancel => exact .next (State.request_queuesWithin h Device.cancelRequest_keepsQueues)
  | unlockZones =>
    exact .next (State.request_queuesWithin h fun _ _ => .ofPorts rfl rfl)
  | start => exact .next (State.request_queuesWithin h Device.startRequest_keepsQueues)
  | stop => exact .next (State.request_queuesWithin h Device.stopRequest_keepsQueues)
  | locate => exact .next (State.request_queuesWithin h Device.locateRequest_keepsQueues)
  | setTempo => exact .next (State.request_queuesWithin h Device.setTempoRequest_keepsQueues)
  | applySync => exact .next (State.request_queuesWithin h Device.applySyncRequest_keepsQueues)
  | releaseAll => exact .next (State.request_queuesWithin h Device.releaseAllRequest_keepsQueues)
  | reload bus => exact reload_leavesWithin h bus
  | unknownRequest => exact .next (State.request_queuesWithin h fun _ _ => Device.answer_keepsQueues _ _ _ _)
  | slotCompletion slot bus => exact slotCompletion_leavesWithin h slot bus
  | completionRetry slot bus => exact completionRetry_leavesWithin h slot bus
  -- state page and journal
  | statePageRewrite bus => exact statePageRewrite_leavesWithin h bus
  | statePageRetry => exact .next (State.event_queuesWithin h fun _ => .ofPorts rfl rfl)
  | journalWriteCompletion bus => exact journalWriteCompletion_leavesWithin h bus
  -- registers
  | controlEnableSet w => exact .next (State.controlWrite_queuesWithin h w _)
  | controlEnableClear w => exact .next (State.controlWrite_queuesWithin h w _)
  | attentionMode w => exact .next (State.controlWrite_queuesWithin h w _)
  | causeEnable w => exact .next (State.controlWrite_queuesWithin h w _)
  | controlReset w cut => exact .next (State.controlWrite_queuesWithin h w cut)
  | area w => exact .next (State.event_queuesWithin h fun _ => .ofPorts rfl rfl)
  | ack w => exact .next (State.event_queuesWithin h fun _ => .ofPorts rfl rfl)
  | ignoredRegisterWrite addr w => exact .next h
  -- engine
  | headerReadCompletion bus => exact headerReadCompletion_leavesWithin h bus
  | drainEnd => exact .next (State.event_queuesWithin h fun _ => .refl _)
  | drainLimit =>
    exact .next (State.event_queuesWithin h fun _ => .ofStage (Stage.drainLimit_keepsBounds _) rfl)
  | powerOn cut => exact .next (State.deviceReset_queuesWithin s cut 0 _)
  | resetPinAssert cut => exact .next (State.deviceReset_queuesWithin s cut _ true)
  | resetPinRelease => exact .next h

end Arms

/-- A property that holds of a machine whatever commands wait, and that every command and every microsecond keeps, is
kept by every step. -/
theorem step_keeps {P : State → Prop} (hpending : ∀ s pending, P s → P { s with pending := pending })
    (hexec : ∀ s t c, P s → exec c s = .next t → P t) (hmicro : ∀ s, P s → P s.microsecond) {s t : State} (h : P s)
    (ht : step s = .next t) : P t := by
  unfold step at ht
  split at ht
  · unfold idle at ht
    split at ht
    · cases ht
      exact hmicro s h
    · exact hexec s t _ h ht
  · rename_i c rest _
    exact hexec _ t c (hpending s rest h) ht

/-- Settles O8: every command keeps the bounds, and a microsecond moves no message. -/
theorem queuesStayWithin : Obligations.QueuesStayWithin := fun _ _ h ht =>
  step_keeps (P := State.queuesWithin) (fun _ _ h => h) (fun _ t c h => exec_leavesWithin h c t) (fun _ h => h) h ht

end Sys2Proof.Machine
end

section
/-! The machine after reset (R193), the admission classes of a module port (R47 to R50), and a lane frame's completion (R53,
R57). -/
namespace Sys2Proof.Machine

open Sys2Proof

/-- Settles O3: each invariant by the reset values that it reads. -/
theorem resetMeetsTheInvariants : Obligations.ResetMeetsTheInvariants := by
  have hwithin : State.reset.queuesWithin :=
    State.deviceReset_queuesWithin State.reset ResetCut.clean 0 false
  refine ⟨rfl, rfl, ⟨by decide, by decide⟩, ⟨by decide, by decide⟩, ?_⟩
  exact hwithin

/-- Settles O18: each offer branches on a test of one length, which the numbers of R46 to R50 spell out. -/
theorem offersFollowTheirClass : Obligations.OffersFollowTheirClass := by
  intro st p m line
  refine ⟨?_, ?_, rfl, ?_⟩
  · unfold Stage.offerRelease Stage.releaseAdmitted
    simp only [decide_eq_true_eq]
    rfl
  · unfold Stage.offerNonRelease Stage.nonReleaseAdmitted
    simp only [decide_eq_true_eq]
    rfl
  · unfold Stage.offerClick Stage.clickAdmitted
    simp only [decide_eq_true_eq]
    rfl

/-! ## A drain's end without entries (R157, R189) -/

section NothingWaits

variable {s : State} {d : Device} (hjw : d.jw = s.dev.jw) (hqueue : s.dev.jw.queue = [])
  (hen : d.stage.entries = [])
include hjw hqueue hen

/-- Where no entry waits and the event hands none, the end of a drain takes none. -/
theorem State.drainTaken_of_nothingWaits (m : Mem) :
    s.drainTaken d m = (d.afterHanding s.dev.engine.state, { mem := m, bus := Config.drainBus s.drains }) := by
  have hempty : (d.afterHanding s.dev.engine.state).jw.queue = [] :=
    (congrArg JournalWriter.queue (Device.afterHanding_jw hjw hen)).trans hqueue
  exact Device.takeAll_of_nil hempty _

/-- Then its event hands no entry, and neither counts nor memory nor faults are touched: the engine and the pedals are
beside the event's own work. -/
theorem State.settle_over_of_nothingWaits (bs : List Block) (hover : d.drainOver = true)
    (hen' : s.dev.stage.entries = []) (hfield : .fieldCode ∈ bs ∨ d.engine.restart = false)
    (hcause : s.dev.pageCause = false)
    (hbs : ∀ b : Block, b ∈ bs ∨ b ∈ [Block.entries, .eventStamp] ∨ b.agrees s { s with dev := d }) :
    Journaled [] s (s.settle d s.mem)
      ∧ EventChanges (bs ++ [.engine, .pedals, .drains]) s (s.settle d s.mem) := by
  have htaken := State.drainTaken_of_nothingWaits hjw hqueue hen s.mem
  have hkept := Device.afterHanding_jw hjw hen
  obtain ⟨page, hs⟩ := State.settle_over hover s.mem
  rw [htaken, hkept] at hs
  refine ⟨by rw [hs]; simp [Journaled], onlyChanges_of_forall fun b => ?_⟩
  rw [hs]
  have hb := hbs b
  revert hb
  cases b
  case fieldCode => rcases hfield with h | h <;> simp [Block.agrees, bookkeeping, h]
  all_goals
    simp [Block.agrees, bookkeeping, Device.afterHanding, Device.restamp, Device.journalSettle, hen', hcause]

end NothingWaits

/-! ## A lane frame's completion (R53, R57) -/

/-- The next frame after one of the lane: the lane's head, else the main queue's head, else none. -/
theorem ModulePort.pickFrame_eq (mp : ModulePort) (now : Word) :
    mp.pickFrame now =
      { mp with
        polarity := mp.pendingPolarity.getD mp.polarity
        pendingPolarity := none
        tx := if mp.lane ≠ [] then .sendingLane (after now 160)
          else if mp.main ≠ [] then .sendingMain (after now 160) else .idle } := by
  unfold pickFrame applyPolarity
  cases mp.lane <;> cases mp.main <;> rfl

/-- A lane frame's completion: the lane's head leaves and the next frame is picked (R53). -/
theorem Stage.laneFrameDone_eq (st : Stage) (p : Fin 6) :
    st.laneFrameDone p =
      { st with
        ports := st.ports.set p
          { st.ports[p] with
            lane := st.ports[p].lane.tail
            polarity := st.ports[p].pendingPolarity.getD st.ports[p].polarity
            pendingPolarity := none
            tx := if st.ports[p].lane.tail ≠ [] then .sendingLane (after st.clock 160)
              else if st.ports[p].main ≠ [] then .sendingMain (after st.clock 160) else .idle } } :=
  congrArg (fun q => { st with ports := st.ports.set p q }) (ModulePort.pickFrame_eq _ st.clock)

/-- Settles O19: the port by its next frame, and the event by whether a drain ends with it. -/
theorem laneFrameCompletes : Obligations.LaneFrameCompletes := by
  intro s p hready hdue mp
  obtain ⟨hr, hen, hpc, -⟩ := State.isReady_spec hready
  have hstage := s.dev.stage.laneFrameDone_eq p
  generalize hst : s.dev.stage.laneFrameDone p = st at hstage
  have hen' : st.entries = [] := by rw [hstage]; exact hen
  cases hover : ({ s.dev.beginEvent with stage := st } : Device).drainOver with
  | false =>
    obtain ⟨t, ht, hts, hj, hc⟩ := State.stageEvent_outcome (f := fun st => st.laneFrameDone p) [] [.ports] hready hdue hst
      hen' hover
      (by rw [hstage]; exact ⟨rfl, .inr rfl, .inr rfl, .inl (by simp), .inr rfl⟩)
    exact ⟨t, ht, by rw [hts, hstage]; rfl, hc.mono (by decide), fun _ => ⟨hj (.inr rfl), hc⟩,
      fun _ => ⟨hj (.inr rfl), hc.mono (by decide)⟩⟩
  | true =>
    obtain ⟨hdraining, hquiet⟩ : s.dev.engine.state = .draining ∧ st.isQuiet = true := by
      rw [Device.drainOver, Bool.and_eq_true, decide_eq_true_eq] at hover
      exact hover
    have hbody : s.dev.beginEvent.onStage (fun st => st.laneFrameDone p) = { s.dev.beginEvent with stage := st } := by
      rw [← hst]; rfl
    have hbs (b : Block) : b ∈ [Block.ports, .fieldCode] ∨ b ∈ [Block.entries, .eventStamp] ∨
        b.agrees s { s with dev := { s.dev.beginEvent with stage := st } } := by
      cases b <;> simp [Block.agrees, Device.beginEvent, hstage]
    have hts := State.settle_stage s { s.dev.beginEvent with stage := st } s.mem
    have hc := State.settle_over_changes [.ports, .fieldCode] hover rfl hen (.inl (by simp)) (.inr hpc) hbs
    refine ⟨_, State.event_settles hr hdue hbody, by rw [hts, hstage]; rfl, hc.mono (by decide), fun h => ?_, fun hq => ?_⟩
    · have hleft : st.isQuiet = false := by
        rw [hts] at h
        exact h.resolve_left (· hdraining)
      cases hquiet.symm.trans hleft
    · obtain ⟨hj, hc'⟩ := State.settle_over_of_nothingWaits (d := { s.dev.beginEvent with stage := st }) rfl hq hen'
        [.ports, .fieldCode] hover hen (.inl (by simp)) hpc hbs
      exact ⟨hj, hc'.mono (by decide)⟩

end Sys2Proof.Machine
end

section
/-! The click lines: what a click point does (R104 to R107, R109), a click note and its lane (R110), and the end of a pulse
(R108). -/
namespace Sys2Proof.Machine

open Sys2Proof

/-! ## Click points -/

/-- The click points of a subdivision divide a beat evenly (R104). -/
theorem isClickPoint_iff (subdivision tick : Nat) :
    isClickPoint subdivision tick = true ↔ tick % (240 / subdivision) = 0 := by
  simp [isClickPoint, Config.ticksPerBeat]

/-- When a line may sound: enabled, not muted, and its mode sounds in the transport state (R104). -/
theorem ClickSetup.maySound_iff (c : ClickSetup) (mute : Bool) (tr : Transport) :
    c.maySound mute tr = true ↔ c.enable = true ∧ mute = false ∧
      ((tr = .playing ∧ c.mode = .always) ∨ (tr = .countIn ∧ (c.mode = .always ∨ c.mode = .countInOnly))) := by
  unfold maySound
  rw [Bool.and_eq_true, Bool.and_eq_true, Bool.not_eq_true', and_assoc]
  cases tr <;> cases c.mode <;> simp

/-- An accent falls on tick 0: of beat 1 in a count-in, else of a beat of the accent set (R105). -/
theorem isAccent_iff (tr : Transport) (accents : BitVec 16) (beat tick : Nat) :
    isAccent tr accents beat tick = true ↔
      tick = 0 ∧ (if tr = .countIn then beat = 1 else accents.getLsbD (beat - 1) = true) := by
  unfold isAccent
  split <;> simp

/-! ## A click note -/

/-- A lane with room takes the click message (R50). -/
theorem Stage.offerClick_of_room {st : Stage} {p : Fin 6} (h : st.ports[p].lane.length < 8) (n : Fin 4) (m : Message) :
    st.offerClick p n m = st.modifyPort p (·.admitLane st.clock m) :=
  if_pos (decide_eq_true h)

/-- A full lane drops it with CLICK_DROP (R50, R56). -/
theorem Stage.offerClick_of_full {st : Stage} {p : Fin 6} (h : 8 ≤ st.ports[p].lane.length) (n : Fin 4) (m : Message) :
    st.offerClick p n m = st.emit (.clickDrop p n m st.ports[p].lane.length) :=
  if_neg (by rw [clickAdmitted, decide_eq_true_eq]; exact Nat.not_lt.2 h)

/-- A line without a sounding key has no note to end. -/
theorem endNote_of_silent {l : ClickLine} (h : l.sounding = none) (n : Fin 4) (st : Stage) : endNote n l st = (l, st) := by
  rw [endNote, h]

/-- A sounding key's KEY_UP is offered to the lane of its port (R110). -/
theorem endNote_of_sounding {l : ClickLine} {k : DestKey} (h : l.sounding = some k) (n : Fin 4) (st : Stage) :
    endNote n l st = ({ l with sounding := none }, st.offerClick k.dest.port n (keyUpMessage k)) := by
  rw [endNote, h]

/-- An ended note leaves the line without a sounding key. -/
theorem endNote_fst (n : Fin 4) (l : ClickLine) (st : Stage) : (endNote n l st).1 = { l with sounding := none } := by
  cases h : l.sounding with
  | none => rw [endNote_of_silent h, ← h]
  | some k => rw [endNote_of_sounding h]

section SoundClick

variable {n : Fin 4} {a : Bool} {l : ClickLine} {st : Stage}

/-- A click that sounds: the note before ends, the pulse runs from the tick, and its own note begins (R107, R109). -/
theorem soundClick_eq :
    soundClick n a l st =
      beginNote n a { l with sounding := none, endsAt := some (after st.clock (l.setup.width a)) } (endNote n l st).2 := by
  unfold soundClick
  dsimp only
  rw [endNote_fst]

/-- Without a route the pulse runs without a note. -/
theorem soundClick_of_noRoute (h : l.setup.route = none) :
    soundClick n a l st =
      ({ l with sounding := none, endsAt := some (after st.clock (l.setup.width a)) }, (endNote n l st).2) := by
  simp only [soundClick_eq, beginNote, h]

/-- Admitted, the note's key is the sounding key (R110). -/
theorem soundClick_of_room {p : Fin 6} (h : l.setup.route = some p)
    (hroom : (endNote n l st).2.ports[p].lane.length < 8) :
    soundClick n a l st =
      ({ l with
          sounding := some { dest := { port := p, channel := l.setup.channel }, key := (l.setup.note a).data1 }
          endsAt := some (after st.clock (l.setup.width a)) },
        (endNote n l st).2.modifyPort p (·.admitLane st.clock (l.setup.note a))) := by
  have hclock : (endNote n l st).2.clock = st.clock := by rw [endNote_frame n l st]
  have hadmitted : (endNote n l st).2.clickAdmitted p = true := decide_eq_true hroom
  simp only [soundClick_eq, beginNote, h, hadmitted, if_true, Stage.offerClick_of_room hroom, hclock]
  rfl

/-- At a full lane it is dropped, and the pulse runs without a note (R110). -/
theorem soundClick_of_full {p : Fin 6} (h : l.setup.route = some p)
    (hfull : 8 ≤ (endNote n l st).2.ports[p].lane.length) :
    soundClick n a l st =
      ({ l with sounding := none, endsAt := some (after st.clock (l.setup.width a)) },
        (endNote n l st).2.emit (.clickDrop p n (l.setup.note a) (endNote n l st).2.ports[p].lane.length)) := by
  have hrefused : ¬ (endNote n l st).2.clickAdmitted p = true := by
    rw [Stage.clickAdmitted, decide_eq_true_eq]
    exact Nat.not_lt.2 hfull
  simp only [soundClick_eq, beginNote, h, hrefused, Stage.offerClick_of_full hfull]
  rfl

end SoundClick

/-! ## A tick at a line -/

/-- A line's tick, as said of it: the settings it is judged under, whether it sounds, and its accent are each told by their
own rule, and a sound by the route and its lane. -/
theorem clickTickSays (l : ClickLine) (st : Stage) (n : Fin 4) (mute : Bool) (tr : Transport) (beat tick : Nat) :
    ClickTickSays l st n mute tr beat tick := by
  unfold ClickTickSays
  intro set accent sounds ended pulse begins
  have hset : l.applySettings tick = set := by
    simp only [ClickLine.applySettings, isClickPoint_iff]
    rfl
  have hsounds : (isClickPoint set.subdivision tick && set.setup.maySound mute tr) = true ↔ sounds := by
    rw [Bool.and_eq_true, isClickPoint_iff, ClickSetup.maySound_iff]
  have haccent : isAccent tr set.accents beat tick = true ↔ accent := isAccent_iff ..
  have hended : (endNote n set st).2 = ended := by
    cases h : set.sounding with
    | none => simp [ended, h, endNote_of_silent h]
    | some k => simp [ended, h, endNote_of_sounding h]
  have silent (h : ¬ sounds) : takeClickTick mute tr beat tick n l st = (set, st) := by
    simp only [takeClickTick, hset]
    exact if_neg (mt hsounds.1 h)
  have sounding (h : sounds) :
      takeClickTick mute tr beat tick n l st = soundClick n (isAccent tr set.accents beat tick) set st := by
    simp only [takeClickTick, hset]
    exact if_pos (hsounds.2 h)
  have hbegins (a : Bool) (hs : sounds) (ha : isAccent tr set.accents beat tick = a) :
      begins (set.setup.width a) (set.setup.note a).data1 (set.setup.note a).data2 := by
    refine ⟨fun hroute => ?_, fun p hroute => ⟨fun hroom => ?_, fun hfull => ?_⟩⟩
    · rw [sounding hs, ha, soundClick_of_noRoute hroute, hended]
    · rw [← hended] at hroom
      rw [sounding hs, ha, soundClick_of_room hroute hroom, hended]
      rfl
    · rw [← hended] at hfull
      rw [sounding hs, ha, soundClick_of_full hroute hfull, hended]
      rfl
  exact ⟨silent, fun hs ha => hbegins true hs (haccent.2 ha),
    fun hs ha => hbegins false hs (Bool.not_eq_true _ ▸ mt haccent.1 ha)⟩

/-! ## One line among the four -/

/-- Work on one line, by what it leaves of the line and the stage. -/
theorem Device.onLine_eq {d : Device} {k : Fin 4} {f : ClickLine → Stage → ClickLine × Stage} {l : ClickLine} {st : Stage}
    (h : f d.click.lines[k] d.stage = (l, st)) :
    d.onLine k f = { d with click := { d.click with lines := d.click.lines.set k l }, stage := st } := by
  rw [onLine, h]

/-- A line whose work leaves it and the stage as they are. -/
theorem Device.onLine_of_unchanged {d : Device} {k : Fin 4} {f : ClickLine → Stage → ClickLine × Stage}
    (h : f d.click.lines[k] d.stage = (d.click.lines[k], d.stage)) : d.onLine k f = d := by
  have hset : d.click.lines.set k d.click.lines[k] = d.click.lines := Vector.set_getElem_self k.isLt
  rw [onLine_eq h, hset]

/-- Work on one line leaves the others. -/
theorem Device.onLine_lines_other {d : Device} {n k : Fin 4} (h : k ≠ n) (f : ClickLine → Stage → ClickLine × Stage) :
    (d.onLine n f).click.lines[k] = d.click.lines[k] := by
  have hval : (n : Nat) ≠ k := fun e => h (Fin.ext e.symm)
  simp [onLine, hval]

/-- Work over some lines that leaves each of them and the stage. -/
theorem Device.foldl_onLine_of_unchanged {f : Fin 4 → ClickLine → Stage → ClickLine × Stage} {d : Device}
    {ns : List (Fin 4)} (h : ∀ k ∈ ns, f k d.click.lines[k] d.stage = (d.click.lines[k], d.stage)) :
    ns.foldl (fun d k => d.onLine k (f k)) d = d := by
  induction ns with
  | nil => rfl
  | cons k ns ih =>
    rw [List.foldl_cons, onLine_of_unchanged (h k List.mem_cons_self)]
    exact ih fun j hj => h j (List.mem_cons_of_mem k hj)

/-- Work over every line that leaves all but one of them, whatever the stage, is that one's work. -/
theorem Device.onLines_of_others_unchanged {f : Fin 4 → ClickLine → Stage → ClickLine × Stage} {d : Device} {n : Fin 4}
    (h : ∀ k, k ≠ n → ∀ st, f k d.click.lines[k] st = (d.click.lines[k], st)) : d.onLines f = d.onLine n (f n) := by
  obtain ⟨pre, post, hns⟩ := List.append_of_mem (List.mem_finRange n)
  have hnodup : (pre ++ n :: post).Nodup := hns ▸ List.nodup_finRange 4
  obtain ⟨-, hpost, hpre⟩ := List.nodup_append.1 hnodup
  unfold onLines
  rw [hns, List.foldl_append, List.foldl_cons]
  have before : pre.foldl (fun d k => d.onLine k (f k)) d = d :=
    foldl_onLine_of_unchanged fun k hk => h k (hpre k hk n List.mem_cons_self) _
  rw [before]
  refine foldl_onLine_of_unchanged fun k hk => ?_
  have hother : k ≠ n := fun e => (List.nodup_cons.1 hpost).1 (e ▸ hk)
  rw [onLine_lines_other hother]
  exact h k hother _

/-- A line that is not enabled and has no settings pending takes no tick (R104, R106). -/
theorem takeClickTick_of_disabled {l : ClickLine} (henable : l.setup.enable = false) (hpending : l.pendingSet = none)
    (mute : Bool) (tr : Transport) (beat tick : Nat) (n : Fin 4) (st : Stage) :
    takeClickTick mute tr beat tick n l st = (l, st) := by
  have hset : l.applySettings tick = l := by simp [ClickLine.applySettings, hpending]
  simp [takeClickTick, hset, ClickSetup.maySound, henable]

/-- Where one line alone takes ticks, the click unit's tick is that line's. -/
theorem Device.clickTick_of_one {d : Device} {n : Fin 4}
    (h : ∀ k : Fin 4, k ≠ n → d.click.lines[k].setup.enable = false ∧ d.click.lines[k].pendingSet = none) :
    d.clickTick = d.onLine n (takeClickTick d.click.mute d.tempo.transport d.tempo.beatNow d.tempo.tickNow n) :=
  onLines_of_others_unchanged fun k hk st => takeClickTick_of_disabled (h k hk).1 (h k hk).2 _ _ _ _ k st

/-! ## A tick inside a beat -/

/-- Inside a beat a tick that begins fixes its length alone (R63). -/
theorem Device.startTick_of_inBeat {d : Device} (h : d.tempo.tickNow ≠ 0) : d.startTick = d.onTempo (·.fixTick d.now) := by
  simp [startTick, Tempo.atBeat, Tempo.atBar, h]

/-- Inside a beat no boundary is announced to the change unit (R122). -/
theorem Device.changeBoundary_of_inBeat {d : Device} (h : d.tempo.tickNow ≠ 0) : d.changeBoundary = d := by
  unfold changeBoundary
  split
  · split <;> simp [Tempo.atBeat, Tempo.atBar, h]
  · rfl

/-- The tempo record after a tick inside a beat (R63, R64). -/
def Tempo.nextInBeat (r : Tempo) (now : Word) : Tempo := { r with tick := r.tick + 1 }.fixTick now

section NextInBeat

variable (r : Tempo) (now : Word)

/-- It differs in the tick and in the timing of its length. -/
theorem Tempo.nextInBeat_frame :
    r.nextInBeat now =
      { r with tick := r.tick + 1, acc := (r.nextInBeat now).acc, tickAt := (r.nextInBeat now).tickAt } := by
  unfold nextInBeat fixTick
  dsimp only
  split <;> rfl

@[simp] theorem Tempo.nextInBeat_transport : (r.nextInBeat now).transport = r.transport := by rw [nextInBeat_frame]
@[simp] theorem Tempo.nextInBeat_countIn : (r.nextInBeat now).countIn = r.countIn := by rw [nextInBeat_frame]
@[simp] theorem Tempo.nextInBeat_tick : (r.nextInBeat now).tick = r.tick + 1 := by rw [nextInBeat_frame]
@[simp] theorem Tempo.nextInBeat_beat : (r.nextInBeat now).beat = r.beat := by rw [nextInBeat_frame]

end NextInBeat

/-- A tick inside a beat, with one line that takes it. -/
theorem Device.takeTick_of_inBeat {d : Device} {n : Fin 4} (hcountIn : d.tempo.countIn = none) (htick : d.tempo.tick < 239)
    (hothers : ∀ k : Fin 4, k ≠ n → d.click.lines[k].setup.enable = false ∧ d.click.lines[k].pendingSet = none) :
    d.takeTick =
      { d with tempo := d.tempo.nextInBeat d.now }.onLine n
        (takeClickTick d.click.mute d.tempo.transport d.tempo.beat (d.tempo.tick + 1) n) := by
  have hadvance : d.advanceTick = d.onTempo fun r => { r with tick := r.tick + 1 } := by
    simp [advanceTick, hcountIn, Tempo.advancePosition, onTempo, htick]
  have hstart : d.advanceTick.startTick = { d with tempo := d.tempo.nextInBeat d.now } := by
    rw [hadvance, startTick_of_inBeat (by simp [onTempo, Tempo.tickNow, hcountIn])]
    rfl
  have hclick : { d with tempo := d.tempo.nextInBeat d.now }.clickTick =
      { d with tempo := d.tempo.nextInBeat d.now }.onLine n
        (takeClickTick d.click.mute d.tempo.transport d.tempo.beat (d.tempo.tick + 1) n) := by
    rw [clickTick_of_one (d := { d with tempo := d.tempo.nextInBeat d.now }) hothers]
    simp [Tempo.beatNow, Tempo.tickNow, hcountIn]
  unfold takeTick beginTick
  rw [hstart, hclick]
  exact changeBoundary_of_inBeat (by simp [onLine, Tempo.tickNow, hcountIn])

/-- A tick inside a beat brings itself to the one line that takes it, and what that offers to the journal. -/
theorem State.tick_inBeat {s : State} {n : Fin 4} (hon : s.isOnline = true) (hdue : tickDue s)
    (hcountIn : s.dev.tempo.countIn = none) (htick : s.dev.tempo.tick < 239)
    (hothers : ∀ k : Fin 4, k ≠ n →
      s.dev.click.lines[k].setup.enable = false ∧ s.dev.click.lines[k].pendingSet = none) :
    let taken := takeClickTick s.dev.click.mute .playing s.dev.tempo.beat (s.dev.tempo.tick + 1) n s.dev.click.lines[n]
      s.dev.stage
    ∃ t, exec .tick s = .next t
      ∧ t.dev.click = { s.dev.click with lines := s.dev.click.lines.set n taken.1 }
      ∧ t.dev.stage.ports = taken.2.ports ∧ Journaled taken.2.entries s t ∧ EventChanges [.tempo, .click, .ports] s t := by
  intro taken
  obtain ⟨hr, heng, hen, hpc⟩ := State.isOnline_spec hon
  obtain ⟨hstate, m, hat, hreached⟩ := hdue
  have hplaying : s.dev.tempo.transport = .playing := by
    rcases hstate with ⟨h, -⟩ | ⟨-, h, -⟩
    · exact h
    · simp [hcountIn] at h
  have hdue : (!s.dev.tempo.isStopped && timerDue s.dev.now s.dev.tempo.tickAt) = true := by
    simp [Tempo.isStopped, hplaying, hat, timerDue, hreached]
  have hbody := Device.takeTick_of_inBeat (d := s.dev.beginEvent) (n := n) hcountIn htick hothers
  have hframe := takeClickTick_frame s.dev.click.mute .playing s.dev.tempo.beat (s.dev.tempo.tick + 1) n
    s.dev.click.lines[n] s.dev.stage
  obtain ⟨t, ht, ⟨p, q, hs⟩, hj, hc⟩ := State.event_outcome (body := Device.takeTick)
    { s.dev.beginEvent with
      tempo := s.dev.tempo.nextInBeat s.dev.now
      click := { s.dev.click with lines := s.dev.click.lines.set n taken.1 }
      stage := taken.2 }
    taken.2.entries [.tempo, .click, .ports] hdue hr hen hpc (.inl (by simp [heng, EngineState.isRunning]))
    (by rw [hbody]; simp only [Device.onLine, Device.beginEvent, hplaying]; rfl) rfl rfl
    (Device.drainOver_of_state (by simp [Device.beginEvent, heng])) fun b => by
      change taken.2 = _ at hframe
      cases b <;> simp [Block.agrees, Device.beginEvent] <;> rw [hframe]
  exact ⟨t, congrArg _ ht.symm, by rw [hs], by rw [hs], hj, hc⟩

/-! ## The end of a pulse -/

/-- A line's width expires (R108), given what that leaves of the line and the stage. -/
theorem State.clickWidthExpiry_outcome {s : State} {n : Fin 4} {m : Word} {l : ClickLine} {st : Stage} (bs : List Block)
    (hon : s.isOnline = true) (hat : s.dev.click.lines[n].endsAt = some m) (hreached : reached s.dev.now m = true)
    (hbody : endPulse n s.dev.click.lines[n] s.dev.stage = (l, st)) (hfr : s.dev.stage.ChangesOnly bs st) :
    ∃ t, exec (.clickWidthExpiry n) s = .next t
      ∧ t.dev.click = { s.dev.click with lines := s.dev.click.lines.set n l }
      ∧ t.dev.stage.ports = st.ports ∧ Journaled st.entries s t ∧ EventChanges (.click :: bs) s t := by
  obtain ⟨hr, heng, hen, hpc⟩ := State.isOnline_spec hon
  have hdone := Device.onLine_eq (d := s.dev.beginEvent) (k := n) (f := endPulse n) hbody
  obtain ⟨t, ht, ⟨p, q, hs⟩, hj, hc⟩ := State.event_outcome (due := timerDue s.dev.now s.dev.click.lines[n].endsAt)
    (body := fun d => d.onLine n (endPulse n))
    { s.dev.beginEvent with click := { s.dev.click with lines := s.dev.click.lines.set n l }, stage := st }
    st.entries (.click :: bs) (by rw [hat]; exact hreached) hr hen hpc (.inl (by simp [heng, EngineState.isRunning]))
    hdone rfl rfl (Device.drainOver_of_state (by simp [heng])) fun b => by
      have hstage := (hfr.cons (b := .click)).agrees s.dev.eventStamp (.inr rfl) b
      cases b <;> simp [Block.agrees, Device.beginEvent] at hstage ⊢ <;> exact hstage
  exact ⟨t, congrArg _ ht.symm, by rw [hs], by rw [hs], hj, hc⟩

/-- Settles O32: a tick at a line, the tick of the transport that brings it there, and the end of a pulse without a note,
with a note that its lane takes, and with one that it drops. -/
theorem clickPulsesBeginAndEnd : Obligations.ClickPulsesBeginAndEnd := by
  refine ⟨clickTickSays, fun s n hon hdue hc ht ho => State.tick_inBeat hon hdue hc ht ho, fun s n m hon hat hreached =>
    ⟨fun hsilent => ?_, fun k hsounding => ?_⟩⟩
  · obtain ⟨t, ht, hclick, -, hj, hc⟩ := State.clickWidthExpiry_outcome [] hon hat hreached
      (endNote_of_silent (l := { s.dev.click.lines[n] with endsAt := none }) hsilent n s.dev.stage)
      ⟨rfl, .inr rfl, .inr rfl, .inr rfl, .inr rfl⟩
    obtain ⟨-, -, hen, -⟩ := State.isOnline_spec hon
    exact ⟨t, ht, hclick, hen ▸ hj, hc⟩
  · obtain ⟨-, -, hen, -⟩ := State.isOnline_spec hon
    obtain ⟨t, ht, hclick, hports, hj, hc⟩ := State.clickWidthExpiry_outcome (s := s) [.ports] hon hat hreached
      (endNote_of_sounding (l := { s.dev.click.lines[n] with endsAt := none }) hsounding n s.dev.stage)
      (by rw [Stage.offerClick_frame]; exact ⟨rfl, .inr rfl, .inr rfl, .inl (by simp), .inr rfl⟩)
    refine ⟨t, ht, hclick, fun hroom => ?_, fun hfull => ?_, hc⟩
    · rw [Stage.offerClick_of_room hroom] at hports hj
      exact ⟨hports, hen ▸ hj⟩
    · rw [Stage.offerClick_of_full hfull] at hports hj
      exact ⟨hports, by simpa [Stage.emit, hen] using hj⟩

end Sys2Proof.Machine
end

section
/-! RELOAD (R172): the event of a RELOAD, what each section does to its owner (R57, R99, R113, R152, R166), and a rewrite of
the state page for a section read whole (R181). -/
namespace Sys2Proof.Machine

open Sys2Proof

/-! ## Folds that change each place of a vector once -/

/-- Changing the places of a list without doubles. -/
theorem getElem_foldl_vecModify {α : Type} {n : Nat} (f : Fin n → α → α) (j : Fin n) (ks : List (Fin n))
    (hnodup : ks.Nodup) (v : Vector α n) :
    (ks.foldl (fun v k => vecModify v k (f k)) v)[j] = if j ∈ ks then f j v[j] else v[j] := by
  induction ks generalizing v with
  | nil => simp
  | cons k ks ih =>
    obtain ⟨hk, hks⟩ := List.nodup_cons.1 hnodup
    rw [List.foldl_cons, ih hks, getElem_vecModify]
    by_cases h : k = j
    · subst h
      simp [hk]
    · simp [h, Ne.symm h]

/-- Changing every place once. -/
theorem foldl_vecModify {α : Type} {n : Nat} (f : Fin n → α → α) (v : Vector α n) :
    (List.finRange n).foldl (fun v k => vecModify v k (f k)) v = Vector.ofFn fun k => f k v[k] := by
  ext j hj
  have := getElem_foldl_vecModify f ⟨j, hj⟩ (List.finRange n) (List.nodup_finRange n) v
  simpa using this

/-! ## The state page after an event that causes a rewrite (R181) -/

/-- A cause noted in ONLINE or DRAINING begins a rewrite, or marks one owed. -/
theorem PageCaused.of_settle {s : State} {d : Device} (m : Mem) (hover : d.drainOver = false)
    (hrun : d.engine.state.isRunning = true) (hcause : d.pageCause = true) (hpage : d.page = s.dev.page) :
    PageCaused s (s.settle d m) := by
  have hdev : (s.settle d m).dev =
      { d.afterHanding s.dev.engine.state with pageCause := false : Device }.rewriteCaused := by
    rw [State.settle, State.endEvent_not_over m _ hover]
    simp [Device.pageSettle, Device.pageWritten, Device.pageDue, Device.afterHanding, Device.journalSettle,
      Device.restamp, hrun, hcause]
  have hkept : (d.afterHanding s.dev.engine.state).page = s.dev.page := hpage
  rw [PageCaused, hdev, Device.rewriteCaused, ← hkept]
  split <;> rfl

/-! ## The event of a RELOAD -/

/-- The part as a RELOAD's work begins. -/
def Device.atRequest (d : Device) : Device := d.beginEvent.onReq RequestUnit.beginWork

/-- A RELOAD that is answered last, from what its work leaves before that: the whole next state, its completion, its
entries, its frame and its rewrite. -/
theorem State.reload_answered {s : State} {bus : Bus} {r : Request} {d : Device} {run : PortRun} {code : ResultCode}
    {value : Nat} (bs : List Block) (hon : s.isOnline = true) (hreq : s.hasRequest 14#8 r)
    (hb : s.dev.atRequest.reloadRequest r { mem := s.mem, bus := bus } = (d.answer r code value, run))
    (hq : d.req = s.dev.req.beginWork) (hl : d.layout = s.dev.layout) (ha : d.regs.area = s.dev.regs.area)
    (he : d.engine = s.dev.engine)
    (hbs : ∀ b : Block, b ∈ bs ∨ b ∈ [Block.req, .mem, .entries, .eventStamp, .page, .pageCause, .journalQueue] ∨
      b.agrees s { s with dev := d }) :
    ∃ t, exec (.reload bus) s = .next t
      ∧ (∃ (p : PageWriter) (q : RequestUnit), t =
          { s with
            mem := run.mem
            dev :=
              { d with
                eventStamp := d.stampHere, req := q, page := p, pageCause := false
                jw := { d.jw with
                  queue := d.jw.queue ++ d.jw.hand d.stampHere d.stage.entries
                  rearm := d.jw.rearm && d.stage.entries.isEmpty }
                stage := { d.stage with entries := [] } } })
      ∧ Answered r code value s t
      ∧ (d.jw = s.dev.jw → Journaled d.stage.entries s t)
      ∧ (d.pageCause = true → d.page = s.dev.page → PageCaused s t)
      ∧ (.mem ∈ bs ∨ run.mem = s.mem → EventChanges (.req :: bs) s t) := by
  obtain ⟨hr, heng, hen, hpc⟩ := State.isOnline_spec hon
  obtain ⟨hhanded, hkind⟩ := hreq
  have hrun : s.dev.engine.state.isRunning = true := by rw [heng]; rfl
  let d' : Device := (d.answer r code value).onReq RequestUnit.nextSlot
  have hover : d'.drainOver = false := Device.drainOver_of_state (by
    show d.engine.state ≠ .draining
    rw [he, heng]; decide)
  have hexec : exec (.reload bus) s = .next (s.settle d' run.mem) := by
    have hwork : s.dev.beginEvent.carryOutReload r { mem := s.mem, bus := bus } = (d', run) := by
      unfold Device.carryOutReload
      dsimp only
      rw [if_pos (by exact heng)]
      exact congrArg (fun x : Device × PortRun => (x.1.onReq RequestUnit.nextSlot, x.2)) hb
    show execReload bus s = _
    simp only [execReload, hhanded, State.portEvent, hr, hkind, hwork]
    rfl
  have hs := State.settle_eq (s := s) run.mem hover
  have hhand : d'.handedOver s.dev.engine.state = d.stage.entries := by
    rw [Device.handedOver, if_pos hrun]; rfl
  rw [hhand] at hs
  have hpage := PageCaused.of_settle (s := s) (d := d') run.mem hover (by
    show d.engine.state.isRunning = true
    rw [he]; exact hrun)
  generalize s.settle d' run.mem = t at hexec hs hpage
  refine ⟨t, hexec, ⟨t.dev.page, d'.req, hs⟩, ?_, ?_, hpage, ?_⟩
  · obtain ⟨n, hn⟩ := RequestUnit.handedRequest_spec hhanded
    rw [hs]
    simp [d', Answered, Device.answer, Device.complete, Device.onReq, hq, RequestUnit.beginWork, hn, RequestUnit.nextSlot,
      RequestUnit.endScan, RequestUnit.scanWaits, RequestUnit.working, slotOffset, rigAddress, hl, ha, Device.stampHere]
  · intro hjw
    rw [hs]
    have hjw' : d'.jw = s.dev.jw := hjw
    simp [Journaled, JournalWriter.hand, hjw']
  · intro hmem
    refine onlyChanges_of_forall fun b => ?_
    have hb := hbs b
    rw [hs]
    revert hb
    cases b
    case mem => simpa [Block.agrees, bookkeeping] using hmem
    all_goals simp [Block.agrees, bookkeeping, hen, hpc, d', Device.answer, Device.complete, Device.onReq]

/-- A section read whole and applied: what the RELOAD leaves beside its owner (R171, R172). -/
theorem State.reload_applied {s : State} {bus : Bus} {r : Request} {sec : Section} {parts : List (List Byte)}
    {run : PortRun} {d : Device} {clamps : Nat} (bs : List Block) (hon : s.isOnline = true) (hreq : s.hasRequest 14#8 r)
    (hsec : sectionOf r.arg1.toNat = some sec)
    (hread : readParts s.dev (sectionParts sec) { mem := s.mem, bus := bus } = (.ok parts, run))
    (hrefused : sectionRefused s.dev.atRequest sec parts.flatten = false)
    (hd : s.dev.atRequest.applySection sec parts.flatten = d)
    (hclamps : sectionClamps s.dev.atRequest sec parts.flatten = clamps)
    (hframe : d = { s.dev.atRequest with
      click := d.click, pedals := d.pedals, sync := d.sync, progSelect := d.progSelect, jw := d.jw
      stage := { s.dev.stage with ports := d.stage.ports } })
    (hbs : ∀ b : Block, b ∈ bs ∨ b ∈ [Block.req, .entries, .eventStamp, .page, .pageCause, .journalQueue] ∨
      b.agrees s { s with dev := d }) :
    ∃ t, Reloaded s t bus r run.mem sec clamps bs
      ∧ (∃ (p : PageWriter) (q : RequestUnit), t =
          { s with
            mem := run.mem
            dev :=
              { d with
                clampCount := clamps, clampSection := sec, eventStamp := d.stampHere, req := q, page := p
                pageCause := false } })
      ∧ (d.jw = s.dev.jw → Journaled [] s t) := by
  obtain ⟨hr, heng, hen, hpc⟩ := State.isOnline_spec hon
  have hread' : readParts s.dev.atRequest (sectionParts sec) { mem := s.mem, bus := bus } = (.ok parts, run) :=
    (readParts_congr (d := s.dev.atRequest) (e := s.dev) rfl _ _).trans hread
  have hb : s.dev.atRequest.reloadRequest r { mem := s.mem, bus := bus } =
      ((Device.causePage { d with clampCount := clamps, clampSection := sec }).answer r .ok clamps, run) := by
    simp only [Device.reloadRequest, hsec, hread', Device.sectionRead, hrefused, hd, hclamps]
    rfl
  obtain ⟨t, ht, hs, ha, hj, hp, hc⟩ := State.reload_answered (.mem :: .clamps :: bs) hon hreq hb
    (by rw [hframe]; rfl) (by rw [hframe]; rfl) (by rw [hframe]; rfl) (by rw [hframe]; rfl) fun b => by
      have hb := hbs b
      revert hb
      cases b <;> simp +contextual [Block.agrees, Device.causePage]
  have hnone : d.stage.entries = [] := by rw [hframe]; exact hen
  obtain ⟨p, q, hs⟩ := hs
  have hs : t = { s with
      mem := run.mem
      dev :=
        { d with
          clampCount := clamps, clampSection := sec, eventStamp := d.stampHere, req := q, page := p
          pageCause := false } } := by
    rw [hs, hframe]
    simp [Device.causePage, hen, JournalWriter.hand]
    rfl
  refine ⟨t, ⟨ht, by rw [hs], by rw [hs], by rw [hs], ha, hp rfl (by rw [hframe]; rfl), (hc (.inl (by simp))).mono ?_⟩,
    ⟨p, q, hs⟩, fun hjw => hnone ▸ hj hjw⟩
  simp +contextual [or_imp]

/-! ## What each section does to its owner -/

/-- A line that is idle takes its setup and no more (R113). -/
theorem reloadLine_of_idle {l : ClickLine} (h : l.endsAt = none) (setup : ClickSetup) (n : Fin 4) (st : Stage) :
    reloadLine setup n l st = ({ l with setup := setup }, st) := by
  have hactive : endActive n l st = (l, st) := by simp [endActive, h]
  unfold reloadLine
  split <;> simp [hactive]

/-- Where every line is idle, CLICK replaces their setups (R113). -/
theorem Device.reloadClick_of_idle {d : Device} (h : ∀ n : Fin 4, d.click.lines[n].endsAt = none) (bs : List Byte) :
    d.reloadClick bs =
      { d with
        click := { d.click with
          lines := Vector.ofFn fun n : Fin 4 => { d.click.lines[n] with setup := clickSetupOf (clickBytes bs n.val) } } } := by
  have fold (ns : List (Fin 4)) : ∀ d : Device, (∀ n : Fin 4, d.click.lines[n].endsAt = none) →
      ns.foldl (fun d n => d.onLine n (reloadLine (clickSetupOf (clickBytes bs n.val)) n)) d =
        { d with
          click := { d.click with
            lines := ns.foldl (fun v n => vecModify v n fun l => { l with setup := clickSetupOf (clickBytes bs n.val) })
              d.click.lines } } := by
    induction ns with
    | nil => exact fun d _ => rfl
    | cons n ns ih =>
      intro d hidle
      rw [List.foldl_cons, onLine_eq (reloadLine_of_idle (hidle n) _ n d.stage), ih]
      · rfl
      · intro k
        show (vecModify d.click.lines n fun l => { l with setup := clickSetupOf (clickBytes bs n.val) })[k].endsAt = none
        rw [getElem_vecModify]
        split <;> exact hidle k
  unfold reloadClick onLines
  rw [fold _ d h, foldl_vecModify]

/-- A pedal that is RELEASED under the setup of a RELOAD (R152). -/
def Pedal.reloaded (p : Pedal) (setup : PedalSetup) (now : Word) : Pedal :=
  if p.setup.function = setup.function ∧ p.setup.polarity = setup.polarity ∧ p.setup.mask = setup.mask then
    { p with setup := setup }
  else p.enter setup now

/-- It stays RELEASED. -/
theorem Pedal.reloaded_pressed {p : Pedal} (h : p.pressed = false) (setup : PedalSetup) (now : Word) :
    (p.reloaded setup now).pressed = false := by
  unfold reloaded
  split
  · exact h
  · rw [Pedal.enter_eq]

/-- A pedal that is RELEASED is set up without a dispatch (R152). -/
theorem Device.reloadPedal_of_released {d : Device} {n : Fin 8} (h : d.pedals[n].pressed = false) (setup : PedalSetup) :
    d.reloadPedal n setup = { d with pedals := vecModify d.pedals n fun p => p.reloaded setup d.now } := by
  have hsame : d.pedals[n].setup.sameOrder setup = true ↔
      d.pedals[n].setup.function = setup.function ∧ d.pedals[n].setup.polarity = setup.polarity ∧
        d.pedals[n].setup.mask = setup.mask := by
    simp [PedalSetup.sameOrder, and_assoc]
  unfold reloadPedal
  split <;> rename_i hs
  · simp only [onPedal, vecModify, Pedal.reloaded, if_pos (hsame.1 hs)]
  · simp only [h, onPedal, vecModify, Pedal.reloaded, if_neg (mt hsame.2 hs)]
    rfl

/-- Where every pedal is RELEASED, PEDALS sets up each (R152). -/
theorem Device.reloadPedals_of_released {d : Device} (h : ∀ n : Fin 8, d.pedals[n].pressed = false) (bs : List Byte) :
    d.reloadPedals bs =
      { d with
        pedals := Vector.ofFn fun n : Fin 8 => d.pedals[n].reloaded (pedalSetupOf (pedalBytes bs n.val)) d.now } := by
  have fold (ns : List (Fin 8)) : ∀ d : Device, (∀ n : Fin 8, d.pedals[n].pressed = false) →
      ns.foldl (fun d n => d.reloadPedal n (pedalSetupOf (pedalBytes bs n.val))) d =
        { d with
          pedals := ns.foldl
            (fun v n => vecModify v n fun p => p.reloaded (pedalSetupOf (pedalBytes bs n.val)) d.now) d.pedals } := by
    induction ns with
    | nil => exact fun d _ => rfl
    | cons n ns ih =>
      intro d hreleased
      rw [List.foldl_cons, reloadPedal_of_released (hreleased n), ih]
      · rfl
      · intro k
        show (vecModify d.pedals n _)[k].pressed = false
        rw [getElem_vecModify]
        split
        · exact Pedal.reloaded_pressed (hreleased k) _ _
        · exact hreleased k
  unfold reloadPedals
  rw [fold _ d h, foldl_vecModify]

/-- A port's polarity at RELOAD: at once on an idle port, else pending when it differs (R57). -/
theorem ModulePort.reloadPolarity_eq (mp : ModulePort) (pol : Polarity) :
    mp.reloadPolarity pol =
      if mp.tx = .idle then { mp with polarity := pol, pendingPolarity := none }
      else { mp with pendingPolarity := if mp.polarity = pol then none else some pol } := by
  unfold reloadPolarity
  cases mp.tx <;> rfl

/-- Every port takes its polarity. -/
theorem Stage.reloadPolarities_eq (st : Stage) (b : Nat) :
    st.reloadPolarities b =
      { st with ports := Vector.ofFn fun p : Fin 6 => st.ports[p].reloadPolarity (polarityBit b p.val) } := by
  have fold (ps : List (Fin 6)) (st : Stage) :
      ps.foldl (fun st p => st.modifyPort p (·.reloadPolarity (polarityBit b p.val))) st =
        { st with ports := ps.foldl (fun v p => vecModify v p (·.reloadPolarity (polarityBit b p.val))) st.ports } := by
    induction ps generalizing st with
    | nil => rfl
    | cons p ps ih => rw [List.foldl_cons, ih]; rfl
  unfold reloadPolarities
  rw [fold, foldl_vecModify]

/-- PORTS replaces the program select and hands every port its polarity (R57, R172). -/
theorem Device.reloadPorts_eq (d : Device) (bs : List Byte) :
    d.reloadPorts bs =
      { d with
        progSelect := (progSelectOf (fieldAt bs 0 1) (fieldAt bs 1 1)).1
        stage := { d.stage with
          ports := Vector.ofFn fun p : Fin 6 => d.stage.ports[p].reloadPolarity (polarityBit (fieldAt bs 2 1) p.val) } } := by
  rw [← Stage.reloadPolarities_eq]
  rfl

/-! ## Reading a section -/

/-- A section of one part, read whole. -/
theorem readParts_of_read {d : Device} {run : PortRun} {off n : Nat} {bs : List Byte}
    (h : (portRead run (rigAddress d off) n).1 = some bs) :
    readParts d [(off, n)] run = (.ok [bs], (portRead run (rigAddress d off) n).2) := by
  have hread : portRead run (rigAddress d off) n = (some bs, (portRead run (rigAddress d off) n).2) := Prod.ext h rfl
  rw [readParts, hread]
  rfl

/-- An accepted read answers with as many bytes as it asked for (R168). -/
theorem portRead_length {run : PortRun} {addr n : Nat} {bs : List Byte} (h : (portRead run addr n).1 = some bs) :
    bs.length = n := by
  unfold portRead at h
  dsimp only at h
  split at h
  · cases h
  · obtain rfl := Option.some.inj h
    simp [memReadBytes]

/-- So do the reads of parts (R14, R172). -/
theorem readParts_lengths {d : Device} {parts : List (Nat × Nat)} {run : PortRun} {bss : List (List Byte)}
    (h : (readParts d parts run).1 = .ok bss) : bss.map List.length = parts.map Prod.snd := by
  induction parts generalizing run bss with
  | nil =>
    obtain rfl : [] = bss := Except.ok.inj h
    rfl
  | cons part parts ih =>
    obtain ⟨off, n⟩ := part
    rcases hread : portRead run (rigAddress d off) n with ⟨_ | bs, run'⟩
    · simp [readParts, hread] at h
    · have hlength : bs.length = n := portRead_length (congrArg Prod.fst hread)
      rcases hrest : readParts d parts run' with ⟨e | rest, run''⟩
      · simp [readParts, hread, hrest] at h
      · obtain rfl : bs :: rest = bss := by simpa [readParts, hread, hrest] using h
        simp [hlength, ih (congrArg Prod.fst hrest)]

/-- The section codes of RELOAD are 1 to 5 (R172). -/
theorem sectionOf_eq_none {n : Nat} (h : n < 1 ∨ 5 < n) : sectionOf n = none := by
  unfold sectionOf
  repeat rw [if_neg (by omega)]

/-! ## RELOAD by its argument and its reads -/

section Reload

variable {s : State} {bus : Bus} {r : Request} (hon : s.isOnline = true) (hreq : s.hasRequest 14#8 r)
include hon hreq

/-- An argument that names no section (R172). -/
theorem State.reload_badSection (h : r.arg1.toNat < 1 ∨ 5 < r.arg1.toNat) :
    ∃ t, exec (.reload bus) s = .next t ∧ Answered r .badArg 1 s t ∧ Journaled [] s t ∧ EventChanges [.req] s t := by
  obtain ⟨-, -, hen, -⟩ := State.isOnline_spec hon
  obtain ⟨t, ht, -, ha, hj, -, hc⟩ := State.reload_answered (bus := bus) (d := s.dev.atRequest) (code := .badArg)
    (value := 1) (run := { mem := s.mem, bus := bus }) [] hon hreq
    (by simp only [Device.reloadRequest, sectionOf_eq_none h]) rfl rfl rfl rfl
    (by intro b; cases b <;> simp [Block.agrees, Device.atRequest, Device.beginEvent, Device.onReq])
  have hnone : s.dev.atRequest.stage.entries = [] := hen
  exact ⟨t, ht, ha, hnone ▸ hj rfl, hc (.inr rfl)⟩

/-- A section whose read failed (R172). -/
theorem State.reload_readFailed {sec : Section} {off : Nat} (hsec : sectionOf r.arg1.toNat = some sec)
    (hread : (readParts s.dev (sectionParts sec) { mem := s.mem, bus := bus }).1 = .error off) :
    ∃ t, exec (.reload bus) s = .next t
      ∧ t.mem = (readParts s.dev (sectionParts sec) { mem := s.mem, bus := bus }).2.mem
      ∧ Answered r .memory 0 s t ∧ FaultRaised .memory s t ∧ Journaled [.memory off .header] s t
      ∧ EventChanges [.req, .mem, .faults, .causes, .attnPulse] s t := by
  obtain ⟨-, -, hen, -⟩ := State.isOnline_spec hon
  have hread' : readParts s.dev.atRequest (sectionParts sec) { mem := s.mem, bus := bus } =
      (.error off, (readParts s.dev (sectionParts sec) { mem := s.mem, bus := bus }).2) :=
    (readParts_congr (d := s.dev.atRequest) (e := s.dev) rfl _ _).trans (Prod.ext hread rfl)
  obtain ⟨t, ht, ⟨p, q, hs⟩, ha, hj, -, hc⟩ := State.reload_answered (bus := bus)
    (d := s.dev.atRequest.memoryFailure off .header)
    (run := (readParts s.dev (sectionParts sec) { mem := s.mem, bus := bus }).2) (code := .memory) (value := 0)
    [.mem, .faults, .causes, .attnPulse] hon hreq (by simp only [Device.reloadRequest, hsec, hread']) rfl rfl
    (Registers.setFault_area ..) rfl fun b => by
      cases b <;> simp [Block.agrees, Device.memoryFailure, Device.setFault, Device.emit, Device.atRequest,
        Device.beginEvent, Device.onReq, Stage.emit]
  have hentries : (s.dev.atRequest.memoryFailure off .header).stage.entries = [.memory off .header] := by
    show s.dev.stage.entries ++ _ = _
    rw [hen]; rfl
  exact ⟨t, ht, by rw [hs], ha, FaultRaised.of_setFault (by rw [hs]; rfl), hentries ▸ hj rfl, hc (.inl (by simp))⟩

/-- CLICK where every line is idle (R113). -/
theorem State.reload_click (harg : r.arg1 = 1) (hidle : ∀ n : Fin 4, s.dev.click.lines[n].endsAt = none)
    {bs : List Byte} (hread : (portRead { mem := s.mem, bus := bus } (rigAddress s.dev 48) 64).1 = some bs) :
    ∃ t, Reloaded s t bus r (portRead { mem := s.mem, bus := bus } (rigAddress s.dev 48) 64).2.mem .click
        ((List.range 4).map fun n => clickSetupClamps (clickBytes bs n)).sum [.click]
      ∧ Journaled [] s t
      ∧ t.dev.click =
          { s.dev.click with
            lines := Vector.ofFn fun n : Fin 4 =>
              { s.dev.click.lines[n] with setup := clickSetupOf (clickBytes bs n.val) } } := by
  obtain ⟨t, hreloaded, ⟨p, q, hs⟩, hj⟩ := State.reload_applied (sec := .click) [.click] hon hreq (by rw [harg]; rfl)
    (readParts_of_read hread) rfl (Device.reloadClick_of_idle (d := s.dev.atRequest) hidle _) rfl rfl fun b => by
      cases b <;> simp [Block.agrees, Device.atRequest, Device.beginEvent, Device.onReq]
  simp only [List.flatten_singleton] at hreloaded hs
  exact ⟨t, hreloaded, hj rfl, by rw [hs]; rfl⟩

/-- PEDALS where every pedal is RELEASED (R152). -/
theorem State.reload_pedals (harg : r.arg1 = 2) (hreleased : ∀ n : Fin 8, s.dev.pedals[n].pressed = false)
    {bs : List Byte} (hread : (portRead { mem := s.mem, bus := bus } (rigAddress s.dev 112) 32).1 = some bs) :
    ∃ t, Reloaded s t bus r (portRead { mem := s.mem, bus := bus } (rigAddress s.dev 112) 32).2.mem .pedals
        ((List.range 8).map fun n => pedalSetupClamps (pedalBytes bs n)).sum [.pedals]
      ∧ Journaled [] s t
      ∧ ∀ n : Fin 8, t.dev.pedals[n] = s.dev.pedals[n].reloaded (pedalSetupOf (pedalBytes bs n.val)) s.dev.now := by
  obtain ⟨t, hreloaded, ⟨p, q, hs⟩, hj⟩ := State.reload_applied (sec := .pedals) [.pedals] hon hreq (by rw [harg]; rfl)
    (readParts_of_read hread) rfl (Device.reloadPedals_of_released (d := s.dev.atRequest) hreleased _) rfl rfl fun b => by
      cases b <;> simp [Block.agrees, Device.atRequest, Device.beginEvent, Device.onReq]
  simp only [List.flatten_singleton] at hreloaded hs
  exact ⟨t, hreloaded, hj rfl, fun n => by rw [hs]; simp; rfl⟩

/-- SYNC (R99). -/
theorem State.reload_sync (harg : r.arg1 = 3) {bs : List Byte}
    (hread : (portRead { mem := s.mem, bus := bus } (rigAddress s.dev 40) 4).1 = some bs) :
    ∃ t, Reloaded s t bus r (portRead { mem := s.mem, bus := bus } (rigAddress s.dev 40) 4).2.mem .sync
        (syncSettingsOf bs).2 [.sync]
      ∧ Journaled [] s t
      ∧ t.dev.sync = s.dev.sync.reload (min 96 (fieldAt bs 0 1)) (min 6 (fieldAt bs 1 1)) (min 500 (fieldAt bs 2 2)) := by
  obtain ⟨t, hreloaded, ⟨p, q, hs⟩, hj⟩ := State.reload_applied (sec := .sync) [.sync] hon hreq (by rw [harg]; rfl)
    (readParts_of_read hread) rfl rfl rfl rfl fun b => by
      cases b <;> simp [Block.agrees, Device.applySection, Device.reloadSync, Device.onSync, Device.atRequest,
        Device.beginEvent, Device.onReq]
  simp only [List.flatten_singleton] at hreloaded hs
  exact ⟨t, hreloaded, hj rfl, by rw [hs]; rfl⟩

/-- PORTS, from its two reads (R57, R172). -/
theorem State.reload_ports (harg : r.arg1 = 4) {selects polarities : List Byte}
    (hread : (readParts s.dev [(34, 2), (39, 1)] { mem := s.mem, bus := bus }).1 = .ok [selects, polarities]) :
    ∃ t, Reloaded s t bus r (readParts s.dev [(34, 2), (39, 1)] { mem := s.mem, bus := bus }).2.mem .ports
        (progSelectOf (fieldAt selects 0 1) (fieldAt selects 1 1)).2 [.ports, .progSelect]
      ∧ Journaled [] s t
      ∧ t.dev.progSelect = (progSelectOf (fieldAt selects 0 1) (fieldAt selects 1 1)).1
      ∧ ∀ p : Fin 6, t.dev.stage.ports[p] =
          s.dev.stage.ports[p].reloadPolarity (polarityBit (fieldAt polarities 0 1) p.val) := by
  obtain ⟨hselects, hpolarities⟩ : selects.length = 2 ∧ polarities.length = 1 := by
    simpa using readParts_lengths hread
  obtain ⟨a, b, rfl⟩ := List.length_eq_two.1 hselects
  obtain ⟨c, rfl⟩ := List.length_eq_one_iff.1 hpolarities
  obtain ⟨t, hreloaded, ⟨p, q, hs⟩, hj⟩ := State.reload_applied (sec := .ports) [.ports, .progSelect] hon hreq
    (by rw [harg]; rfl) (Prod.ext hread rfl) rfl (Device.reloadPorts_eq s.dev.atRequest _) rfl rfl fun b => by
      cases b <;> simp [Block.agrees, Device.atRequest, Device.beginEvent, Device.onReq]
  refine ⟨t, hreloaded, hj rfl, by rw [hs]; rfl, fun k => ?_⟩
  rw [hs]
  simp
  rfl

/-- JOURNAL under another offset or capacity (R166, R172). -/
theorem State.reload_journalRefused (harg : r.arg1 = 5) {bs : List Byte}
    (hread : (portRead { mem := s.mem, bus := bus } (rigAddress s.dev 24) 10).1 = some bs)
    (hother : ¬ (fieldAt bs 0 4 = s.dev.layout.journal ∧ fieldAt bs 4 2 = s.dev.layout.capacity)) :
    ∃ t, exec (.reload bus) s = .next t ∧ t.mem = (portRead { mem := s.mem, bus := bus } (rigAddress s.dev 24) 10).2.mem
      ∧ Answered r .badArg 1 s t ∧ Journaled [] s t ∧ EventChanges [.req, .mem] s t := by
  obtain ⟨-, -, hen, -⟩ := State.isOnline_spec hon
  have hread' := (readParts_congr (d := s.dev.atRequest) (e := s.dev) rfl _ _).trans (readParts_of_read hread)
  have hrefused : sectionRefused s.dev.atRequest .journal [bs].flatten = true := by
    rw [List.flatten_singleton]
    have hlayout : s.dev.atRequest.layout = s.dev.layout := rfl
    simp only [sectionRefused, hlayout, decide_true, Bool.true_and, Bool.or_eq_true, decide_eq_true_eq]
    exact not_and_or.1 hother
  obtain ⟨t, ht, ⟨p, q, hs⟩, ha, hj, -, hc⟩ := State.reload_answered (bus := bus) (d := s.dev.atRequest)
    (run := (portRead { mem := s.mem, bus := bus } (rigAddress s.dev 24) 10).2) (code := .badArg) (value := 1) [.mem] hon
    hreq
    (by
      have hsec : sectionOf r.arg1.toNat = some .journal := by rw [harg]; rfl
      simp only [Device.reloadRequest, hsec, sectionParts, hread', Device.sectionRead, hrefused, if_true])
    rfl rfl rfl rfl fun b => by cases b <;> simp [Block.agrees, Device.atRequest, Device.beginEvent, Device.onReq]
  have hnone : s.dev.atRequest.stage.entries = [] := hen
  exact ⟨t, ht, by rw [hs], ha, hnone ▸ hj rfl, hc (.inl (by simp))⟩

/-- JOURNAL under the offset and the capacity in use (R166). -/
theorem State.reload_journal (harg : r.arg1 = 5) {bs : List Byte}
    (hread : (portRead { mem := s.mem, bus := bus } (rigAddress s.dev 24) 10).1 = some bs)
    (hsame : fieldAt bs 0 4 = s.dev.layout.journal ∧ fieldAt bs 4 2 = s.dev.layout.capacity) :
    ∃ t, Reloaded s t bus r (portRead { mem := s.mem, bus := bus } (rigAddress s.dev 24) 10).2.mem .journal
        (sectionJournal bs s.dev.layout.capacity).2 [.journalSetup]
      ∧ t.dev.jw =
          { s.dev.jw with
            mode := (sectionJournal bs s.dev.layout.capacity).1.1
            watermark := (sectionJournal bs s.dev.layout.capacity).1.2.1
            mask := (sectionJournal bs s.dev.layout.capacity).1.2.2, rearm := true } := by
  have haccepted : sectionRefused s.dev.atRequest .journal [bs].flatten = false := by
    rw [List.flatten_singleton]
    have hlayout : s.dev.atRequest.layout = s.dev.layout := rfl
    simp [sectionRefused, hlayout, hsame]
  obtain ⟨t, hreloaded, ⟨p, q, hs⟩, -⟩ := State.reload_applied (sec := .journal) [.journalSetup] hon hreq
    (by rw [harg]; rfl) (readParts_of_read hread) haccepted rfl rfl rfl fun b => by
      cases b <;> simp [Block.agrees, Device.applySection, Device.reloadJournal, Device.onJournal, Device.atRequest,
        Device.beginEvent, Device.onReq]
  simp only [List.flatten_singleton] at hreloaded hs
  exact ⟨t, hreloaded, by rw [hs]; rfl⟩

end Reload

/-- Settles O50: each argument by its section, whose work on its owner is told by its own lemma. -/
theorem reloadAppliesTheSection : Obligations.ReloadAppliesTheSection := by
  intro s bus r hon hreq run read
  refine ⟨State.reload_badSection hon hreq, fun sec off hsec hread => State.reload_readFailed hon hreq hsec hread,
    fun harg hidle bs hread => State.reload_click hon hreq harg hidle hread, fun harg hreleased bs hread => ?_,
    fun harg bs hread => ?_, fun harg selects polarities hread => ?_, fun harg bs hread =>
      ⟨State.reload_journalRefused hon hreq harg hread, State.reload_journal hon hreq harg hread⟩⟩
  · obtain ⟨t, ht, hj, hpedals⟩ := State.reload_pedals hon hreq harg hreleased hread
    refine ⟨t, ht, hj, fun n => ?_⟩
    rw [hpedals n, Pedal.reloaded, Pedal.enter_eq]
  · exact State.reload_sync hon hreq harg hread
  · obtain ⟨t, ht, hj, hselect, hports⟩ := State.reload_ports hon hreq harg hread
    exact ⟨t, ht, hj, hselect, fun p => (hports p).trans (ModulePort.reloadPolarity_eq _ _)⟩

end Sys2Proof.Machine
end

section
/-! The enable cleared in ONLINE (R188): the change withdrawn (R141), the transport, the glide and the click lines stopped, the
voices released, and a drain that begins, or is over at once (R189). -/
namespace Sys2Proof.Machine

open Sys2Proof

/-! ## The change withdrawn with OFFLINE (R141) -/

/-- The completions of a change that a drain withdraws: that of a cue in progress, then that of a GO request. -/
def offlineCompletions (s : State) (stamp : Stamp) (inScan : Bool) (c : ChangeUnit) : List Completion :=
  (c.load.elim [] fun ld => cueCompletion s stamp inScan ld.origin .offline 0) ++
    goCompletion s stamp inScan c.go .offline 0

/-- Its entries: CUE_TAKEN for a copy in progress. -/
def offlineEntries (c : ChangeUnit) : List Entry :=
  c.load.elim [] fun ld => [.cueTaken ld.headRead .offline 0 ld.origin ld.scene ld.position]

/-- The change unit as a drain begins. -/
theorem Device.drainChange_eq {s : State} {d : Device} (hl : d.layout = s.dev.layout)
    (ha : d.regs.area = s.dev.regs.area) :
    d.drainChange =
      { d with
        change := d.change.withdraw
        req := d.req.give (offlineCompletions s d.stampHere d.req.working d.change)
        stage := { d.stage with entries := d.stage.entries ++ offlineEntries d.change } } := by
  unfold Device.drainChange Device.abandonCue
  cases hld : d.change.load with
  | none =>
    simp [Device.completeGo_eq (s := s) hl ha, offlineCompletions, offlineEntries, ChangeUnit.withdraw, hld,
      Device.onChange, Device.onReq]
  | some ld =>
    simp [Device.completeGo_eq (s := s), Device.completeCue_eq (s := s), hl, ha, offlineCompletions, offlineEntries,
      ChangeUnit.withdraw, hld, Device.onChange, Device.onReq, Device.emit, Stage.emit, Device.stampHere]

/-- A withdrawn change unit is IDLE with nothing in progress. -/
theorem ChangeUnit.withdraw_idle (c : ChangeUnit) :
    c.withdraw.state = .idle ∧ c.withdraw.load = none ∧ c.withdraw.go = none ∧ c.withdraw.copy = none := by
  unfold ChangeUnit.withdraw
  split <;> exact ⟨rfl, rfl, rfl, rfl⟩

/-! ## The transport, the glide and the click lines stopped (R65, R75, R112) -/

/-- What a drain stops at the timing units. -/
def Device.silenced (d : Device) : Device := (d.stopTempo .drain).cancelGlide.clickStop

/-- A tempo made current is no change of the transport (R62). -/
@[simp] theorem Tempo.setCurrent_transport (r : Tempo) (v : Nat) : (r.setCurrent v).transport = r.transport := by
  unfold setCurrent
  dsimp only
  split <;> rfl

/-- Nor is a meter taken (R65). -/
@[simp] theorem Tempo.takeMeterStopped_transport (r : Tempo) : r.takeMeterStopped.transport = r.transport := by
  unfold takeMeterStopped
  dsimp only
  split <;> rfl

/-- Nor is a pending tempo made current (R71). -/
@[simp] theorem Device.applyPendingTempo_transport (d : Device) :
    d.applyPendingTempo.tempo.transport = d.tempo.transport := by
  unfold applyPendingTempo
  split
  · rfl
  · unfold makeCurrent
    dsimp only
    split <;> exact Tempo.setCurrent_transport _ _

/-- A stopped transport is STOPPED. -/
theorem Device.stopTempo_transport (d : Device) (cause : TransportCause) :
    (d.stopTempo cause).tempo.transport = .stopped := by
  unfold stopTempo
  split
  · rename_i h
    exact of_decide_eq_true h
  · exact (Tempo.takeMeterStopped_transport _).trans (applyPendingTempo_transport _)

/-- A cancelled glide is gone, and the transport stays. -/
theorem Device.cancelGlide_tempo (d : Device) : d.cancelGlide.tempo = { d.tempo with glide := none } := by
  unfold cancelGlide
  split
  · rename_i h
    rw [← h]
  · rfl

/-- A pending tempo made current changes the tempo record and hands entries. -/
theorem Device.applyPendingTempo_frame (d : Device) :
    d.applyPendingTempo =
      { d with
        tempo := d.applyPendingTempo.tempo
        stage := { d.stage with entries := d.applyPendingTempo.stage.entries } } := by
  unfold applyPendingTempo makeCurrent
  split
  · rfl
  · dsimp only
    split <;> rfl

/-- So does the transport stopped and the glide cancelled. -/
theorem Device.stopTempo_cancelGlide_frame (d : Device) (cause : TransportCause) :
    (d.stopTempo cause).cancelGlide =
      { d with
        tempo := (d.stopTempo cause).cancelGlide.tempo
        stage := { d.stage with entries := (d.stopTempo cause).cancelGlide.stage.entries } } := by
  have hstop : d.stopTempo cause =
      { d with
        tempo := (d.stopTempo cause).tempo, stage := { d.stage with entries := (d.stopTempo cause).stage.entries } } := by
    unfold stopTempo
    split
    · rfl
    · rw [applyPendingTempo_frame]
      rfl
  generalize d.stopTempo cause = x at hstop ⊢
  unfold cancelGlide
  split
  · exact hstop
  · rw [hstop]
    rfl

/-- No page rewrite is caused by the stop. -/
theorem Device.silenced_pageCause (d : Device) : d.silenced.pageCause = d.pageCause := by
  rw [silenced, clickStop_frame, stopTempo_cancelGlide_frame]

/-- The stop leaves the tempo record STOPPED without a glide. -/
theorem Device.silenced_tempo (d : Device) :
    d.silenced.tempo.transport = .stopped ∧ d.silenced.tempo.glide = none := by
  rw [silenced, clickStop_frame]
  show (d.stopTempo .drain).cancelGlide.tempo.transport = .stopped ∧ _
  rw [cancelGlide_tempo]
  exact ⟨stopTempo_transport d .drain, rfl⟩

/-- The stop changes the tempo record, the click lines, and what these send and report. -/
theorem Device.silenced_onlyPlays (d : Device) : d.OnlyPlays d.silenced :=
  ((d.stopTempo_onlyPlays .drain).trans (cancelGlide_onlyPlays _)).trans
    (onLines_onlyPlays _ fun n l st => by
      unfold endActive
      split
      · exact endNote_onlyOffers n _ st
      · exact .refl st)

/-- An offered click message leaves no port emptied (R50). -/
theorem Stage.offerClick_keepsMessages (st : Stage) (p : Fin 6) (n : Fin 4) (m : Message) :
    st.KeepsMessages (st.offerClick p n m) := by
  unfold offerClick
  split
  · exact .ofPort st p (by simp [ModulePort.isEmpty, ModulePort.admitLane])
  · exact fun _ => id

/-- The stop leaves no port emptied. -/
theorem Device.silenced_keepsMessages (d : Device) : d.stage.KeepsMessages d.silenced.stage := by
  have hports : (d.stopTempo .drain).cancelGlide.stage.ports = d.stage.ports := by simp
  have hclick := (d.stopTempo .drain).cancelGlide.onLines_stage (R := Stage.KeepsMessages) Stage.KeepsMessages.refl
    (fun _ _ _ => Stage.KeepsMessages.trans) (f := endActive) fun n l st => by
      unfold endActive endPulse endNote
      split
      · split
        · exact .refl st
        · exact st.offerClick_keepsMessages _ _ _
      · exact .refl st
  intro q hq
  exact hclick q (hports ▸ hq)

/-- A line without a sounding key goes IDLE without an offer (R108, R112). -/
theorem endActive_of_silent {l : ClickLine} (h : l.sounding = none) (n : Fin 4) (st : Stage) :
    endActive n l st = ({ l with endsAt := none }, st) := by
  unfold endActive
  split
  · exact endNote_of_silent (l := { l with endsAt := none }) h n st
  · rename_i hidle
    rw [← Option.not_isSome_iff_eq_none.1 hidle]

/-- Where no key sounds, the click unit's stop offers nothing (R112). -/
theorem Device.clickStop_of_silent {d : Device} (h : ∀ n : Fin 4, d.click.lines[n].sounding = none) :
    d.clickStop.stage = d.stage := by
  have fold (ns : List (Fin 4)) : ∀ d : Device, (∀ n : Fin 4, d.click.lines[n].sounding = none) →
      (ns.foldl (fun d n => d.onLine n (endActive n)) d).stage = d.stage := by
    induction ns with
    | nil => exact fun d _ => rfl
    | cons n ns ih =>
      intro d hsilent
      rw [List.foldl_cons, onLine_eq (endActive_of_silent (hsilent n) n d.stage)]
      refine ih _ fun k => ?_
      show (vecModify d.click.lines n fun l => { l with endsAt := none })[k].sounding = none
      rw [getElem_vecModify]
      split <;> exact hsilent k
  exact fold _ d h

/-- Then the stop leaves every port. -/
theorem Device.silenced_ports_of_silent {d : Device} (h : ∀ n : Fin 4, d.click.lines[n].sounding = none) :
    d.silenced.stage.ports = d.stage.ports := by
  have hclick : (d.stopTempo .drain).cancelGlide.click = d.click := by rw [stopTempo_cancelGlide_frame]
  rw [silenced, clickStop_of_silent (fun n => hclick ▸ h n), stopTempo_cancelGlide_frame]

/-- With the transport STOPPED and no glide, the click unit alone is stopped. -/
theorem Device.silenced_of_stopped {d : Device} (hstopped : d.tempo.transport = .stopped) (hglide : d.tempo.glide = none) :
    d.silenced = d.clickStop := by
  have hstop : d.stopTempo .drain = d := if_pos (decide_eq_true hstopped)
  have hcancel : d.cancelGlide = d := by
    rw [cancelGlide, hglide]
  rw [silenced, hstop, hcancel]

/-! ## The voices released (R41) -/

/-- The entries of RELEASE_ALL come behind those handed before. -/
theorem Stage.releaseAll_entries (st : Stage) : st.entries <+: st.releaseAll.entries := by
  have held : Stage.ReleasesQuietly
      { st with dampers := Vector.replicate 4 (Vector.replicate 16 false), deferrals := [] } st.releaseHeld :=
    .foldl (fun _ k hd => Stage.releaseVoice_releasesQuietly hd k) _ rfl
  have hkept : st.releaseHeld.entries = st.entries := by rw [held.frame]
  have ends (dfs : List Deferral) (st : Stage) (hd : st.deferrals = []) :
      st.entries <+: (dfs.foldl Stage.endDeferralByCut st).entries := by
    induction dfs generalizing st with
    | nil => exact List.prefix_rfl
    | cons df dfs ih =>
      have hcut := Stage.cut_releasesQuietly (st := { st with deferrals := st.deferrals.erase df })
        (by rw [hd]; rfl) df.dest
      have hoffers : Stage.OnlyOffers ({ st with deferrals := st.deferrals.erase df }.cut df.dest)
          (st.endDeferralByCut df) :=
        .foldl (fun st m => st.offerEntry_onlyOffers df.dest.port m) df.messages _
      have hentries : ({ st with deferrals := st.deferrals.erase df }.cut df.dest).entries = st.entries := by
        rw [hcut.frame]
      rw [List.foldl_cons]
      refine (hentries ▸ hoffers.entries).trans (ih _ ?_)
      rw [hoffers.deferrals, hcut.deferrals]
      show st.deferrals.erase df = []
      rw [hd]; rfl
  exact hkept ▸ ends st.deferrals _ st.releaseHeld_deferrals

/-- With an empty table and no deferral RELEASE_ALL lifts the dampers alone. -/
theorem Stage.releaseAll_of_empty {st : Stage} (hvoices : ∀ k : Fin 128, st.voices[k] = none)
    (hdeferrals : st.deferrals = []) :
    st.releaseAll = { st with dampers := Vector.replicate 4 (Vector.replicate 16 false) } := by
  have hheld : st.heldVoices = [] := by
    simp [heldVoices, hvoices]
  rw [releaseAll, hdeferrals, releaseHeld, hheld]
  simp only [List.foldl_nil, releaseVoices]

/-! ## The part as its drain begins -/

/-- The engine DRAINING, and the frames that the key ports handed on dropped (R188; log 12). -/
def Device.drainStarted (d : Device) : Device :=
  { d with
    engine := { d.engine with state := .draining, restart := false, drainAt := some (after d.now 250000) }
    keyPorts := Vector.replicate 4 KeyPort.reset }

/-- The part before the releases of its drain. -/
def Device.drainStopped (d : Device) : Device := d.drainStarted.drainChange.silenced

section BeginDrain

variable {s : State} {d : Device} (hl : d.layout = s.dev.layout) (ha : d.regs.area = s.dev.regs.area)
include hl ha

/-- The change withdrawn as a drain begins. -/
theorem Device.drainStarted_drainChange :
    d.drainStarted.drainChange =
      { d.drainStarted with
        change := d.change.withdraw
        req := d.req.give (offlineCompletions s d.stampHere d.req.working d.change)
        stage := { d.stage with entries := d.stage.entries ++ offlineEntries d.change } } :=
  Device.drainChange_eq (s := s) (d := d.drainStarted) hl ha

/-- What the stop before the releases changes. -/
theorem Device.drainStopped_frame :
    d.drainStopped =
      { d.drainStarted with
        change := d.change.withdraw
        req := d.req.give (offlineCompletions s d.stampHere d.req.working d.change)
        tempo := d.drainStopped.tempo, click := d.drainStopped.click
        stage := { d.stage with ports := d.drainStopped.stage.ports, entries := d.drainStopped.stage.entries } } := by
  have hframe := d.drainStarted.drainChange.silenced_onlyPlays.frame
  have hcause := d.drainStarted.drainChange.silenced_pageCause
  unfold drainStopped
  rw [Device.drainStarted_drainChange hl ha] at hframe hcause ⊢
  rw [hcause] at hframe
  exact hframe

/-- The entry of an abandoned cue comes first (R141). -/
theorem Device.drainStopped_entries : d.stage.entries ++ offlineEntries d.change <+: d.drainStopped.stage.entries := by
  have hentries := d.drainStarted.drainChange.silenced_onlyPlays.entries
  unfold drainStopped
  rw [Device.drainStarted_drainChange hl ha] at hentries ⊢
  exact hentries

/-- No port is emptied. -/
theorem Device.drainStopped_keepsMessages : d.stage.KeepsMessages d.drainStopped.stage := by
  have hports : d.drainStarted.drainChange.stage.ports = d.stage.ports := by
    rw [Device.drainStarted_drainChange hl ha]
  intro q hq
  exact d.drainStarted.drainChange.silenced_keepsMessages q (hports ▸ hq)

omit hl ha in
/-- The transport is STOPPED, without a glide (R68, R75). -/
theorem Device.drainStopped_tempo : d.drainStopped.tempo.transport = .stopped ∧ d.drainStopped.tempo.glide = none :=
  d.drainStarted.drainChange.silenced_tempo

/-- The drain's beginning, by the part before its releases (R141, R188). -/
theorem Device.beginDrain_eq :
    d.beginDrain =
      { d.drainStopped with
        stage := d.drainStopped.stage.releaseAll, sync := d.sync.toOff, tap := TapCapture.reset } := by
  have hchange : d.drainStopped.changeStop = d.drainStopped := by
    have hidle : d.drainStopped.change.state = .idle := by
      rw [Device.drainStopped_frame hl ha]
      exact d.change.withdraw_idle.1
    exact if_neg (by rw [hidle]; decide)
  have hsync : d.drainStopped.sync = d.sync := by
    rw [Device.drainStopped_frame hl ha]
    rfl
  show { d.drainStopped.changeStop.onStage Stage.releaseAll with
      sync := (d.drainStopped.changeStop.onStage Stage.releaseAll).sync.toOff, tap := TapCapture.reset } = _
  rw [hchange]
  simp only [onStage, hsync]

/-- All that the drain's beginning changes. -/
theorem Device.beginDrain_frame :
    d.beginDrain =
      { d.drainStarted with
        change := d.change.withdraw
        req := d.req.give (offlineCompletions s d.stampHere d.req.working d.change)
        tempo := d.drainStopped.tempo, click := d.drainStopped.click, sync := d.sync.toOff, tap := TapCapture.reset
        stage := d.drainStopped.stage.releaseAll } := by
  have hframe := Device.drainStopped_frame hl ha
  rw [Device.beginDrain_eq hl ha]
  generalize d.drainStopped = x at hframe ⊢
  rw [hframe]

/-- With no voice, no deferral and no sounding click key it lifts the dampers and hands entries. -/
theorem Device.beginDrain_of_silent (hvoices : ∀ k : Fin 128, d.stage.voices[k] = none)
    (hdeferrals : d.stage.deferrals = []) (hsilent : ∀ n : Fin 4, d.click.lines[n].sounding = none) :
    d.beginDrain =
      { d.drainStarted with
        change := d.change.withdraw
        req := d.req.give (offlineCompletions s d.stampHere d.req.working d.change)
        tempo := d.drainStopped.tempo, click := d.drainStopped.click, sync := d.sync.toOff, tap := TapCapture.reset
        stage := { d.stage with
          dampers := Vector.replicate 4 (Vector.replicate 16 false), entries := d.drainStopped.stage.entries } } := by
  have hports : d.drainStopped.stage.ports = d.stage.ports := by
    unfold drainStopped
    rw [Device.drainStarted_drainChange hl ha]
    exact silenced_ports_of_silent hsilent
  have hstage : d.drainStopped.stage = { d.stage with entries := d.drainStopped.stage.entries } := by
    have hframe := congrArg Device.stage (Device.drainStopped_frame hl ha)
    rw [hports] at hframe
    exact hframe
  have hall : d.drainStopped.stage.releaseAll =
      { d.stage with
        dampers := Vector.replicate 4 (Vector.replicate 16 false), entries := d.drainStopped.stage.entries } := by
    rw [hstage]
    exact Stage.releaseAll_of_empty hvoices hdeferrals
  have hframe := Device.beginDrain_frame hl ha
  rw [hall] at hframe
  exact hframe

/-- With nothing to stop either, the tempo record stays and no entry is handed. -/
theorem Device.drainStopped_of_stopped (hen : d.stage.entries = []) (hstopped : d.tempo.transport = .stopped)
    (hglide : d.tempo.glide = none) (hload : d.change.load = none)
    (hsilent : ∀ n : Fin 4, d.click.lines[n].sounding = none) :
    d.drainStopped.tempo = d.tempo ∧ d.drainStopped.stage.entries = [] := by
  have hclick : d.drainStopped = d.drainStarted.drainChange.clickStop := by
    unfold drainStopped
    rw [Device.drainStarted_drainChange hl ha]
    exact silenced_of_stopped hstopped hglide
  have hstage : d.drainStopped.stage = d.drainStarted.drainChange.stage := by
    rw [hclick, Device.drainStarted_drainChange hl ha]
    exact clickStop_of_silent hsilent
  constructor
  · rw [hclick, clickStop_frame, Device.drainStarted_drainChange hl ha]
    rfl
  · rw [hstage, Device.drainStarted_drainChange hl ha]
    simp [offlineEntries, hen, hload]

end BeginDrain

/-! ## The event -/

/-- The part with a control word written (R186). -/
def State.controlWritten (s : State) (w : RegWrite) : Device :=
  { s.dev.beginEvent with regs := s.dev.regs.writeControl (regWord w) }

section Event

variable {s : State} {w : RegWrite} (hon : s.isOnline = true) (hreset : (regWord w).getLsbD 31 = false)
  (hclear : (regWord w).getLsbD 0 = false) (henabled : s.dev.regs.control.getLsbD 0 = true)

include hon hclear henabled in
/-- A clear of the enable in ONLINE begins a drain (R188). -/
theorem State.writeControl_clears : s.dev.beginEvent.writeControl (regWord w) = (s.controlWritten w).beginDrain := by
  obtain ⟨-, heng, -, -⟩ := State.isOnline_spec hon
  have henable : s.dev.beginEvent.regs.enable = true := henabled
  have hstate : (s.controlWritten w).engine.state = .online := heng
  have hcleared : (s.controlWritten w).enableCleared = (s.controlWritten w).beginDrain := by
    unfold Device.enableCleared
    rw [hstate]
  simp only [Device.writeControl, hclear, henable]
  exact hcleared

include hon hreset in
/-- It is an event of the part (R186, R187). -/
theorem State.enableClear_event :
    exec (.controlEnableClear w) s = .next (s.event true fun d => d.writeControl (regWord w)) := by
  obtain ⟨hr, -, -, -⟩ := State.isOnline_spec hon
  have hword : isResetWord (regWord w) = false := hreset
  show (.next (s.controlWrite w ResetCut.clean) : Host.Outcome State Fault Refusal) = _
  simp [State.controlWrite, hr, hword]

include hon hreset hclear henabled

/-- With a message left in a port the engine is DRAINING (R188). -/
theorem State.enableClear_drains
    (hmessage : ∃ p : Fin 6,
      s.dev.stage.ports[p].main ≠ [] ∨ s.dev.stage.ports[p].backlog ≠ [] ∨ s.dev.stage.ports[p].lane ≠ []) :
    ∃ t, exec (.controlEnableClear w) s = .next t
      ∧ t.dev.engine = { s.dev.engine with state := .draining, restart := false, drainAt := some (after s.dev.now 250000) }
      ∧ t.dev.change = s.dev.change.withdraw
      ∧ Completed s t (offlineCompletions s s.dev.stampNow s.dev.req.working s.dev.change)
      ∧ (∃ es, Journaled (offlineEntries s.dev.change ++ es) s t)
      ∧ t.dev.tempo.transport = .stopped ∧ t.dev.tempo.glide = none
      ∧ (∀ (p : Fin 4) (c : BitVec 4), t.dev.stage.damperDown p c = false)
      ∧ (∀ (k : Fin 128) (v : Voice), t.dev.stage.voices[k] = some v → v.state = .releasing)
      ∧ t.dev.sync.state = .off ∧ t.dev.tap = { ring := [], last := none }
      ∧ (∀ p : Fin 4, t.dev.keyPorts[p] = KeyPort.reset)
      ∧ EventChanges [.control, .attnPulse, .engine, .keyPorts, .change, .tempo, .click, .voices, .dampers, .ports,
          .deferrals, .sync, .tap, .req] s t := by
  obtain ⟨hr, heng, hen, hpc⟩ := State.isOnline_spec hon
  obtain ⟨p, hp⟩ := hmessage
  have hheld : s.dev.stage.ports[p].isEmpty = false := by
    simp only [ModulePort.isEmpty, Bool.and_eq_false_iff, List.isEmpty_eq_false_iff]
    tauto
  have hframe := Device.beginDrain_frame (s := s) (d := s.controlWritten w) rfl rfl
  have hkept := Device.drainStopped_keepsMessages (s := s) (d := s.controlWritten w) rfl rfl
  have hover : (s.controlWritten w).beginDrain.drainOver = false := by
    refine Device.drainOver_of_message (q := p) ?_
    rw [hframe]
    exact Stage.releaseAll_keepsMessages _ p (hkept p hheld)
  obtain ⟨hclock, hdampers, hdeferrals⟩ := (s.controlWritten w).drainStopped.stage.releaseAll_frame
  have hkeptClock : (s.controlWritten w).drainStopped.stage.releaseAll.clock = s.dev.stage.clock := by
    rw [hclock, Device.drainStopped_frame (s := s) (d := s.controlWritten w) rfl rfl]
    rfl
  obtain ⟨es, hes⟩ : offlineEntries s.dev.change <+: (s.controlWritten w).beginDrain.stage.entries := by
    have hfirst := Device.drainStopped_entries (s := s) (d := s.controlWritten w) rfl rfl
    have hnone : (s.controlWritten w).stage.entries = [] := hen
    rw [hnone, List.nil_append] at hfirst
    rw [hframe]
    exact hfirst.trans (Stage.releaseAll_entries _)
  obtain ⟨t, ht, ⟨page, q, hs⟩, hj, hc⟩ := State.event_outcome (body := fun d => d.writeControl (regWord w)) (due := true)
    (s.controlWritten w).beginDrain _ [.control, .attnPulse, .engine, .keyPorts, .change, .tempo, .click, .voices, .dampers,
      .ports, .deferrals, .sync, .tap, .req] rfl hr hen hpc (.inl (by rw [heng]; rfl))
    (State.writeControl_clears hon hclear henabled) hes.symm (by rw [hframe]; rfl) hover fun b => by
      rw [hframe]
      cases b
      case clock => exact .inr (.inr hkeptClock)
      all_goals simp [Block.agrees, Device.drainStarted, State.controlWritten, Device.beginEvent, Registers.writeControl]
  rw [hframe] at hs
  refine ⟨t, (State.enableClear_event hon hreset).trans (congrArg _ ht.symm), by rw [hs]; rfl, by rw [hs]; rfl,
    by rw [hs]; rfl, ⟨es, hj⟩, ?_, ?_, fun p c => ?_, fun k v hv => ?_, by rw [hs]; rfl, by rw [hs]; rfl, fun p => ?_, hc⟩
  · rw [hs]
    exact (s.controlWritten w).drainStopped_tempo.1
  · rw [hs]
    exact (s.controlWritten w).drainStopped_tempo.2
  · rw [hs]
    simp [Stage.damperDown, hdampers]
  · rw [hs] at hv
    exact Stage.releaseAll_voice hv
  · rw [hs]
    simp [Device.drainStarted]

/-- With nothing to send the drain is over at once (R189), whatever the stop hands over. -/
theorem State.enableClear_endsDrain (hvoices : ∀ k : Fin 128, s.dev.stage.voices[k] = none)
    (hports : ∀ p : Fin 6, s.dev.stage.ports[p].isEmpty = true) (hdeferrals : s.dev.stage.deferrals = [])
    (hsilent : ∀ n : Fin 4, s.dev.click.lines[n].sounding = none) :
    ∃ t, exec (.controlEnableClear w) s = .next t ∧ t.dev.engine.state = .offline ∧ t.dev.engine.drainAt = none
      ∧ t.dev.tempo.transport = .stopped ∧ t.dev.change.state = .idle
      ∧ Completed s t (offlineCompletions s s.dev.stampNow s.dev.req.working s.dev.change)
      ∧ t.dev.jw.queue = [] ∧ t.drains = s.drains + 1
      ∧ (∀ n : Fin 8, t.dev.pedals[n].pressed = false) ∧ PageCaused s t ∧ pageEngineCode t.dev.engine.state = 0
      ∧ EventChanges [.control, .attnPulse, .engine, .keyPorts, .change, .tempo, .click, .dampers, .pedals, .sync, .tap,
          .req, .journalCounts, .mem, .faults, .causes, .drains] s t
      ∧ (s.dev.jw.queue = [] → s.dev.tempo.transport = .stopped → s.dev.tempo.glide = none → s.dev.change.load = none →
          Journaled [] s t
            ∧ EventChanges [.control, .attnPulse, .engine, .keyPorts, .change, .click, .dampers, .pedals, .sync, .tap,
                .req, .drains] s t) := by
  obtain ⟨hr, heng, hen, hpc⟩ := State.isOnline_spec hon
  have hframe := Device.beginDrain_of_silent (s := s) (d := s.controlWritten w) rfl rfl hvoices hdeferrals hsilent
  have hexec := (State.enableClear_event hon hreset).trans
    (State.event_settles hr rfl (State.writeControl_clears hon hclear henabled))
  generalize (s.controlWritten w).beginDrain = d at hframe hexec
  have hengine : d.engine =
      { s.dev.engine with state := .draining, restart := false, drainAt := some (after s.dev.now 250000) } := by
    rw [hframe]; rfl
  have hrestart : d.engine.restart = false := by rw [hengine]
  have hjw : d.jw = s.dev.jw := by rw [hframe]; rfl
  have hover : d.drainOver = true := by
    have hquiet : d.stage.isQuiet = true := by
      rw [Stage.isQuiet_iff, hframe]
      exact ⟨hvoices, hports⟩
    rw [Device.drainOver, hquiet, hengine]
    rfl
  have hpage := PageCaused.of_settle_over (s := s) hover s.mem (by rw [heng]; rfl) hrestart (by rw [hframe]; rfl)
  have hqueue : (s.drainTaken d s.mem).1.jw.queue = [] := (Device.takeAll_spec _ _).queue.1
  have hblocks (b : Block) : b ∈ [Block.control, .attnPulse, .engine, .keyPorts, .change, .click, .dampers, .sync, .tap,
      .req, .tempo] ∨ b ∈ [Block.entries, .eventStamp] ∨ b.agrees s { s with dev := d } := by
    rw [hframe]
    cases b <;>
      simp [Block.agrees, Device.drainStarted, State.controlWritten, Device.beginEvent, Registers.writeControl]
  have hchanges := State.settle_over_changes _ hover hjw hen (.inr hrestart) (.inr hpc) hblocks
  obtain ⟨page, hs⟩ := State.settle_over (s := s) hover s.mem
  have hoffline : (s.settle d s.mem).dev.engine.state = .offline ∧ (s.settle d s.mem).dev.engine.drainAt = none := by
    rw [hs]
    exact ⟨by simp [Engine.drained, hrestart], rfl⟩
  have hpedals (n : Fin 8) : (s.settle d s.mem).dev.pedals[n].pressed = false := by
    rw [hs]
    simp [Pedal.release]
  refine ⟨_, hexec, hoffline.1, hoffline.2, ?_, ?_, ?_, ?_, ?_, hpedals, hpage, by rw [hoffline.1]; rfl,
    hchanges.mono (by decide), fun hq hstopped hglide hload => ?_⟩
  · rw [hs, hframe]
    exact (s.controlWritten w).drainStopped_tempo.1
  · rw [hs, hframe]
    exact s.dev.change.withdraw_idle.1
  · rw [hs, hframe]
    rfl
  · rw [hs]
    exact hqueue
  · rw [hs]
  · obtain ⟨htempo, hnone⟩ := Device.drainStopped_of_stopped (s := s) (d := s.controlWritten w) rfl rfl hen hstopped hglide
      hload hsilent
    obtain ⟨hj, hc⟩ := State.settle_over_of_nothingWaits (d := d) hjw hq (by rw [hframe]; exact hnone)
      [.control, .attnPulse, .engine, .keyPorts, .change, .click, .dampers, .sync, .tap, .req] hover hen (.inr hrestart) hpc
      fun b => by
        by_cases hb : b = .tempo
        · subst hb
          refine .inr (.inr ?_)
          rw [hframe]
          exact htempo
        · simpa [hb] using hblocks b
    exact ⟨hj, hc.mono (by decide)⟩

end Event

/-- Settles O57: a drain that begins, and one that is over at once. -/
theorem clearingEnableDrains : Obligations.ClearingEnableDrains := by
  intro s w hon hreset hclear henabled withdrawn taken
  have hwithdrawn : offlineCompletions s s.dev.stampNow s.dev.req.working s.dev.change = withdrawn := by
    simp only [offlineCompletions, withdrawn]
    cases s.dev.change.load <;> rfl
  have htaken : offlineEntries s.dev.change = taken := by
    simp only [offlineEntries, taken]
    cases s.dev.change.load <;> rfl
  obtain ⟨hidle, hload, hgo, hcopy⟩ := s.dev.change.withdraw_idle
  refine ⟨fun hmessage => ?_, fun hvoices hports hdeferrals hsilent => ?_⟩
  · obtain ⟨t, ht, hengine, hchange, hcompleted, hjournaled, hrest⟩ :=
      State.enableClear_drains hon hreset hclear henabled hmessage
    rw [← hchange] at hidle hload hgo hcopy
    exact ⟨t, ht, hengine, hidle, hload, hgo, hcopy, hwithdrawn ▸ hcompleted, htaken ▸ hjournaled, hrest⟩
  · have h := State.enableClear_endsDrain hon hreset hclear henabled hvoices hports hdeferrals hsilent
    rwa [hwithdrawn] at h

end Sys2Proof.Machine
end

section
/-! The range of the current tempo (R62): what each operation on the tempo record leaves of it. -/
namespace Sys2Proof.Machine

open Sys2Proof

/-! ## The tempo record in its range -/

/-- The current tempo of a record lies in its range (R62). -/
def Tempo.inRange (r : Tempo) : Prop := Config.tempoMin ≤ r.t ∧ r.t ≤ Config.tempoMax

/-- A machine's tempo is that of its record. -/
theorem State.tempoInRange_iff (s : State) : s.tempoInRange ↔ s.dev.tempo.inRange := Iff.rfl

/-- A clamped number lies between its ends. -/
theorem clampNat_between {lo hi : Nat} (h : lo ≤ hi) (n : Nat) : lo ≤ clampNat lo hi n ∧ clampNat lo hi n ≤ hi := by
  unfold clampNat
  split
  · omega
  · split <;> omega

/-- A tempo between the ends of the range is its own clamp (R62). -/
theorem clampNat_of_between {lo hi n : Nat} (h : lo ≤ n) (h' : n ≤ hi) : clampNat lo hi n = n := by
  unfold clampNat
  rw [if_neg (by omega), if_neg (by omega)]

/-- A tempo made current is clamped (R62). -/
theorem Tempo.setCurrent_t (r : Tempo) (v : Nat) :
    (r.setCurrent v).t = clampNat Config.tempoMin Config.tempoMax v := by
  unfold setCurrent
  dsimp only
  split
  · rename_i h
    exact h.symm
  · rfl

/-- So it lies in the range, whatever stood there before. -/
theorem Tempo.setCurrent_inRange (r : Tempo) (v : Nat) : (r.setCurrent v).inRange := by
  rw [inRange, setCurrent_t]
  exact clampNat_between (by decide) v

/-! ## Work of a part that keeps the range -/

/-- Work that leaves the current tempo in its range where it was in it. -/
def Device.KeepsTempoRange (d d' : Device) : Prop := d.tempo.inRange → d'.tempo.inRange

/-- Nothing done is within the relation. -/
theorem Device.KeepsTempoRange.refl (d : Device) : d.KeepsTempoRange d := id

/-- The relation composes. -/
theorem Device.KeepsTempoRange.trans {a b c : Device} (h : a.KeepsTempoRange b) (h' : b.KeepsTempoRange c) :
    a.KeepsTempoRange c := h' ∘ h

/-- Work that leaves the current tempo. -/
theorem Device.KeepsTempoRange.ofT {d d' : Device} (h : d'.tempo.t = d.tempo.t) : d.KeepsTempoRange d' := by
  unfold KeepsTempoRange Tempo.inRange
  rw [h]
  exact id

/-- Work that leaves the tempo record. -/
theorem Device.KeepsTempoRange.ofTempo {d d' : Device} (h : d'.tempo = d.tempo) : d.KeepsTempoRange d' :=
  .ofT (congrArg Tempo.t h)

/-- A fold of operations within the relation. -/
theorem Device.KeepsTempoRange.foldl {α : Type} {f : Device → α → Device}
    (hf : ∀ (d : Device) a, d.KeepsTempoRange (f d a)) (as : List α) (d : Device) :
    d.KeepsTempoRange (as.foldl f d) := by
  induction as generalizing d with
  | nil => exact .refl d
  | cons a as ih => exact (hf d a).trans (ih _)

/-! ## Writing tempos (R62, R71 to R77) -/

/-- A tempo made current. -/
theorem Device.makeCurrent_keepsTempoRange (d : Device) (v : Nat) (cause : TempoCause) :
    d.KeepsTempoRange (d.makeCurrent v cause) := by
  intro _
  unfold makeCurrent
  dsimp only
  split <;> exact Tempo.setCurrent_inRange _ _

/-- A pending tempo made current. -/
theorem Device.applyPendingTempo_keepsTempoRange (d : Device) : d.KeepsTempoRange d.applyPendingTempo := by
  unfold applyPendingTempo
  split
  · exact .refl d
  · exact .trans (b := d.onTempo fun t => { t with pending := none }) (.ofT rfl) (makeCurrent_keepsTempoRange _ _ _)

/-- A glide cancelled. -/
theorem Device.cancelGlide_keepsTempoRange (d : Device) : d.KeepsTempoRange d.cancelGlide :=
  .ofT (by rw [cancelGlide_tempo])

/-- A pending tempo written. -/
theorem Device.writePendingTempo_keepsTempoRange (d : Device) (v : Nat) (cause : TempoCause) :
    d.KeepsTempoRange (d.writePendingTempo v cause) := by
  have written (p : Option (Nat × TempoCause)) :
      d.KeepsTempoRange (d.cancelGlide.onTempo fun t => { t with pending := p }) :=
    d.cancelGlide_keepsTempoRange.trans (.ofT rfl)
  unfold writePendingTempo
  dsimp only
  split
  · exact (written _).trans (applyPendingTempo_keepsTempoRange _)
  · exact written _

/-- A tempo written with its glide length. -/
theorem Device.writeTempo_keepsTempoRange (d : Device) (v g : Nat) (cause : TempoCause) :
    d.KeepsTempoRange (d.writeTempo v g cause) := by
  unfold writeTempo writeGlide
  split
  · exact d.writePendingTempo_keepsTempoRange v cause
  · split
    · exact d.writePendingTempo_keepsTempoRange v cause
    · exact d.cancelGlide_keepsTempoRange.trans (.ofT rfl)

/-- The source set. -/
theorem Device.setSource_keepsTempoRange (d : Device) (src : TempoSource) : d.KeepsTempoRange (d.setSource src) := by
  unfold setSource
  split
  · exact .refl d
  · cases src with
    | manual => exact .ofT rfl
    | follow => exact d.cancelGlide_keepsTempoRange.trans (.ofT rfl)

/-- A beat boundary at the tempo record: a pending tempo, a glide step or a FOLLOW read. -/
theorem Device.beatWork_keepsTempoRange (d : Device) : d.KeepsTempoRange d.beatWork := by
  unfold beatWork
  split
  · exact d.applyPendingTempo_keepsTempoRange
  · unfold stepGlide
    dsimp only
    intro _
    split <;> exact Tempo.setCurrent_inRange _ _
  · split
    · unfold followRead
      split
      · split
        · exact d.makeCurrent_keepsTempoRange _ _
        · exact .refl d
      · exact .refl d
    · exact .refl d

/-! ## Meter, ticks and the transport (R63 to R68) -/

/-- A meter taken while STOPPED leaves the current tempo. -/
theorem Tempo.takeMeterStopped_t (r : Tempo) : r.takeMeterStopped.t = r.t := by
  unfold takeMeterStopped
  dsimp only
  split <;> rfl

/-- A meter handed over leaves it. -/
theorem Tempo.handMeter_t (r : Tempo) (m : Nat) : (r.handMeter m).t = r.t := by
  unfold handMeter
  dsimp only
  split
  · exact takeMeterStopped_t _
  · rfl

/-- So does a tick whose length is fixed. -/
theorem Tempo.fixTick_t (r : Tempo) (now : Word) : (r.fixTick now).t = r.t := by
  unfold fixTick
  dsimp only
  split <;> rfl

/-- And a position that moves. -/
theorem Tempo.advancePosition_t (r : Tempo) : r.advancePosition.t = r.t := by
  unfold advancePosition
  split
  · rfl
  · split <;> rfl

/-- A tick's length that has passed. -/
theorem Device.advanceTick_keepsTempoRange (d : Device) : d.KeepsTempoRange d.advanceTick := by
  unfold advanceTick
  split
  · exact .ofT (Tempo.advancePosition_t _)
  · split <;> exact .ofT rfl

/-- A tick that begins. -/
theorem Device.beginTick_keepsTempoRange (d : Device) : d.KeepsTempoRange d.beginTick := by
  have beat : d.KeepsTempoRange (if d.tempo.atBeat then d.beatWork.causePage else d) := by
    split
    · exact d.beatWork_keepsTempoRange.trans (.ofT rfl)
    · exact .refl d
  have start : d.KeepsTempoRange d.startTick := by
    unfold startTick
    dsimp only
    generalize (if d.tempo.atBeat then d.beatWork.causePage else d) = d1 at beat
    refine .trans ?_ (.ofT (d := if d.tempo.atBar then d1.onTempo Tempo.takeMeter else d1) (Tempo.fixTick_t _ _))
    split
    · exact beat.trans (.ofT rfl)
    · exact beat
  exact start.trans (.ofTempo (by rw [beginTick, clickTick_frame]))

/-- The start of the transport. -/
theorem Device.startTransport_keepsTempoRange (d : Device) (bars : Nat) (cause : TransportCause) :
    d.KeepsTempoRange (d.startTransport bars cause) := by
  unfold startTransport
  split <;>
    refine .trans ?_ (beginTick_keepsTempoRange _) <;> exact .ofT rfl

/-- Entry to STOPPED at the tempo generator. -/
theorem Device.stopTempo_keepsTempoRange (d : Device) (cause : TransportCause) :
    d.KeepsTempoRange (d.stopTempo cause) := by
  unfold stopTempo
  split
  · exact .refl d
  · refine .trans ?_ (.ofT (Tempo.takeMeterStopped_t _))
    refine .trans ?_ (applyPendingTempo_keepsTempoRange _)
    exact .ofT rfl

/-- The click unit's stop. -/
theorem Device.clickStop_keepsTempoRange (d : Device) : d.KeepsTempoRange d.clickStop :=
  .ofTempo (by rw [clickStop_frame])

/-! ## Switches (R122, R126 to R133) -/

/-- The timing stage of a switch. -/
theorem Device.handTiming_keepsTempoRange (d : Device) (sc : SceneCopy) : d.KeepsTempoRange (d.handTiming sc) := by
  have settings : d.KeepsTempoRange
      (((d.onTempo (·.handMeter sc.meter)).handClick sc.subdivisions sc.accents).setSource sc.source) := by
    refine .trans (.ofT ?_) (setSource_keepsTempoRange _ _)
    rw [handClick, onLines_frame _ _ fun _ _ _ => rfl]
    exact Tempo.handMeter_t _ _
  unfold handTiming
  dsimp only
  generalize (((d.onTempo (·.handMeter sc.meter)).handClick sc.subdivisions sc.accents).setSource sc.source)
    = d2 at settings
  have tempo : d.KeepsTempoRange (if sc.tempo = 0 then d2
      else if sc.source = .follow then d2.emit (.tempoIgnored sc.number sc.tempo)
      else d2.writeTempo sc.tempo sc.glideBeats .scene) := by
    split
    · exact settings
    · split
      · exact settings.trans (.ofT rfl)
      · exact settings.trans (d2.writeTempo_keepsTempoRange _ _ _)
  generalize (if sc.tempo = 0 then d2 else _) = d3 at tempo ⊢
  split
  · exact tempo.trans (startTransport_keepsTempoRange _ _ _)
  · exact tempo

/-- A go completed leaves the tempo record. -/
@[simp] theorem Device.completeGo_tempo (d : Device) (g : Option GoFlight) (code : ResultCode) (value : Nat) :
    (d.completeGo g code value).tempo = d.tempo := by
  rw [d.completeGo_eq (s := { State.reset with dev := d }) rfl rfl, onReq_tempo]

/-- So does a cue completed. -/
@[simp] theorem Device.completeCue_tempo (d : Device) (o : CueOrigin) (code : ResultCode) (value : Nat) :
    (d.completeCue o code value).tempo = d.tempo := by
  rw [d.completeCue_eq (s := { State.reset with dev := d }) rfl rfl, onReq_tempo]

/-- The part as a switch comes to its timing stage: the scene active, the carry told, the spill made, the entry messages
offered (R127 to R131). -/
def Device.beforeTiming (d : Device) (sc : SceneCopy) : Device :=
  (((d.onChange (·.activate sc (sc.zones ++ carriedZones sc d.overrideHeld d.change.zones))).onStage
    (·.emitAll (carryEntries sc d.overrideHeld d.change.zones))).onStage
      (·.spill sc (d.change.activation + 1))).onStage (·.sendEntryMessages sc)

/-- A switch writes the tempo record in its timing stage alone. -/
theorem Device.switchTo_tempo (d : Device) (sc : SceneCopy) (moment : Moment) :
    (d.switchTo sc moment).tempo = ((d.beforeTiming sc).handTiming sc).tempo := by
  unfold switchTo
  dsimp only
  rw [onChange_tempo, completeGo_tempo, emit_tempo]
  rfl

/-- A switch. -/
theorem Device.switchTo_keepsTempoRange (d : Device) (sc : SceneCopy) (moment : Moment) :
    d.KeepsTempoRange (d.switchTo sc moment) := by
  unfold KeepsTempoRange
  rw [switchTo_tempo]
  exact (d.beforeTiming sc).handTiming_keepsTempoRange sc

/-- The switch of the pending copy. -/
theorem Device.makeSwitch_keepsTempoRange (d : Device) (moment : Moment) : d.KeepsTempoRange (d.makeSwitch moment) := by
  unfold makeSwitch
  split
  · exact .refl d
  · exact d.switchTo_keepsTempoRange _ _

/-- An arming. -/
theorem Device.arm_keepsTempoRange (d : Device) : d.KeepsTempoRange d.arm := by
  unfold arm
  split
  · exact .refl d
  · split
    · exact d.switchTo_keepsTempoRange _ _
    · split
      · exact d.switchTo_keepsTempoRange _ _
      · exact .ofT rfl

/-- A boundary at the change unit. -/
theorem Device.changeBoundary_keepsTempoRange (d : Device) : d.KeepsTempoRange d.changeBoundary := by
  have switches (due : Bool) (m : Moment) : d.KeepsTempoRange (if due then d.makeSwitch m else d) := by
    split
    · exact d.makeSwitch_keepsTempoRange m
    · exact .refl d
  unfold changeBoundary
  split
  · split <;> exact switches _ _
  · exact .refl d

/-- A stop at the change unit. -/
theorem Device.changeStop_keepsTempoRange (d : Device) : d.KeepsTempoRange d.changeStop := by
  unfold changeStop
  split
  · exact d.makeSwitch_keepsTempoRange _
  · exact .refl d

end Sys2Proof.Machine
end

section
/-! Every command keeps the current tempo in its range (R62): what leaves the tempo record, and what writes it. -/
namespace Sys2Proof.Machine

open Sys2Proof

/-! ## Copies, cancels and reads (R12 to R19, R117, R118, R125, R141) -/

/-- A copy that failed leaves the tempo record. -/
@[simp] theorem Device.copyFailed_tempo (d : Device) (ld : Load) (code : ResultCode) (value : Nat) :
    (d.copyFailed ld code value).tempo = d.tempo := by
  rw [d.copyFailed_eq (s := { State.reset with dev := d }) rfl rfl rfl]
  rfl

/-- So does a change cancelled. -/
@[simp] theorem Device.cancelChange_tempo (d : Device) : d.cancelChange.tempo = d.tempo := by
  rw [d.cancelChange_eq (s := { State.reset with dev := d }) rfl rfl]
  rfl

/-- And one withdrawn as a drain begins. -/
@[simp] theorem Device.drainChange_tempo (d : Device) : d.drainChange.tempo = d.tempo := by
  rw [d.drainChange_eq (s := { State.reset with dev := d }) rfl rfl]

/-- A copy that formed may arm its switch. -/
theorem Device.copyFormed_keepsTempoRange (d : Device) (ld : Load) (sc : SceneCopy) :
    d.KeepsTempoRange (d.copyFormed ld sc) := by
  have taken : (((d.onChange fun c => { c with load := none }).completeCue ld.origin .ok sc.clamps).emit
      (.cueTaken sc.headCount .ok sc.clamps ld.origin (some sc.number) ld.position)).tempo = d.tempo := by
    rw [emit_tempo, completeCue_tempo, onChange_tempo]
  unfold copyFormed
  dsimp only
  generalize Device.emit _ _ = d1 at taken ⊢
  split
  · split
    · exact .ofTempo taken
    · exact .trans (.ofTempo (d' := d1.onChange _) taken) (arm_keepsTempoRange _)
  · exact .ofTempo taken
  · exact .ofTempo taken

/-- A set list entry that was read leaves the tempo record. -/
theorem Device.setListRead_tempo (d : Device) (rd : CopyRead) (p : Nat) (run : PortRun) :
    (d.setListRead rd p run).1.tempo = d.tempo := by
  unfold setListRead
  dsimp only
  split
  · dsimp only
    split
    · rfl
    · exact copyFailed_tempo _ _ _ _
  · rfl
  · dsimp only
    split
    · rfl
    · unfold setListEntryRead
      split
      · exact copyFailed_tempo _ _ _ _
      · rfl
  · rfl

/-- A scene record that was read. -/
theorem Device.sceneRecordRead_keepsTempoRange (d : Device) (ld : Load) (n : BitVec 7) (rec : List Byte) :
    d.KeepsTempoRange (d.sceneRecordRead ld n rec) := by
  unfold sceneRecordRead
  dsimp only
  split
  · unfold tornRead
    split
    · exact .ofT rfl
    · exact .ofTempo (copyFailed_tempo _ _ _ _)
  · split
    · exact .ofTempo (copyFailed_tempo _ _ _ _)
    · exact d.copyFormed_keepsTempoRange _ _

/-- A scene read that completed. -/
theorem Device.sceneRead_keepsTempoRange (d : Device) (rd : CopyRead) (n : BitVec 7) (run : PortRun) :
    d.KeepsTempoRange (d.sceneRead rd n run).1 := by
  unfold sceneRead
  dsimp only
  split
  · dsimp only
    split
    · exact .ofT rfl
    · exact .ofTempo (copyFailed_tempo _ _ _ _)
  · exact .ofT rfl
  · dsimp only
    split
    · exact .ofT rfl
    · exact sceneRecordRead_keepsTempoRange (d.onChange _) _ _ _
  · exact .ofT rfl

/-! ## The feeders (R85 to R97) -/

/-- A TAP press. -/
theorem Device.takeTap_keepsTempoRange (d : Device) : d.KeepsTempoRange d.takeTap.1 := by
  have offered (d : Device) (v : Nat) : d.KeepsTempoRange (d.offerTap v).1 := by
    unfold offerTap
    split
    · exact d.writePendingTempo_keepsTempoRange _ _
    · split
      · exact .ofT rfl
      · exact (d.setSource_keepsTempoRange _).trans (writePendingTempo_keepsTempoRange _ _ _)
  unfold takeTap
  split
  · exact .ofT rfl
  · dsimp only
    split
    · exact .ofT rfl
    · split
      · exact .ofT rfl
      · refine .trans ?_ (offered _ _)
        exact .ofT rfl

/-- An estimate of the sync follower leaves the tempo record. -/
@[simp] theorem Device.setEstimate_tempo (d : Device) (average : Nat) : (d.setEstimate average).tempo = d.tempo := by
  unfold setEstimate
  dsimp only
  split <;> rfl

/-- So does an edge on SYNC. -/
theorem Device.takeEdge_tempo (d : Device) : d.takeEdge.tempo = d.tempo := by
  have gathered (i : Nat) : (d.gatherEdge i).tempo = d.tempo := by
    unfold gatherEdge syncLock
    dsimp only
    split
    · exact setEstimate_tempo _ _
    · rfl
  have locked (i : Nat) : (d.lockedEdge i).tempo = d.tempo := by
    unfold lockedEdge
    dsimp only
    split
    · exact setEstimate_tempo _ _
    · rfl
  have accepted : d.acceptEdge.tempo = d.tempo := by
    unfold acceptEdge
    dsimp only
    rw [onSync_tempo]
    cases d.sync.state with
    | gathering => exact gathered _
    | locked => exact locked _
    | _ => rfl
  unfold takeEdge
  split
  · rfl
  · split
    · exact accepted
    · split
      · rfl
      · exact accepted

/-! ## Pedals (R144 to R152) -/

/-- A press while the engine is ONLINE: a GO, a HOLD and a TAP may reach the tempo record. -/
theorem Device.dispatchPress_keepsTempoRange (d : Device) (n : Fin 8) : d.KeepsTempoRange (d.dispatchPress n).1 := by
  have step (dir : Direction) : d.KeepsTempoRange (d.stepPress n dir).1 := by
    unfold stepPress
    split
    · exact .ofT rfl
    · split <;> exact .ofT rfl
  unfold dispatchPress
  cases d.pedals[n].setup.function with
  | next => exact step .next
  | prev => exact step .prev
  | go =>
    show d.KeepsTempoRange (d.goPress n).1
    unfold goPress goReport
    cases d.change.state with
    | loading => dsimp only; split <;> exact .ofT rfl
    | cued => exact arm_keepsTempoRange (d.onChange _)
    | _ => exact .ofT rfl
  | hold =>
    show d.KeepsTempoRange (d.holdPress n).1
    unfold holdPress goReport
    split
    · exact .ofT rfl
    · split
      · exact .ofT rfl
      · exact arm_keepsTempoRange (d.emit _)
    · exact .ofT rfl
  | tap => exact d.takeTap_keepsTempoRange
  | clickMute =>
    show d.KeepsTempoRange d.toggleMute
    unfold toggleMute
    dsimp only
    split
    · exact clickStop_keepsTempoRange { d with click := { d.click with mute := !d.click.mute } }
    · exact .ofT rfl
  | _ => exact .ofT rfl

/-- A release leaves the tempo record. -/
theorem Device.dispatchRelease_tempo (d : Device) (n : Fin 8) : (d.dispatchRelease n).1.tempo = d.tempo := by
  unfold dispatchRelease
  cases d.pedals[n].setup.function <;> rfl

/-- A press or release with its entry. -/
theorem Device.pedalEdge_keepsTempoRange (d : Device) (n : Fin 8) (edge : PedalEdge) (cause : PedalCause) :
    d.KeepsTempoRange (d.pedalEdge n edge cause) := by
  refine .trans (b := (d.dispatchEdge n edge).1) ?_ (.ofT rfl)
  unfold dispatchEdge
  split
  · split <;> exact .ofT rfl
  · cases edge with
    | press => exact d.dispatchPress_keepsTempoRange n
    | release => exact .ofTempo (d.dispatchRelease_tempo n)

/-- The reload of the pedals. -/
theorem Device.reloadPedals_keepsTempoRange (d : Device) (bs : List Byte) : d.KeepsTempoRange (d.reloadPedals bs) := by
  refine .foldl (fun d n => ?_) _ d
  unfold reloadPedal
  split
  · exact .ofT rfl
  · refine .trans (b := if d.pedals[n].pressed then _ else d) ?_ (.ofT rfl)
    split
    · exact .trans (b := d.onPedal n fun p => { p with pressed := false }) (.ofT rfl)
        (pedalEdge_keepsTempoRange _ n .release .reload)
    · exact .refl d

/-! ## The engine (R187 to R189) -/

/-- ONLINE entry clamps the tempo of the header (R82). -/
theorem Device.enterOnline_inRange (d : Device) (h : List Byte) (page : Option (List Byte)) :
    (d.enterOnline h page).tempo.inRange := clampNat_between (by decide) _

/-- The header read of LOADING. -/
theorem Device.loadHeader_keepsTempoRange (d : Device) (run : PortRun) : d.KeepsTempoRange (d.loadHeader run).1 := by
  unfold loadHeader
  split
  · exact .ofT rfl
  · split
    · exact .ofT rfl
    · unfold loadPage
      intro _
      split <;> exact enterOnline_inRange _ _ _

/-- A drain that begins. -/
theorem Device.beginDrain_keepsTempoRange (d : Device) : d.KeepsTempoRange d.beginDrain := by
  unfold beginDrain
  dsimp only
  refine .trans ?_ (.ofT (d := Device.changeStop _) rfl)
  refine .trans ?_ (changeStop_keepsTempoRange _)
  refine .trans ?_ (clickStop_keepsTempoRange _)
  refine .trans ?_ (cancelGlide_keepsTempoRange _)
  refine .trans ?_ (stopTempo_keepsTempoRange _ _)
  exact .ofTempo (drainChange_tempo _)

/-- A write to CONTROL. -/
theorem Device.writeControl_keepsTempoRange (d : Device) (v : Word) : d.KeepsTempoRange (d.writeControl v) := by
  have set (d : Device) : d.KeepsTempoRange d.enableSet := by
    unfold enableSet
    cases d.engine.state <;> exact .ofT rfl
  have cleared (d : Device) : d.KeepsTempoRange d.enableCleared := by
    unfold enableCleared
    cases d.engine.state with
    | online => exact d.beginDrain_keepsTempoRange
    | _ => exact .ofT rfl
  unfold writeControl
  dsimp only
  split
  · exact set { d with regs := d.regs.writeControl v }
  · split
    · exact cleared { d with regs := d.regs.writeControl v }
    · exact .ofT rfl

end Sys2Proof.Machine
end

section
/-! Requests and the machine: every step keeps the current tempo in its range (R62). -/
namespace Sys2Proof.Machine

open Sys2Proof

/-! ## Requests (R175, R176) -/

/-- A taken request, whose owner's work keeps the range. -/
theorem Device.carryOut_keepsTempoRange (d : Device) (r : Request) {body : Device → Device}
    (hb : ∀ d : Device, d.KeepsTempoRange (body d)) : d.KeepsTempoRange (d.carryOut r body) := by
  unfold carryOut
  dsimp only
  split
  · refine .trans (b := body (d.onReq RequestUnit.beginWork)) (.trans ?_ (hb _)) (.ofT rfl)
    exact .ofT rfl
  · exact .ofT rfl

section Owners

variable (r : Request) (d : Device)

/-- CUE_SCENE. -/
theorem Device.cueSceneRequest_tempo : (Device.cueSceneRequest r d).tempo = d.tempo := by
  unfold cueSceneRequest
  split
  · rfl
  · split <;> rfl

/-- CUE_POSITION. -/
theorem Device.cuePositionRequest_tempo : (Device.cuePositionRequest r d).tempo = d.tempo := by
  unfold cuePositionRequest
  split
  · rfl
  · split <;> rfl

/-- GO. -/
theorem Device.goRequest_keepsTempoRange : d.KeepsTempoRange (Device.goRequest r d) := by
  unfold goRequest
  cases d.change.state with
  | loading => dsimp only; split <;> exact .ofT rfl
  | cued => exact arm_keepsTempoRange (d.onChange _)
  | _ => exact .ofT rfl

/-- HOLD. -/
theorem Device.holdRequest_tempo : (Device.holdRequest r d).tempo = d.tempo := by
  unfold holdRequest
  split <;> rfl

/-- RESUME. -/
theorem Device.resumeRequest_keepsTempoRange : d.KeepsTempoRange (Device.resumeRequest r d) := by
  unfold resumeRequest
  split
  · exact .ofT rfl
  · split
    · exact .ofT rfl
    · exact arm_keepsTempoRange ((d.answer r .ok 0).emit _)
  · exact .ofT rfl

/-- CANCEL. -/
theorem Device.cancelRequest_tempo : (Device.cancelRequest r d).tempo = d.tempo := by
  unfold cancelRequest
  split
  · rfl
  · exact d.cancelChange_tempo

/-- START. -/
theorem Device.startRequest_keepsTempoRange : d.KeepsTempoRange (Device.startRequest r d) := by
  unfold startRequest
  split
  · exact (d.startTransport_keepsTempoRange _ _).trans (.ofT rfl)
  · exact .ofT rfl

/-- STOP. -/
theorem Device.stopRequest_keepsTempoRange : d.KeepsTempoRange (Device.stopRequest r d) := by
  unfold stopRequest
  dsimp only
  refine .trans (b := if d.tempo.isStopped then d else _) ?_ (.ofT rfl)
  split
  · exact .refl d
  · exact ((d.stopTempo_keepsTempoRange _).trans (clickStop_keepsTempoRange _)).trans (changeStop_keepsTempoRange _)

/-- LOCATE. -/
theorem Device.locateRequest_keepsTempoRange : d.KeepsTempoRange (Device.locateRequest r d) := by
  unfold locateRequest
  dsimp only
  split
  · exact .ofT rfl
  · split <;> exact .ofT rfl

/-- SET_TEMPO. -/
theorem Device.setTempoRequest_keepsTempoRange : d.KeepsTempoRange (Device.setTempoRequest r d) := by
  unfold setTempoRequest
  split
  · exact .ofT rfl
  · exact (d.writeTempo_keepsTempoRange _ _ _).trans (.ofT rfl)

/-- APPLY_SYNC. -/
theorem Device.applySyncRequest_keepsTempoRange : d.KeepsTempoRange (Device.applySyncRequest r d) := by
  unfold applySyncRequest
  split
  · exact .ofT rfl
  · split
    · exact (d.writePendingTempo_keepsTempoRange _ _).trans (.ofT rfl)
    · exact .ofT rfl

end Owners

/-- RELOAD, as the scan took it: a pressed TAP pedal is released, and no section is the tempo's (R152, R172). -/
theorem Device.carryOutReload_keepsTempoRange (d : Device) (r : Request) (run : PortRun) :
    d.KeepsTempoRange (d.carryOutReload r run).1 := by
  have applied (d : Device) (sec : Section) (bs : List Byte) : d.KeepsTempoRange (d.applySection sec bs) := by
    cases sec with
    | click =>
      refine .ofTempo ?_
      show (d.reloadClick bs).tempo = d.tempo
      rw [reloadClick, onLines_frame _ _ fun n => reloadLine_frame _ n]
    | pedals => exact d.reloadPedals_keepsTempoRange bs
    | _ => exact .ofT rfl
  have owned (d : Device) : d.KeepsTempoRange (Device.reloadRequest r run d).1 := by
    unfold reloadRequest sectionRead
    split
    · exact .ofT rfl
    · split
      · exact .ofT rfl
      · dsimp only
        split
        · exact .ofT rfl
        · exact (applied d _ _).trans (.ofT rfl)
  unfold carryOutReload
  dsimp only
  split
  · refine .trans (b := (Device.reloadRequest r run (d.onReq RequestUnit.beginWork)).1) (.trans ?_ (owned _)) (.ofT rfl)
    exact .ofT rfl
  · exact .ofT rfl

/-! ## Slots and completions (R175, R177, R179) -/

/-- An access failure at a slot leaves the tempo record. -/
@[simp] theorem Device.slotFailure_tempo (d : Device) (slot : Fin 8) (offset : Nat) :
    (d.slotFailure slot offset).tempo = d.tempo := by
  unfold slotFailure
  dsimp only
  split <;> rfl

/-- So does a visit to a slot. -/
theorem Device.visitSlot_tempo (d : Device) (slot : Fin 8) (run : PortRun) :
    (d.visitSlot slot run).1.tempo = d.tempo := by
  unfold visitSlot takeSlot
  split
  · exact slotFailure_tempo _ _ _
  · dsimp only
    split
    · rfl
    · split
      · exact slotFailure_tempo _ _ _
      · rfl

/-- And the writes of a completion. -/
theorem Device.writeCompletion_tempo (d : Device) (c : Completion) (run : PortRun) :
    (d.writeCompletion c run).1.tempo = d.tempo := by
  unfold writeCompletion
  dsimp only
  split
  · rfl
  · exact slotFailure_tempo _ _ _

/-- And their retry. -/
theorem Device.retryCompletion_tempo (d : Device) (r : Retry) (run : PortRun) :
    (d.retryCompletion r run).1.tempo = d.tempo := by
  unfold retryCompletion
  dsimp only
  split <;> rfl

/-! ## Events of the machine -/

/-- What ends an event leaves the tempo record, whatever its part for the state page. -/
theorem State.endEvent_tempo {s : State} {d : Device} {m : Mem} {page : Device → Device}
    (hp : ∀ d : Device, (page d).tempo = d.tempo) : (s.endEvent d m page).dev.tempo = d.tempo := by
  cases hover : d.drainOver
  · rw [State.endEvent_not_over m page hover]
    exact hp _
  · rw [State.endEvent_over m page hover]
    refine (hp _).trans ?_
    rw [Device.endDrain_eq, State.drainTaken_eq]
    rfl

/-- A device reset takes the tempo of reset (R82). -/
theorem State.deviceReset_tempoInRange (s : State) (cut : ResetCut) (clock : Word) (low : Bool) :
    (s.deviceReset cut clock low).tempoInRange :=
  (State.tempoInRange_iff _).2 (show Tempo.reset.inRange from ⟨by decide, by decide⟩)

section Commands

variable {s : State} (h : s.tempoInRange)
include h

/-- A command that touches no memory, by its work. -/
theorem State.event_tempoInRange {due : Bool} {body : Device → Device}
    (hb : s.dev.beginEvent.KeepsTempoRange (body s.dev.beginEvent)) : (s.event due body).tempoInRange := by
  unfold State.event
  split
  · exact h
  · rw [State.tempoInRange_iff, State.settle_tempo]
    exact hb h

/-- A command with accesses of the memory port, by its work. -/
theorem State.portEvent_tempoInRange {due : Bool} {bus : Bus} {body : Device → PortRun → Device × PortRun}
    (hb : ∀ run, s.dev.beginEvent.KeepsTempoRange (body s.dev.beginEvent run).1) :
    (s.portEvent due bus body).tempoInRange := by
  unfold State.portEvent
  split
  · exact h
  · rw [State.tempoInRange_iff, State.settle_tempo]
    exact hb _ h

/-- An arrival, by its row's work. -/
theorem State.arrival_tempoInRange {port : Fin 4} {fits : Message → Bool} {body : Message → Device → Device}
    (hb : ∀ (m : Message) (d : Device), (body m d).tempo = d.tempo) : (s.arrival port fits body).tempoInRange := by
  unfold State.arrival
  split
  · exact h
  · exact State.event_tempoInRange h (.ofTempo ((hb _ _).trans rfl))

/-- A request, by its owner's work. -/
theorem State.request_tempoInRange {fits : Byte → Bool} {body : Request → Device → Device}
    (hb : ∀ (r : Request) (d : Device), d.KeepsTempoRange (body r d)) : (s.request fits body).tempoInRange := by
  unfold State.request
  split
  · exact h
  · exact State.event_tempoInRange h (Device.carryOut_keepsTempoRange _ _ (hb _))

/-- A write to CONTROL (R186). -/
theorem State.controlWrite_tempoInRange (w : RegWrite) (cut : ResetCut) : (s.controlWrite w cut).tempoInRange := by
  unfold State.controlWrite
  split
  · exact h
  · split
    · exact State.deviceReset_tempoInRange s cut _ false
    · exact State.event_tempoInRange h (Device.writeControl_keepsTempoRange _ _)

/-- The rewrite of the state page leaves the tempo record (R181, R182). -/
theorem State.rewritePage_tempoInRange (image : List Byte) (bus : Bus) : (s.rewritePage image bus).tempoInRange := by
  have whole : s.dev.beginEvent.rewriteWhole.tempo = s.dev.tempo := by
    unfold Device.rewriteWhole
    dsimp only
    split <;> rfl
  have failed : (s.dev.beginEvent.rewriteFailed bus).tempo = s.dev.tempo := by
    unfold Device.rewriteFailed
    dsimp only
    split <;> rfl
  unfold State.rewritePage
  split
  · rw [State.tempoInRange_iff, State.settle_tempo, whole]
    exact h
  · rw [State.tempoInRange_iff, State.settleUnpaged,
      State.endEvent_tempo (page := fun d => { d with pageCause := false }) fun _ => rfl, failed]
    exact h

end Commands

/-! ## Every command -/

/-- An outcome that, where it goes on, leaves the current tempo in its range. -/
def LeavesInRange (o : Host.Outcome State Fault Refusal) : Prop := ∀ t, o = .next t → t.tempoInRange

/-- The machine goes on with its tempo in range. -/
theorem LeavesInRange.next {t : State} (h : t.tempoInRange) : LeavesInRange (.next t) := by
  intro t' e
  cases e
  exact h

section Arms

variable {s : State} (h : s.tempoInRange)
include h

/-- The reads of the change unit (R12, R14). -/
theorem copyRead_leavesInRange (bus : Bus) :
    LeavesInRange (execSetListReadCompletion bus s) ∧ LeavesInRange (execSceneReadCompletion bus s) := by
  unfold execSetListReadCompletion execSceneReadCompletion
  constructor
  · split
    · exact .next (State.portEvent_tempoInRange h fun run => .ofTempo (Device.setListRead_tempo _ _ _ run))
    · exact .next h
  · split
    · exact .next (State.portEvent_tempoInRange h fun run => Device.sceneRead_keepsTempoRange _ _ _ run)
    · exact .next h

/-- SLOT_VISIT (R175). -/
theorem slotVisit_leavesInRange (bus : Bus) : LeavesInRange (execSlotVisit bus s) := by
  unfold execSlotVisit
  split
  · exact .next h
  · exact .next (State.portEvent_tempoInRange h fun run => .ofTempo (Device.visitSlot_tempo _ _ run))

/-- RELOAD (R172). -/
theorem reload_leavesInRange (bus : Bus) : LeavesInRange (execReload bus s) := by
  unfold execReload
  split
  · exact .next h
  · exact .next (State.portEvent_tempoInRange h fun run => Device.carryOutReload_keepsTempoRange _ _ run)

/-- SLOT_COMPLETION (R177). -/
theorem slotCompletion_leavesInRange (slot : Fin 8) (bus : Bus) : LeavesInRange (execSlotCompletion slot bus s) := by
  unfold execSlotCompletion
  split
  · exact .next h
  · exact .next (State.portEvent_tempoInRange h fun run => .ofTempo (Device.writeCompletion_tempo _ _ run))

/-- COMPLETION_RETRY (R179). -/
theorem completionRetry_leavesInRange (slot : Fin 8) (bus : Bus) : LeavesInRange (execCompletionRetry slot bus s) := by
  unfold execCompletionRetry
  split
  · exact .next h
  · exact .next (State.portEvent_tempoInRange h fun run => .ofTempo (Device.retryCompletion_tempo _ _ run))

/-- STATE_PAGE_REWRITE (R181). -/
theorem statePageRewrite_leavesInRange (bus : Bus) : LeavesInRange (execStatePageRewrite bus s) := by
  unfold execStatePageRewrite
  split
  · exact .next h
  · refine .next ?_
    split
    · exact h
    · exact State.rewritePage_tempoInRange h _ bus

/-- JOURNAL_WRITE_COMPLETION (R157). -/
theorem journalWriteCompletion_leavesInRange (bus : Bus) : LeavesInRange (execJournalWriteCompletion bus s) := by
  unfold execJournalWriteCompletion
  split
  · exact .next h
  · rename_i entry _ _
    refine .next (State.portEvent_tempoInRange h fun run => .ofTempo ?_)
    rw [(Device.takeEntry_spec s.dev.beginEvent entry run).rest]
    rfl

/-- HEADER_READ_COMPLETION (R170, R187). -/
theorem headerReadCompletion_leavesInRange (bus : Bus) : LeavesInRange (execHeaderReadCompletion bus s) := by
  have abandoned (d : Device) (run : PortRun) : (d.abandonedRead run).1.tempo = d.tempo := by
    unfold Device.abandonedRead
    dsimp only
    split <;> rfl
  unfold execHeaderReadCompletion
  split
  · exact .next (State.portEvent_tempoInRange h fun run => .ofTempo (abandoned _ run))
  · exact .next (State.portEvent_tempoInRange h fun run => Device.loadHeader_keepsTempoRange _ run)

/-- PEDAL_INPUT_CHANGE (R144). -/
theorem pedalInputChange_leavesInRange (pedal : Fin 8) (high : Bool) :
    LeavesInRange (execPedalInputChange pedal high s) := by
  unfold execPedalInputChange
  split
  · exact .next h
  · exact .next (State.event_tempoInRange h (.ofT rfl))

/-- A request whose owner leaves the tempo record. -/
theorem request_leavesInRange {fits : Byte → Bool} {body : Request → Device → Device}
    (hb : ∀ (r : Request) (d : Device), (body r d).tempo = d.tempo) : LeavesInRange (.next (s.request fits body)) :=
  .next (State.request_tempoInRange h fun r d => .ofTempo (hb r d))

/-- Every command keeps the range, by what its row does at the tempo record. -/
theorem exec_leavesInRange (c : Instr) : LeavesInRange (exec c s) := by
  cases c with
  -- what writes the tempo record
  | tick =>
    exact .next (State.event_tempoInRange h
      (((Device.advanceTick_keepsTempoRange _).trans (Device.beginTick_keepsTempoRange _)).trans
        (Device.changeBoundary_keepsTempoRange _)))
  | debounceExpiry pedal =>
    exact .next (State.event_tempoInRange h
      (.trans (b := s.dev.beginEvent.onPedal pedal _) (.ofT rfl) (Device.pedalEdge_keepsTempoRange _ _ _ _)))
  | setListReadCompletion bus => exact (copyRead_leavesInRange h bus).1
  | sceneReadCompletion bus => exact (copyRead_leavesInRange h bus).2
  | go => exact .next (State.request_tempoInRange h Device.goRequest_keepsTempoRange)
  | resume => exact .next (State.request_tempoInRange h Device.resumeRequest_keepsTempoRange)
  | start => exact .next (State.request_tempoInRange h Device.startRequest_keepsTempoRange)
  | stop => exact .next (State.request_tempoInRange h Device.stopRequest_keepsTempoRange)
  | locate => exact .next (State.request_tempoInRange h Device.locateRequest_keepsTempoRange)
  | setTempo => exact .next (State.request_tempoInRange h Device.setTempoRequest_keepsTempoRange)
  | applySync => exact .next (State.request_tempoInRange h Device.applySyncRequest_keepsTempoRange)
  | reload bus => exact reload_leavesInRange h bus
  | headerReadCompletion bus => exact headerReadCompletion_leavesInRange h bus
  | controlEnableSet w => exact .next (State.controlWrite_tempoInRange h w _)
  | controlEnableClear w => exact .next (State.controlWrite_tempoInRange h w _)
  | attentionMode w => exact .next (State.controlWrite_tempoInRange h w _)
  | causeEnable w => exact .next (State.controlWrite_tempoInRange h w _)
  | controlReset w cut => exact .next (State.controlWrite_tempoInRange h w cut)
  | powerOn cut => exact .next (State.deviceReset_tempoInRange s cut 0 _)
  | resetPinAssert cut => exact .next (State.deviceReset_tempoInRange s cut _ true)
  -- what leaves it
  | keyByteArrival port byte stopBit =>
    refine .next (State.event_tempoInRange h (.ofTempo ?_))
    unfold Device.keyByte Device.reportLineFault
    dsimp only
    split <;> rfl
  | keyDown port => exact .next (State.arrival_tempoInRange h fun _ _ => rfl)
  | keyUp port => exact .next (State.arrival_tempoInRange h fun _ _ => rfl)
  | damperArrival port => exact .next (State.arrival_tempoInRange h fun _ _ => rfl)
  | controlArrival port => exact .next (State.arrival_tempoInRange h fun _ _ => rfl)
  | programArrival port =>
    refine .next (State.arrival_tempoInRange h fun m d => ?_)
    unfold Device.programArrival Device.programSelect
    split
    · split <;> rfl
    · rfl
  | syncEdge => exact .next (State.event_tempoInRange h (.ofTempo (Device.takeEdge_tempo _)))
  | pedalInputChange pedal high => exact pedalInputChange_leavesInRange h pedal high
  | slotVisit bus => exact slotVisit_leavesInRange h bus
  | cueScene => exact request_leavesInRange h Device.cueSceneRequest_tempo
  | cuePosition => exact request_leavesInRange h Device.cuePositionRequest_tempo
  | hold => exact request_leavesInRange h Device.holdRequest_tempo
  | cancel => exact request_leavesInRange h Device.cancelRequest_tempo
  | unlockZones => exact request_leavesInRange h fun _ _ => rfl
  | releaseAll => exact request_leavesInRange h fun _ _ => rfl
  | unknownRequest => exact request_leavesInRange h fun _ _ => rfl
  | slotCompletion slot bus => exact slotCompletion_leavesInRange h slot bus
  | completionRetry slot bus => exact completionRetry_leavesInRange h slot bus
  | statePageRewrite bus => exact statePageRewrite_leavesInRange h bus
  | journalWriteCompletion bus => exact journalWriteCompletion_leavesInRange h bus
  | ignoredRegisterWrite addr w => exact .next h
  | resetPinRelease => exact .next h
  | _ => exact .next (State.event_tempoInRange h (.ofT rfl))

end Arms

/-- Settles O6: every command keeps the range, and a microsecond leaves the tempo record. -/
theorem tempoStaysInRange : Obligations.TempoStaysInRange := fun _ _ h ht =>
  step_keeps (P := State.tempoInRange) (fun _ _ h => h) (fun _ t c h => exec_leavesInRange h c t) (fun _ h => h) h ht

end Sys2Proof.Machine
end

section
/-! A glide (R72, R73): after `n` of its `g` beats it has moved by the whole part of `n / g` of its span, and its accumulator
holds the remainder. -/
namespace Sys2Proof.Machine

open Sys2Proof

/-- The tempos between the ends of a glide. -/
def glideSpan (s e : Nat) : Nat := if s ≤ e then e - s else s - e

/-- How far a glide over `g` beats has moved after `n` of them. -/
def glideMoved (s e g n : Nat) : Nat := n * glideSpan s e / g

/-- The tempo that a glide from `s` has reached after `n` beats. -/
def glideTempo (s e g n : Nat) : Nat := if s ≤ e then s + glideMoved s e g n else s - glideMoved s e g n

/-- The glide as `n` beats leave it: the accumulator holds what the division of its way leaves (R73). -/
def glideAfter (s e g n : Nat) : Glide :=
  { glideOf s e g with acc := n * glideSpan s e % g, remaining := g - n }

/-- The arithmetic of one beat: a sum of remainders below `2 g` carries at most one. -/
theorem div_mod_add_of_carry {a d g : Nat} (hg : 0 < g) :
    (a + d) / g = a / g + (if g ≤ a % g + d % g then d / g + 1 else d / g)
      ∧ (a + d) % g = if g ≤ a % g + d % g then a % g + d % g - g else a % g + d % g := by
  have ha := Nat.mod_lt a hg
  have hd := Nat.mod_lt d hg
  rw [Nat.add_div hg, Nat.add_mod]
  split
  · rename_i h
    refine ⟨by omega, ?_⟩
    rw [Nat.mod_eq_sub_mod h, Nat.mod_eq_of_lt (by omega)]
  · rename_i h
    exact ⟨by omega, Nat.mod_eq_of_lt (by omega)⟩

/-- A glide only moves on. -/
theorem glideMoved_le_succ (s e g n : Nat) : glideMoved s e g n ≤ glideMoved s e g (n + 1) :=
  Nat.div_le_div_right (Nat.mul_le_mul_right _ (Nat.le_succ n))

section Beats

variable {s e g : Nat} (hg : 1 ≤ g)
include hg

/-- The step of the next beat is what the way gains in it, and the accumulator keeps its remainder (R73). -/
theorem glideAfter_nextStep (n : Nat) :
    (glideAfter s e g n).nextStep =
      ((n + 1) * glideSpan s e % g, glideMoved s e g (n + 1) - glideMoved s e g n) := by
  obtain ⟨hdiv, hmod⟩ := div_mod_add_of_carry (a := n * glideSpan s e) (d := glideSpan s e) hg
  have hstep : (glideAfter s e g n).stepSize = glideSpan s e / g := rfl
  have hrem : (glideAfter s e g n).remainder = glideSpan s e % g := rfl
  have hlength : (glideAfter s e g n).length = g := rfl
  have hacc : (glideAfter s e g n).acc = n * glideSpan s e % g := rfl
  rw [Glide.nextStep, hstep, hrem, hlength, hacc, glideMoved, glideMoved, Nat.succ_mul, hdiv, hmod]
  split <;> simp

/-- The next beat brings the tempo after it (R73). -/
theorem glideAfter_moveTempo (n : Nat) :
    (glideAfter s e g n).moveTempo (glideTempo s e g n) = glideTempo s e g (n + 1) := by
  have hmoves := glideMoved_le_succ s e g n
  have hup : (glideAfter s e g n).up = decide (s ≤ e) := rfl
  rw [Glide.moveTempo, glideAfter_nextStep hg, hup, glideTempo, glideTempo]
  by_cases h : s ≤ e
  · simp only [h, decide_true, if_true]
    omega
  · simp only [h, decide_false, if_false, Bool.false_eq_true]
    omega

/-- The beats taken one after another from any of them. -/
theorem glideSteps_glideAfter (n k : Nat) :
    glideSteps n (glideAfter s e g k) (glideTempo s e g k) = (glideTempo s e g (k + n), glideAfter s e g (k + n)) := by
  induction n generalizing k with
  | zero => rfl
  | succ n ih =>
    have hnext : { glideAfter s e g k with
        acc := (glideAfter s e g k).nextStep.1, remaining := (glideAfter s e g k).remaining - 1 } =
          glideAfter s e g (k + 1) := by
      rw [glideAfter_nextStep hg]
      rfl
    rw [glideSteps, hnext, glideAfter_moveTempo hg, ih, Nat.add_right_comm, Nat.add_assoc]

/-- The beats of a glide from its beginning. -/
theorem glideSteps_glideOf (n : Nat) :
    glideSteps n (glideOf s e g) s = (glideTempo s e g n, glideAfter s e g n) := by
  have hbegin : glideAfter s e g 0 = glideOf s e g := by
    simp [glideAfter, glideOf]
  have htempo : glideTempo s e g 0 = s := by
    simp [glideTempo, glideMoved]
  have h := glideSteps_glideAfter (s := s) (e := e) hg n 0
  rwa [hbegin, htempo, Nat.zero_add] at h

/-- A glide of `g` beats has made its whole way after them. -/
theorem glideMoved_all : glideMoved s e g g = glideSpan s e := Nat.mul_div_cancel_left _ hg

/-- Before them it has made no more. -/
theorem glideMoved_le_span {n : Nat} (hn : n ≤ g) : glideMoved s e g n ≤ glideSpan s e := by
  rw [← glideMoved_all (s := s) (e := e) hg]
  exact Nat.div_le_div_right (Nat.mul_le_mul_right _ hn)

end Beats

/-- Settles O24: the way after `n` beats is the whole part of its share, all of it after `g` beats. -/
theorem glideLandsOnTarget : Obligations.GlideLandsOnTarget := by
  intro s e g hg _
  have hspan : glideSpan s e = if s ≤ e then e - s else s - e := rfl
  simp only [glideSteps_glideOf hg]
  refine ⟨?_, Nat.mul_mod_right _ _, Nat.sub_self g, fun n hn => ?_⟩
  · rw [glideTempo, glideMoved_all hg, hspan]
    split <;> omega
  · have hle := glideMoved_le_span (s := s) (e := e) hg hn
    rw [hspan] at hle
    rw [glideTempo]
    split <;> rename_i h <;> simp only [h, if_true, if_false] at hle <;> omega

end Sys2Proof.Machine
end

section
/-! The requests that write the tempo record without a tick: LOCATE (R69), SET_TEMPO and APPLY_SYNC (R71, R72, R78). -/
namespace Sys2Proof.Machine

open Sys2Proof

/-! ## Work on the tempo record (R62, R71, R72) -/

/-- A clamped tempo is its own clamp. -/
theorem clampNat_clampNat {lo hi : Nat} (h : lo ≤ hi) (n : Nat) : clampNat lo hi (clampNat lo hi n) = clampNat lo hi n :=
  clampNat_of_between (clampNat_between h n).1 (clampNat_between h n).2

/-- Without a glide there is none to cancel. -/
theorem Device.cancelGlide_of_none {d : Device} (h : d.tempo.glide = none) : d.cancelGlide = d := by
  rw [cancelGlide, h]

/-- The part with its tempo record as given, and entries handed. -/
def Device.retimed (d : Device) (r : Tempo) (es : List Entry) : Device :=
  { d with tempo := r, stage := { d.stage with entries := d.stage.entries ++ es } }

/-- A tempo in range taken by the record as it is (R62, R63). -/
theorem Tempo.setCurrent_eq (r : Tempo) {v : Nat} (hlo : Config.tempoMin ≤ v) (hhi : v ≤ Config.tempoMax) :
    r.setCurrent v = withTempo r v := by
  rw [setCurrent, clampNat_of_between hlo hhi, withTempo]
  by_cases h : v = r.t <;> simp [h]

/-- A tempo in range made current, and the TEMPO entry of a change (R62, R63, R80). -/
theorem Device.makeCurrent_eq (d : Device) {v : Nat} (hlo : Config.tempoMin ≤ v) (hhi : v ≤ Config.tempoMax)
    (cause : TempoCause) :
    d.makeCurrent v cause =
      d.retimed (withTempo d.tempo v) (if v = d.tempo.t then [] else [.tempo d.tempo.t v cause 0]) := by
  unfold makeCurrent
  dsimp only [onTempo]
  rw [Tempo.setCurrent_eq _ hlo hhi]
  by_cases h : v = d.tempo.t <;> simp [h, withTempo, retimed, emit, Stage.emit]

/-- A pending tempo in range made current (R71). -/
theorem Device.applyPendingTempo_eq {d : Device} {v : Nat} {cause : TempoCause} (h : d.tempo.pending = some (v, cause))
    (hlo : Config.tempoMin ≤ v) (hhi : v ≤ Config.tempoMax) :
    d.applyPendingTempo =
      d.retimed { withTempo d.tempo v with pending := none }
        (if v = d.tempo.t then [] else [.tempo d.tempo.t v cause 0]) := by
  unfold applyPendingTempo
  rw [h]
  dsimp only
  rw [makeCurrent_eq _ hlo hhi]
  rfl

/-- A pending tempo written while STOPPED is current at once (R71). -/
theorem Device.writePendingTempo_of_stopped {d : Device} (hglide : d.tempo.glide = none)
    (hstopped : d.tempo.transport = .stopped) (v : Nat) (cause : TempoCause) :
    d.writePendingTempo v cause =
      d.retimed { withTempo d.tempo (clampNat Config.tempoMin Config.tempoMax v) with pending := none }
        (if clampNat Config.tempoMin Config.tempoMax v = d.tempo.t then []
          else [.tempo d.tempo.t (clampNat Config.tempoMin Config.tempoMax v) cause 0]) := by
  obtain ⟨hlo, hhi⟩ := clampNat_between (lo := Config.tempoMin) (hi := Config.tempoMax) (by decide) v
  rw [writePendingTempo, cancelGlide_of_none hglide]
  simp only [onTempo_tempo, Tempo.isStopped, hstopped, decide_true, if_true]
  rw [applyPendingTempo_eq rfl hlo hhi]
  rfl

/-- A tempo written while STOPPED is a pending tempo, whatever its glide length (R72). -/
theorem Device.writeTempo_of_stopped {d : Device} (hstopped : d.tempo.transport = .stopped) (v g : Nat)
    (cause : TempoCause) : d.writeTempo v g cause = d.writePendingTempo v cause := by
  unfold writeTempo writeGlide
  simp [Tempo.isStopped, hstopped]

/-- A glide set up while the transport runs (R72). -/
theorem Device.writeTempo_of_glide {d : Device} (hglide : d.tempo.glide = none) (hrun : d.tempo.transport ≠ .stopped)
    {v g : Nat} (hv : v ≠ d.tempo.t) (hg : g ≠ 0) (cause : TempoCause) :
    d.writeTempo v g cause =
      d.retimed { d.tempo with pending := none, glide := some (glideOf d.tempo.t v g) } [.tempo d.tempo.t v .glide g] := by
  rw [writeTempo, if_neg hg, writeGlide, cancelGlide_of_none hglide]
  simp [Tempo.isStopped, hrun, hv, retimed, emit, Stage.emit, onTempo]

/-! ## Requests -/

/-- A request that its owner completes last after writing the tempo record. -/
theorem State.request_retimes {s : State} {r : Request} {fits : Byte → Bool} {body : Request → Device → Device}
    {code : ResultCode} {value : Nat} {tempo : Tempo} {es : List Entry} (hon : s.isOnline = true)
    (hreq : s.dev.req.handedRequest = some r) (hf : fits r.kind = true)
    (hb : body r s.dev.atRequest = (s.dev.atRequest.retimed tempo es).answer r code value) :
    ∃ t, t = s.request fits body ∧ t.dev.tempo = tempo ∧ Answered r code value s t ∧ Journaled es s t
      ∧ EventChanges [.tempo, .req] s t := by
  obtain ⟨-, -, hen, -⟩ := State.isOnline_spec hon
  have hentries : s.dev.atRequest.stage.entries = [] := hen
  obtain ⟨t, ht, ⟨p, q, rq, hs⟩, ha, hj, hc⟩ := State.request_answered
    (s.dev.atRequest.retimed tempo es) es [.tempo, .req]
    hon hreq hf hb rfl rfl rfl (by simp [Device.retimed, hentries]) rfl rfl (by simp)
    (by intro b; cases b <;> simp [Block.agrees, Device.retimed, Device.atRequest, Device.beginEvent])
  exact ⟨t, ht, by rw [hs]; rfl, ha, hj, hc⟩

/-- A request whose owner does nothing but complete it, by its kind. -/
theorem State.request_refused {s : State} {r : Request} {k : Byte} {body : Request → Device → Device} {code : ResultCode}
    {value : Nat} (hon : s.isOnline = true) (hreq : s.hasRequest k r)
    (hb : body r s.dev.atRequest = s.dev.atRequest.answer r code value) :
    ∃ t, (.next (s.request (fun x => decide (x = k)) body) : Host.Outcome State Fault Refusal) = .next t
      ∧ Answered r code value s t ∧ Journaled [] s t ∧ EventChanges [.req] s t := by
  obtain ⟨t, ht, h⟩ := State.request_only_answered (fits := fun x => decide (x = k)) hon hreq.1 (decide_eq_true hreq.2) hb
  exact ⟨t, congrArg _ ht.symm, h⟩

/-- A cause of a rewrite noted by an event of ONLINE begins it, or marks it owed (R181). -/
theorem State.event_pageCaused {s : State} {due : Bool} {body : Device → Device} {d : Device} (hon : s.isOnline = true)
    (hdue : due = true) (hb : body s.dev.beginEvent = d) (he : d.engine = s.dev.engine) (hcause : d.pageCause = true)
    (hpage : d.page = s.dev.page) : PageCaused s (s.event due body) := by
  obtain ⟨hr, heng, -, -⟩ := State.isOnline_spec hon
  have hstate : d.engine.state = .online := he ▸ heng
  subst hdue
  rw [State.event_due hr, hb]
  exact PageCaused.of_settle s.mem (Device.drainOver_of_state (by simp [hstate])) (by rw [hstate]; rfl) hcause hpage

/-- So does one noted by the owner of a request that it completes. -/
theorem State.request_pageCaused {s : State} {r : Request} {fits : Byte → Bool} {body : Request → Device → Device}
    {code : ResultCode} {value : Nat} {d : Device} (hon : s.isOnline = true)
    (hreq : s.dev.req.handedRequest = some r) (hf : fits r.kind = true)
    (hb : body r s.dev.atRequest = d.answer r code value) (he : d.engine = s.dev.engine) (hcause : d.pageCause = true)
    (hpage : d.page = s.dev.page) : PageCaused s (s.request fits body) := by
  obtain ⟨-, heng, -, -⟩ := State.isOnline_spec hon
  have hwork : s.dev.beginEvent.carryOut r (body r) = (d.answer r code value).onReq RequestUnit.nextSlot := by
    rw [← hb]
    exact congrArg (Device.onReq · RequestUnit.nextSlot) (if_pos heng)
  rw [State.request, hreq]
  exact State.event_pageCaused hon hf hwork (by simpa [Device.answer] using he) (by simpa [Device.answer] using hcause)
    (by simpa [Device.answer] using hpage)

/-! ## LOCATE (R69) -/

/-- The part with its position at the first tick of a bar, and the rewrite that this causes (R69, R181). -/
def Device.located (d : Device) (bar : Nat) : Device :=
  (d.onTempo fun r => { r with bar := bar, beat := 1, tick := 0 }).causePage

/-- A LOCATE within the bars while STOPPED. -/
theorem State.locate_moves {s : State} {r : Request} (hon : s.isOnline = true) (hreq : s.hasRequest 10#8 r)
    (hlo : 1 ≤ r.arg1.toNat) (hhi : r.arg1.toNat ≤ 9999) (hstopped : s.dev.tempo.transport = .stopped) :
    ∃ t, exec .locate s = .next t
      ∧ t.dev.tempo = { s.dev.tempo with bar := r.arg1.toNat, beat := 1, tick := 0 }
      ∧ (s.dev.tempo.countIn = none → t.dev.eventStamp.pos = { bar := r.arg1.toNat, beat := 1, tick := 0 })
      ∧ Answered r .ok r.arg1.toNat s t ∧ PageCaused s t ∧ Journaled [] s t ∧ EventChanges [.tempo, .req] s t := by
  obtain ⟨-, -, hen, -⟩ := State.isOnline_spec hon
  obtain ⟨hreq, hk⟩ := hreq
  have hbody : Device.locateRequest r s.dev.atRequest =
      (s.dev.atRequest.located r.arg1.toNat).answer r .ok r.arg1.toNat := by
    have hrange : ¬ (r.arg1.toNat < 1 ∨ Config.maxBar < r.arg1.toNat) := by
      simp only [Config.maxBar]
      omega
    have hidle : s.dev.atRequest.tempo.isStopped = true := decide_eq_true hstopped
    rw [Device.locateRequest, if_neg hrange, if_pos hidle, Device.located]
  obtain ⟨t, ht, ⟨p, q, rq, hs⟩, ha, hj, hc⟩ := State.request_answered (fits := fun x => decide (x = 10#8))
    (s.dev.atRequest.located r.arg1.toNat) [] [.tempo, .req] hon hreq (decide_eq_true hk) hbody rfl rfl rfl hen
    rfl rfl (by simp)
    (by intro b; cases b <;> simp [Block.agrees, Device.located, Device.atRequest, Device.beginEvent])
  refine ⟨t, congrArg _ ht.symm, by rw [hs]; rfl, fun hcount => ?_, ha, ?_, hj, hc⟩
  · rw [hs]
    simp [Device.stampHere, Tempo.stampPosition, Device.located, Device.atRequest, Device.beginEvent, hcount]
  · rw [ht]
    exact State.request_pageCaused hon hreq (decide_eq_true hk) hbody rfl rfl rfl

/-- Settles O26: LOCATE by its argument and the transport. -/
theorem locateSetsBar : Obligations.LocateSetsBar := by
  intro s r hon hreq
  refine ⟨fun hout => ?_, fun hlo hhi hstopped => State.locate_moves hon hreq hlo hhi hstopped, fun hlo hhi hrun => ?_⟩
  · exact State.request_refused hon hreq (if_pos hout)
  · have hrange : ¬ (r.arg1.toNat < 1 ∨ Config.maxBar < r.arg1.toNat) := by
      simp only [Config.maxBar]
      omega
    have hruns : ¬ s.dev.atRequest.tempo.isStopped = true := fun h => hrun (of_decide_eq_true h)
    exact State.request_refused hon hreq ((if_neg hrange).trans (if_neg hruns))

/-! ## SET_TEMPO and APPLY_SYNC (R71, R72, R78) -/

/-- A SET_TEMPO request under MANUAL, by what its write leaves of the tempo record. -/
theorem State.setTempo_writes {s : State} {r : Request} {tempo : Tempo} {es : List Entry} (hon : s.isOnline = true)
    (hreq : s.hasRequest 11#8 r) (hsource : s.dev.tempo.source = .manual)
    (hwrite : s.dev.atRequest.writeTempo (clampNat Config.tempoMin Config.tempoMax r.arg1.toNat) (min 64 r.arg2.toNat)
      .request = s.dev.atRequest.retimed tempo es) :
    ∃ t, exec .setTempo s = .next t ∧ t.dev.tempo = tempo
      ∧ Answered r .ok (clampNat Config.tempoMin Config.tempoMax r.arg1.toNat) s t ∧ Journaled es s t
      ∧ EventChanges [.tempo, .req] s t := by
  have hmanual : ¬ s.dev.atRequest.tempo.source = .follow := by
    show ¬ s.dev.tempo.source = .follow
    rw [hsource]
    decide
  obtain ⟨t, ht, h⟩ := State.request_retimes (fits := fun x => decide (x = 11#8)) (body := Device.setTempoRequest) hon
    hreq.1 (decide_eq_true hreq.2) (by rw [Device.setTempoRequest, if_neg hmanual]; dsimp only; rw [hwrite])
  exact ⟨t, congrArg _ ht.symm, h⟩

/-- An APPLY_SYNC request under MANUAL with a LOCKED estimate in range, while the transport runs. -/
theorem State.applySync_writes {s : State} {r : Request} {e : Nat} (hon : s.isOnline = true) (hreq : s.hasRequest 12#8 r)
    (hglide : s.dev.tempo.glide = none) (hsource : s.dev.tempo.source = .manual)
    (hrun : s.dev.tempo.transport ≠ .stopped) (hlocked : s.dev.sync.state = .locked)
    (he : s.dev.sync.estimate = some e) (hlo : 2000 ≤ e) (hhi : e ≤ 30000) :
    ∃ t, exec .applySync s = .next t ∧ t.dev.tempo = { s.dev.tempo with pending := some (e, .sync) }
      ∧ Answered r .ok e s t ∧ Journaled [] s t ∧ EventChanges [.tempo, .req] s t := by
  have hmanual : ¬ s.dev.atRequest.tempo.source = .follow := by
    show ¬ s.dev.tempo.source = .follow
    rw [hsource]
    decide
  have hwrite : s.dev.atRequest.writePendingTempo e .sync =
      s.dev.atRequest.retimed { s.dev.tempo with pending := some (e, .sync) } [] := by
    rw [Device.writePendingTempo_of_running (d := s.dev.atRequest) hrun hglide,
      clampNat_of_between (lo := Config.tempoMin) (hi := Config.tempoMax) hlo hhi]
    simp [Device.onTempo, Device.retimed, Device.atRequest, Device.beginEvent]
  obtain ⟨t, ht, h⟩ := State.request_retimes (fits := fun x => decide (x = 12#8)) (body := Device.applySyncRequest) hon
    hreq.1 (decide_eq_true hreq.2) (by
      rw [← hwrite, Device.applySyncRequest, if_neg hmanual, show s.dev.atRequest.sync.state = .locked from hlocked,
        show s.dev.atRequest.sync.estimate = some e from he])
  exact ⟨t, congrArg _ ht.symm, h⟩

/-- Settles O27: SET_TEMPO by the transport and its glide length, APPLY_SYNC by the follower, and both under FOLLOW. -/
theorem tempoRequests : Obligations.TempoRequests := by
  intro s r hon hglide
  refine ⟨fun hreq hsource => ⟨fun hstopped hne => ?_, fun hrun harg => ?_, fun hrun harg hne => ?_⟩,
    fun hreq hsource hrun => ⟨fun e hlocked he hlo hhi => ?_, fun hfree => ?_⟩, fun hfollow hreq => ?_,
    fun hfollow hreq => ?_⟩
  · have hwrite := Device.writePendingTempo_of_stopped (d := s.dev.atRequest) hglide hstopped
      (clampNat Config.tempoMin Config.tempoMax r.arg1.toNat) .request
    rw [clampNat_clampNat (by decide), if_neg (by exact hne), withTempo, if_neg (by exact hne)] at hwrite
    exact State.setTempo_writes hon hreq hsource ((Device.writeTempo_of_stopped (by exact hstopped) _ _ _).trans hwrite)
  · have hwrite := Device.writePendingTempo_of_running (d := s.dev.atRequest) hrun hglide
      (clampNat Config.tempoMin Config.tempoMax r.arg1.toNat) .request
    rw [clampNat_clampNat (by decide)] at hwrite
    refine State.setTempo_writes hon hreq hsource ?_
    rw [Device.writeTempo, if_pos (by simp [harg]), hwrite, Device.retimed, List.append_nil]
    rfl
  · have hlength : min 64 r.arg2.toNat ≠ 0 := by
      have hpos : r.arg2.toNat ≠ 0 := fun h => harg (BitVec.eq_of_toNat_eq h)
      omega
    exact State.setTempo_writes hon hreq hsource
      (Device.writeTempo_of_glide (d := s.dev.atRequest) hglide hrun hne hlength .request)
  · exact State.applySync_writes hon hreq hglide hsource hrun hlocked he hlo hhi
  · have hmanual : ¬ s.dev.atRequest.tempo.source = .follow := by
      show ¬ s.dev.tempo.source = .follow
      rw [hsource]
      decide
    refine State.request_refused (body := Device.applySyncRequest) hon hreq ((if_neg hmanual).trans ?_)
    split
    · rename_i hlocked _
      exact absurd hlocked hfree
    · rfl
  · exact State.request_refused hon hreq (if_pos hfollow)
  · exact State.request_refused hon hreq (if_pos hfollow)

end Sys2Proof.Machine
end

section
/-! A tick (R63, R64, R67): when it is due, its length, and what one inside a beat changes. -/
namespace Sys2Proof.Machine

open Sys2Proof

/-- A tick that begins has its length fixed as R63 says. -/
theorem Tempo.fixTick_eq (r : Tempo) (now : Word) : r.fixTick now = tickBegun r now := by
  have hlength : tickLength r.t = 25000000 / r.t := rfl
  have hremainder : tickRemainder r.t = 25000000 % r.t := rfl
  simp only [fixTick, tickBegun, hlength, hremainder]
  split <;> rfl

@[simp] theorem tickBegun_transport (r : Tempo) (now : Word) : (tickBegun r now).transport = r.transport := rfl

section Due

variable {s : State} (hdue : tickDue s)
include hdue

/-- A tick that is due finds the transport running. -/
theorem tickDue_running : s.dev.tempo.transport ≠ .stopped := by
  rcases hdue.1 with ⟨h, -⟩ | ⟨h, -⟩ <;> rw [h] <;> decide

/-- It is due as TICK asks it. -/
theorem tickDue_due : (!s.dev.tempo.isStopped && timerDue s.dev.now s.dev.tempo.tickAt) = true := by
  have hruns := tickDue_running hdue
  obtain ⟨-, m, hat, hreached⟩ := hdue
  simp [Tempo.isStopped, hruns, hat, timerDue, hreached]

/-- With a count-in it finds COUNT_IN, and the position at beat 1, tick 0. -/
theorem tickDue_counting {c : CountIn} (h : s.dev.tempo.countIn = some c) :
    s.dev.tempo.transport = .countIn ∧ s.dev.tempo.beat = 1 ∧ s.dev.tempo.tick = 0 := by
  rcases hdue.1 with ⟨-, hnone⟩ | ⟨htransport, -, hbeat, htick⟩
  · simp [h] at hnone
  · exact ⟨htransport, hbeat, htick⟩

end Due

/-- A tick inside a beat changes the tempo record, the click unit, and the ports and entries of its notes (R64, R104). -/
theorem Device.takeTick_frame_of_inBeat {d : Device} {r : Tempo} (hadvance : d.advanceTick = d.onTempo fun _ => r)
    (htick : r.tickNow ≠ 0) :
    d.takeTick =
      { d with
        tempo := tickBegun r d.now
        click := d.takeTick.click
        stage := { d.stage with ports := d.takeTick.stage.ports, entries := d.takeTick.stage.entries } } := by
  have hstart : d.advanceTick.startTick = { d with tempo := tickBegun r d.now } := by
    rw [hadvance, startTick_of_inBeat (by exact htick)]
    simp only [onTempo, Tempo.fixTick_eq]
    rfl
  have htaken : d.takeTick = { d with tempo := tickBegun r d.now }.clickTick := by
    rw [takeTick, beginTick, hstart]
    refine changeBoundary_of_inBeat ?_
    rw [clickTick_frame]
    exact htick
  rw [htaken]
  exact clickTick_frame _

/-- A tick inside a beat, by where it moves the position or the counter. -/
theorem State.tick_inBeat_moves {s : State} {r : Tempo} (hon : s.isOnline = true) (hdue : tickDue s)
    (hadvance : s.dev.beginEvent.advanceTick = s.dev.beginEvent.onTempo fun _ => r) (htick : r.tickNow ≠ 0) :
    ∃ t, exec .tick s = .next t ∧ t.dev.tempo = tickBegun r s.dev.now ∧ EventChanges [.tempo, .click, .ports] s t := by
  obtain ⟨hr, heng, hen, hpc⟩ := State.isOnline_spec hon
  have hframe := Device.takeTick_frame_of_inBeat hadvance htick
  obtain ⟨t, ht, ⟨p, q, hs⟩, -, hc⟩ := State.event_outcome (body := Device.takeTick) _ _ [.tempo, .click, .ports]
    (tickDue_due hdue)
    hr hen hpc (.inl (by rw [heng]; rfl)) hframe rfl rfl (Device.drainOver_of_state (by simp [Device.beginEvent, heng]))
    (by intro b; cases b <;> simp [Block.agrees, Device.beginEvent])
  exact ⟨t, congrArg _ ht.symm, by rw [hs]; rfl, hc⟩

/-- Settles O22: a tick inside a beat, of the position and of a count-in. -/
theorem tickAdvancesPosition : Obligations.TickAdvancesPosition := by
  intro s hon hdue
  refine ⟨fun hnone htick => ?_, fun c hsome htick => ?_⟩
  · refine State.tick_inBeat_moves hon hdue ?_ (by simp [Tempo.tickNow, hnone])
    simp [Device.advanceTick, Device.beginEvent, hnone, Tempo.advancePosition, htick, Device.onTempo]
  · refine State.tick_inBeat_moves hon hdue ?_ (by simp [Tempo.tickNow])
    simp [Device.advanceTick, Device.beginEvent, hsome, CountIn.advance, htick, Device.onTempo]

end Sys2Proof.Machine
end

section
/-! The first tick of a beat (R64, R65, R67, R71, R73, R77): the move to it, the work at the tempo record, the meter, and the
click unit with no line enabled. -/
namespace Sys2Proof.Machine

open Sys2Proof

/-! ## Work on the tempo record alone -/

@[simp] theorem Device.retimed_tempo (d : Device) (r : Tempo) (es : List Entry) : (d.retimed r es).tempo = r := rfl

/-- A change of the record without an entry. -/
theorem Device.onTempo_eq (d : Device) (f : Tempo → Tempo) : d.onTempo f = d.retimed (f d.tempo) [] := by
  simp [onTempo, retimed]

/-! ## A beat boundary at the tempo record (R71, R73, R77) -/

/-- What a beat boundary may change of the record. -/
theorem beatTaken_frame (r : Tempo) (sync : SyncFollower) :
    (beatTaken r sync).1 =
      { r with
        t := (beatTaken r sync).1.t, acc := (beatTaken r sync).1.acc, pending := (beatTaken r sync).1.pending
        glide := (beatTaken r sync).1.glide } := by
  unfold beatTaken
  split
  · rfl
  · rfl
  · split
    · split <;> rfl
    · rfl

section BeatTaken

variable (r : Tempo) (sync : SyncFollower)

@[simp] theorem beatTaken_transport : (beatTaken r sync).1.transport = r.transport := by rw [beatTaken_frame]
@[simp] theorem beatTaken_tickNow : (beatTaken r sync).1.tickNow = r.tickNow := by rw [beatTaken_frame]; rfl
@[simp] theorem beatTaken_beatNow : (beatTaken r sync).1.beatNow = r.beatNow := by rw [beatTaken_frame]; rfl

end BeatTaken

@[simp] theorem meterTaken_transport (r : Tempo) : (meterTaken r).transport = r.transport := rfl
@[simp] theorem meterTaken_tickNow (r : Tempo) : (meterTaken r).tickNow = r.tickNow := rfl
@[simp] theorem meterTaken_beatNow (r : Tempo) : (meterTaken r).beatNow = r.beatNow := rfl

/-- A FOLLOW read that leaves the tempo in range (R77). -/
theorem Device.followRead_eq {d : Device} (hpending : d.tempo.pending = none) (hglide : d.tempo.glide = none)
    (hsource : d.tempo.source = .follow) (hrange : (beatTaken d.tempo d.sync).1.inRange) :
    d.followRead = d.retimed (beatTaken d.tempo d.sync).1 (beatTaken d.tempo d.sync).2 := by
  have hkept : d = d.retimed d.tempo [] := by simp [retimed]
  unfold followRead
  unfold beatTaken at hrange ⊢
  simp only [hpending, hglide, hsource] at hrange ⊢
  cases hstate : d.sync.state <;> cases hestimate : d.sync.estimate <;>
    simp only [hstate, hestimate] at hrange ⊢ <;> try exact hkept
  rename_i e
  have hdiff : absDiff e d.tempo.t = (e - d.tempo.t) + (d.tempo.t - e) := rfl
  rw [hdiff]
  by_cases hne : e = d.tempo.t
  · subst hne
    simp only [ne_eq, not_true_eq_false, and_false, if_false] at hrange ⊢
    split
    · rw [makeCurrent_eq d hrange.1 hrange.2]
      simp [withTempo]
    · exact hkept
  · simp only [ne_eq, hne, not_false_eq_true, and_true] at hrange ⊢
    split
    · rename_i hfar
      simp only [hfar, if_true] at hrange ⊢
      rw [makeCurrent_eq d (v := e) hrange.1 hrange.2, if_neg hne]
    · exact hkept

/-- What a beat boundary does at the tempo record, as `beatTaken` says it, where it leaves the tempo in range. -/
theorem Device.beatWork_eq {d : Device} (hrange : (beatTaken d.tempo d.sync).1.inRange) :
    d.beatWork = d.retimed (beatTaken d.tempo d.sync).1 (beatTaken d.tempo d.sync).2 := by
  unfold beatWork
  split
  · rename_i p hpending
    obtain ⟨v, cause⟩ := p
    simp only [beatTaken, hpending] at hrange ⊢
    exact applyPendingTempo_eq hpending hrange.1 hrange.2
  · rename_i g hpending hglide
    simp only [beatTaken, hpending, hglide] at hrange ⊢
    have hcurrent := Tempo.setCurrent_eq d.tempo (v := g.moveTempo d.tempo.t) hrange.1 hrange.2
    simp only [stepGlide, onTempo, Nat.sub_eq_zero_iff_le]
    split <;> simp only [retimed, emit, Stage.emit, List.append_nil] <;> rw [hcurrent]
  · rename_i hpending hglide
    split
    · rename_i hsource
      exact followRead_eq hpending hglide hsource hrange
    · rename_i hsource
      have hmanual : d.tempo.source = .manual := by
        cases h : d.tempo.source with
        | manual => rfl
        | follow => exact absurd h hsource
      simp [beatTaken, hpending, hglide, hmanual, retimed]

/-! ## A tick that begins, at the tempo generator (R63 to R65) -/

/-- What a tick that begins does at the tempo record before its length is fixed, and the entries that it writes: the work of
a beat where it is the first of one, and the pending meter where it is the first of a bar (R64, R65). -/
def boundaryTaken (r : Tempo) (sync : SyncFollower) : Tempo × List Entry :=
  let beat := if r.atBeat then beatTaken r sync else (r, [])
  (if r.atBar then meterTaken beat.1 else beat.1, beat.2)

/-- The first tick of a bar is the first of a beat. -/
theorem Tempo.atBeat_of_atBar {r : Tempo} (h : r.atBar = true) : r.atBeat = true := by
  obtain ⟨htick, -⟩ : r.tickNow = 0 ∧ r.beatNow = 1 := of_decide_eq_true h
  exact decide_eq_true htick

/-- A tick that begins, as `boundaryTaken` and `tickBegun` say it, where it leaves the tempo in range. -/
theorem Device.startTick_eq {d : Device} (hrange : d.tempo.atBeat = true → (beatTaken d.tempo d.sync).1.inRange) :
    d.startTick =
      { d.retimed (tickBegun (boundaryTaken d.tempo d.sync).1 d.now) (boundaryTaken d.tempo d.sync).2 with
        pageCause := d.pageCause || d.tempo.atBeat } := by
  unfold startTick boundaryTaken
  cases hbeat : d.tempo.atBeat with
  | false =>
    have hbar : d.tempo.atBar = false := by
      cases h : d.tempo.atBar with
      | false => rfl
      | true => exact absurd (Tempo.atBeat_of_atBar h) (by simp [hbeat])
    simp [hbar, onTempo, Tempo.fixTick_eq, retimed]
  | true =>
    simp only [if_true, Tempo.fixTick_eq, beatWork_eq (hrange hbeat)]
    cases d.tempo.atBar <;> simp [onTempo, retimed, causePage, meterTaken, Tempo.takeMeter]

/-! ## The click unit with no line enabled (R104, R106) -/

/-- A line that is not enabled takes its pending settings at most. -/
theorem takeClickTick_of_silent {l : ClickLine} (henable : l.setup.enable = false) (mute : Bool) (tr : Transport)
    (beat tick : Nat) (n : Fin 4) (st : Stage) :
    takeClickTick mute tr beat tick n l st = (l.applySettings tick, st) ∧ (l.applySettings tick).setup = l.setup := by
  have hsetup : (l.applySettings tick).setup = l.setup := by
    unfold ClickLine.applySettings
    split
    · rfl
    · split <;> rfl
  exact ⟨by simp [takeClickTick, hsetup, ClickSetup.maySound, henable], hsetup⟩

/-- With no line enabled a tick changes the click unit alone. -/
theorem Device.clickTick_of_silent {d : Device} (h : ∀ n : Fin 4, d.click.lines[n].setup.enable = false) :
    d.clickTick = { d with click := d.clickTick.click } := by
  have fold (mute : Bool) (tr : Transport) (beat tick : Nat) (ns : List (Fin 4)) :
      ∀ d : Device, (∀ n : Fin 4, d.click.lines[n].setup.enable = false) →
        (ns.foldl (fun d n => d.onLine n (takeClickTick mute tr beat tick n)) d).stage = d.stage := by
    induction ns with
    | nil => exact fun d _ => rfl
    | cons n ns ih =>
      intro d hsilent
      obtain ⟨htaken, hsetup⟩ := takeClickTick_of_silent (hsilent n) mute tr beat tick n d.stage
      rw [List.foldl_cons, onLine_eq htaken]
      refine ih _ fun k => ?_
      show (vecModify d.click.lines n fun l => l.applySettings tick)[k].setup.enable = false
      rw [getElem_vecModify]
      split
      · rename_i hk
        exact hk ▸ hsetup ▸ hsilent n
      · exact hsilent k
  have hstage : d.clickTick.stage = d.stage := fold _ _ _ _ _ d h
  rw [clickTick_frame, hstage]

/-- With no line enabled a tick that begins changes the tempo record, the click unit, the entries and the cause of a page
rewrite. -/
theorem Device.beginTick_of_silent {d : Device} (h : ∀ n : Fin 4, d.click.lines[n].setup.enable = false)
    (hrange : d.tempo.atBeat = true → (beatTaken d.tempo d.sync).1.inRange) :
    d.beginTick =
      { d.retimed (tickBegun (boundaryTaken d.tempo d.sync).1 d.now) (boundaryTaken d.tempo d.sync).2 with
        pageCause := d.pageCause || d.tempo.atBeat, click := d.beginTick.click } := by
  rw [beginTick, startTick_eq hrange]
  exact clickTick_of_silent h

/-! ## The move to the next beat (R64, R67) -/

section NextBeat

variable {r : Tempo} (hlast : LastTick r)
include hlast

/-- Outside a count-in it is that of the position. -/
theorem nextBeat_of_position (hcount : r.countIn = none) : nextBeat r = r.advancePosition := by
  obtain ⟨htick, -⟩ := hlast.1 hcount
  by_cases hends : r.meter ≤ r.beat
  · simp only [nextBeat, barEnds, Tempo.advancePosition, hcount, htick, hends, Nat.not_lt.2 hends]
    rfl
  · simp only [nextBeat, barEnds, Tempo.advancePosition, hcount, htick, hends, Nat.not_le.1 hends]
    rfl

/-- In a count-in it is that of the counter, and after the counter's last bar PLAYING. -/
theorem nextBeat_of_counter {c : CountIn} (hcount : r.countIn = some c) :
    nextBeat r =
      match c.advance r.meter with
      | some c' => { r with countIn := some c' }
      | none => { r with countIn := none, transport := .playing } := by
  obtain ⟨htick, -⟩ := hlast.2 c hcount
  by_cases hends : r.meter ≤ c.beat
  · by_cases hbars : c.bar < c.bars <;>
      simp [nextBeat, barEnds, CountIn.advance, hcount, htick, hends, hbars, Nat.not_lt.2 hends]
  · simp [nextBeat, barEnds, CountIn.advance, hcount, htick, hends, Nat.not_le.1 hends]

/-- The next beat begins at tick 0, and is the first of a bar where the beat before it was the last of one. -/
theorem nextBeat_begins (hheld : r.countIn.isSome = true → r.beat = 1 ∧ r.tick = 0) :
    (nextBeat r).atBeat = true ∧ (nextBeat r).atBar = barEnds r := by
  cases hcount : r.countIn with
  | none =>
    obtain ⟨-, hbeat⟩ := hlast.1 hcount
    by_cases hends : r.meter ≤ r.beat <;>
      simp [nextBeat, barEnds, Tempo.atBeat, Tempo.atBar, Tempo.tickNow, Tempo.beatNow, hcount, hends]
    omega
  | some c =>
    obtain ⟨-, hbeat⟩ := hlast.2 c hcount
    obtain ⟨hfirst, hzero⟩ := hheld (by simp [hcount])
    by_cases hends : r.meter ≤ c.beat
    · by_cases hbars : c.bar < c.bars <;>
        simp [nextBeat, barEnds, Tempo.atBeat, Tempo.atBar, Tempo.tickNow, Tempo.beatNow, hcount, hends, hbars, hfirst, hzero]
    · simp [nextBeat, barEnds, Tempo.atBeat, Tempo.atBar, Tempo.tickNow, Tempo.beatNow, hcount, hends]
      omega

end NextBeat

/-- The end of a beat's last tick: the move to the next beat, and the entry of a count-in's end (R64, R67, R80). -/
theorem Device.advanceTick_of_lastTick {d : Device} (hlast : LastTick d.tempo)
    (hcounting : d.tempo.countIn.isSome = true → d.tempo.transport = .countIn) :
    d.advanceTick =
      d.retimed (nextBeat d.tempo)
        (if (nextBeat d.tempo).transport = d.tempo.transport then [] else [.transport .countIn .playing .countInEnd 0]) := by
  unfold advanceTick
  cases hcount : d.tempo.countIn with
  | none =>
    have hmoves : d.tempo.advancePosition.transport = d.tempo.transport := by
      unfold Tempo.advancePosition
      split
      · rfl
      · split <;> rfl
    rw [nextBeat_of_position hlast hcount, if_pos hmoves]
    exact d.onTempo_eq _
  | some c =>
    have htransport := hcounting (by simp [hcount])
    rw [nextBeat_of_counter hlast hcount]
    cases hnext : c.advance d.tempo.meter <;> simp [hnext, htransport, onTempo, retimed, emit, Stage.emit]

/-- The move to the next beat leaves the transport running. -/
theorem nextBeat_runs {r : Tempo} (h : r.transport ≠ .stopped) : (nextBeat r).transport ≠ .stopped := by
  unfold nextBeat
  split
  · split <;> exact h
  · split
    · exact h
    · split
      · exact h
      · simp

end Sys2Proof.Machine
end

section
/-! The timing stage of a switch (R65, R76, R79, R106, R132): what it leaves of the tempo record, the click unit and the
ports. -/
namespace Sys2Proof.Machine

open Sys2Proof

/-! ## A pending tempo, clamped (R62, R71) -/

/-- A tempo is clamped as it becomes current. -/
theorem Device.makeCurrent_clamped (d : Device) (v : Nat) (cause : TempoCause) :
    d.makeCurrent v cause =
      d.retimed (withTempo d.tempo (clampNat 2000 30000 v))
        (if clampNat 2000 30000 v = d.tempo.t then [] else [.tempo d.tempo.t (clampNat 2000 30000 v) cause 0]) := by
  obtain ⟨hlo, hhi⟩ := clampNat_between (lo := 2000) (hi := 30000) (by decide) v
  have hclamps : d.makeCurrent v cause = d.makeCurrent (clampNat 2000 30000 v) cause := by
    have hsame : d.tempo.setCurrent v = d.tempo.setCurrent (clampNat 2000 30000 v) := by
      unfold Tempo.setCurrent
      rw [show clampNat Config.tempoMin Config.tempoMax (clampNat 2000 30000 v) = clampNat Config.tempoMin Config.tempoMax v
        from clampNat_clampNat (by decide) v]
    unfold makeCurrent
    dsimp only [onTempo]
    rw [hsame]
  rw [hclamps]
  exact makeCurrent_eq d hlo hhi cause

/-- A pending tempo made current. -/
theorem Device.applyPendingTempo_clamped {d : Device} {v : Nat} {cause : TempoCause}
    (h : d.tempo.pending = some (v, cause)) :
    d.applyPendingTempo =
      d.retimed { withTempo d.tempo (clampNat 2000 30000 v) with pending := none }
        (if clampNat 2000 30000 v = d.tempo.t then [] else [.tempo d.tempo.t (clampNat 2000 30000 v) cause 0]) := by
  unfold applyPendingTempo
  rw [h]
  exact makeCurrent_clamped _ _ _

/-! ## Writes of tempo and source -/

/-- What a write of tempo or source can do (R71, R72, R75, R76): the tempo, its accumulator, what is pending, the glide and
the source may change, and entries are handed; while the transport runs the tempo and its accumulator stay. -/
structure Device.Retunes (d d' : Device) : Prop where
  frame : d' =
    { d with
      tempo := { d.tempo with
        t := d'.tempo.t, acc := d'.tempo.acc, pending := d'.tempo.pending, glide := d'.tempo.glide
        source := d'.tempo.source }
      stage := { d.stage with entries := d'.stage.entries } }
  running : d.tempo.transport ≠ .stopped → d'.tempo.t = d.tempo.t ∧ d'.tempo.acc = d.tempo.acc

/-- Nothing done is within the relation. -/
theorem Device.Retunes.refl (d : Device) : d.Retunes d := ⟨rfl, fun _ => ⟨rfl, rfl⟩⟩

/-- The transport stays. -/
theorem Device.Retunes.transport {d d' : Device} (h : d.Retunes d') : d'.tempo.transport = d.tempo.transport := by
  rw [h.frame]

/-- The relation composes. -/
theorem Device.Retunes.trans {a b c : Device} (h : a.Retunes b) (h' : b.Retunes c) : a.Retunes c where
  frame := by
    have := h'.frame
    rw [h.frame] at this
    exact this
  running hrun := by
    obtain ⟨ht, hacc⟩ := h.running hrun
    obtain ⟨ht', hacc'⟩ := h'.running (h.transport ▸ hrun)
    exact ⟨ht'.trans ht, hacc'.trans hacc⟩

/-- An entry handed. -/
theorem Device.emit_retunes (d : Device) (e : Entry) : d.Retunes (d.emit e) := ⟨rfl, fun _ => ⟨rfl, rfl⟩⟩

/-- What is pending, the glide and the source set. -/
theorem Device.onTempo_retunes (d : Device) (pending : Option (Nat × TempoCause)) (glide : Option Glide)
    (source : TempoSource) :
    d.Retunes (d.onTempo fun r => { r with pending := pending, glide := glide, source := source }) :=
  ⟨rfl, fun _ => ⟨rfl, rfl⟩⟩

/-- A glide cancelled (R75). -/
theorem Device.cancelGlide_retunes (d : Device) : d.Retunes d.cancelGlide := by
  unfold cancelGlide
  split
  · exact .refl d
  · exact .trans (d.onTempo_retunes d.tempo.pending none d.tempo.source) (emit_retunes _ _)

/-- A pending tempo made current while STOPPED (R71). -/
theorem Device.applyPendingTempo_retunes {d : Device} (h : d.tempo.transport = .stopped) :
    d.Retunes d.applyPendingTempo where
  frame := by
    cases hp : d.tempo.pending with
    | none =>
      have hkept : d.applyPendingTempo = d := by rw [applyPendingTempo, hp]
      rw [hkept]
    | some p =>
      rw [applyPendingTempo_clamped hp]
      rfl
  running hrun := absurd h hrun

/-- A pending tempo written (R71, R75). -/
theorem Device.writePendingTempo_retunes (d : Device) (v : Nat) (cause : TempoCause) :
    d.Retunes (d.writePendingTempo v cause) := by
  have written : d.Retunes (d.cancelGlide.onTempo fun r =>
      { r with pending := some (clampNat Config.tempoMin Config.tempoMax v, cause) }) :=
    d.cancelGlide_retunes.trans (onTempo_retunes _ _ d.cancelGlide.tempo.glide d.cancelGlide.tempo.source)
  unfold writePendingTempo
  dsimp only
  split
  · rename_i hstopped
    exact written.trans (applyPendingTempo_retunes (of_decide_eq_true hstopped))
  · exact written

/-- A tempo written with its glide length (R72). -/
theorem Device.writeTempo_retunes (d : Device) (v g : Nat) (cause : TempoCause) : d.Retunes (d.writeTempo v g cause) := by
  unfold writeTempo writeGlide
  split
  · exact d.writePendingTempo_retunes v cause
  · split
    · exact d.writePendingTempo_retunes v cause
    · exact (d.cancelGlide_retunes.trans
        (onTempo_retunes _ none (some (glideOf d.tempo.t v g)) d.cancelGlide.tempo.source)).trans (emit_retunes _ _)

/-- The source set (R76). -/
theorem Device.setSource_retunes (d : Device) (src : TempoSource) : d.Retunes (d.setSource src) := by
  unfold setSource
  split
  · exact .refl d
  · cases src with
    | manual => exact d.onTempo_retunes d.tempo.pending d.tempo.glide .manual
    | follow => exact d.cancelGlide_retunes.trans (onTempo_retunes _ none d.cancelGlide.tempo.glide .follow)

/-- A source set is the source. -/
theorem Device.setSource_source (d : Device) (src : TempoSource) : (d.setSource src).tempo.source = src := by
  unfold setSource
  split
  · assumption
  · cases src <;> rfl

/-- A tempo written leaves the source. -/
theorem Device.writeTempo_source (d : Device) (v g : Nat) (cause : TempoCause) :
    (d.writeTempo v g cause).tempo.source = d.tempo.source := by
  have cancelled : d.cancelGlide.tempo.source = d.tempo.source := by rw [cancelGlide_tempo]
  have pending : (d.writePendingTempo v cause).tempo.source = d.tempo.source := by
    unfold writePendingTempo
    dsimp only
    split
    · rw [applyPendingTempo_clamped rfl]
      exact cancelled
    · exact cancelled
  unfold writeTempo writeGlide
  split
  · exact pending
  · split
    · exact pending
    · exact cancelled

/-! ## The stage before the start (R79, R106, R132) -/

/-- What a switch hands to the timing units before it starts the transport: meter, click settings, source and tempo. -/
def Device.timingHanded (d : Device) (sc : SceneCopy) : Device :=
  let d2 := ((d.onTempo (·.handMeter sc.meter)).handClick sc.subdivisions sc.accents).setSource sc.source
  if sc.tempo = 0 then d2
  else if sc.source = .follow then d2.emit (.tempoIgnored sc.number sc.tempo)
  else d2.writeTempo sc.tempo sc.glideBeats .scene

/-- The timing stage: what is handed, and the start where the transport is STOPPED and the scene asks for it (R79). -/
theorem Device.handTiming_eq (d : Device) (sc : SceneCopy) :
    d.handTiming sc =
      if (d.timingHanded sc).tempo.isStopped && sc.startTransport then
        (d.timingHanded sc).startTransport sc.countInBars .scene
      else d.timingHanded sc := rfl

/-- Every line with the settings of a scene pending (R106). -/
def ClickUnit.handed (c : ClickUnit) (subdivisions : Vector Nat 4) (accents : BitVec 16) : ClickUnit :=
  { c with
    lines := Vector.ofFn fun n : Fin 4 => { c.lines[n] with pendingSet := some (subdivisions[n], accents) } }

@[simp] theorem ClickUnit.handed_line (c : ClickUnit) (subdivisions : Vector Nat 4) (accents : BitVec 16) (n : Fin 4) :
    (c.handed subdivisions accents).lines[n] = { c.lines[n] with pendingSet := some (subdivisions[n], accents) } := by
  simp [handed]

/-- The click settings of a scene change the click unit alone (R106). -/
theorem Device.handClick_eq (d : Device) (subdivisions : Vector Nat 4) (accents : BitVec 16) :
    d.handClick subdivisions accents = { d with click := d.click.handed subdivisions accents } := by
  have fold (ns : List (Fin 4)) (d : Device) :
      ns.foldl (fun d n => d.onLine n fun l st => ({ l with pendingSet := some (subdivisions[n], accents) }, st)) d =
        { d with
          click := { d.click with
            lines := ns.foldl
              (fun v n => vecModify v n fun l => { l with pendingSet := some (subdivisions[n], accents) })
              d.click.lines } } := by
    induction ns generalizing d with
    | nil => rfl
    | cons n ns ih => exact ih _
  unfold handClick onLines
  rw [fold, foldl_vecModify]
  rfl

section TimingHanded

variable (d : Device) (sc : SceneCopy)

/-- The part with a scene's meter and click settings handed. -/
def Device.settingsHanded : Device :=
  { d with tempo := d.tempo.handMeter sc.meter, click := d.click.handed sc.subdivisions sc.accents }

/-- Beside the meter and the click settings it is writes of source and tempo. -/
theorem Device.timingHanded_retunes : (d.settingsHanded sc).Retunes (d.timingHanded sc) := by
  have hsettings : (d.onTempo (·.handMeter sc.meter)).handClick sc.subdivisions sc.accents = d.settingsHanded sc :=
    handClick_eq _ _ _
  have source := (d.settingsHanded sc).setSource_retunes sc.source
  unfold timingHanded
  rw [hsettings]
  dsimp only
  split
  · exact source
  · split
    · exact source.trans (emit_retunes _ _)
    · exact source.trans (writeTempo_retunes _ _ _ _)

/-- The source is the scene's. -/
theorem Device.timingHanded_source : (d.timingHanded sc).tempo.source = sc.source := by
  unfold timingHanded
  dsimp only
  split
  · exact setSource_source _ _
  · split
    · exact setSource_source _ _
    · rw [writeTempo_source]
      exact setSource_source _ _

/-- A meter handed leaves the transport. -/
theorem Tempo.handMeter_transport (r : Tempo) (m : Nat) : (r.handMeter m).transport = r.transport := by
  unfold handMeter
  dsimp only
  split
  · exact takeMeterStopped_transport _
  · rfl

/-- The transport stays until the start. -/
theorem Device.timingHanded_transport : (d.timingHanded sc).tempo.transport = d.tempo.transport :=
  (d.timingHanded_retunes sc).transport.trans (Tempo.handMeter_transport _ _)

/-- No page rewrite is caused by it. -/
theorem Device.timingHanded_pageCause : (d.timingHanded sc).pageCause = d.pageCause := by
  rw [(d.timingHanded_retunes sc).frame]
  rfl

/-- While the transport runs the timing stage starts nothing. -/
theorem Device.handTiming_of_running (hrun : d.tempo.transport ≠ .stopped) : d.handTiming sc = d.timingHanded sc := by
  rw [handTiming_eq, if_neg (by simp [Tempo.isStopped, timingHanded_transport, hrun])]

/-- And leaves the tempo, the position, the meter and the timing of the tick; the scene's meter waits for the next
bar (R65). -/
theorem Device.handTiming_tempo_of_running (hrun : d.tempo.transport ≠ .stopped) :
    (d.handTiming sc).tempo =
      { d.tempo with
        pendingMeter := some sc.meter, source := sc.source
        pending := (d.handTiming sc).tempo.pending, glide := (d.handTiming sc).tempo.glide } := by
  have hmeter : d.tempo.handMeter sc.meter = { d.tempo with pendingMeter := some sc.meter } := by
    simp [Tempo.handMeter, Tempo.isStopped, hrun]
  have hretunes := d.timingHanded_retunes sc
  obtain ⟨ht, hacc⟩ := hretunes.running (by rw [settingsHanded, Tempo.handMeter_transport]; exact hrun)
  have hsource := d.timingHanded_source sc
  rw [d.handTiming_of_running sc hrun]
  have hframe := congrArg Device.tempo hretunes.frame
  rw [ht, hacc, hsource] at hframe
  exact hframe.trans (by simp [settingsHanded, hmeter])

end TimingHanded

end Sys2Proof.Machine
end

section
/-! The first tick of a beat as an event (R64, R65, R122): without a switch, and with one that waited for this boundary. -/
namespace Sys2Proof.Machine

open Sys2Proof

/-! ## The boundary at the change unit (R122) -/

/-- A change that is not ARMED, or waits for a later bar, is left. -/
theorem Device.changeBoundary_of_waits {d : Device}
    (h : d.change.state ≠ .armed ∨
      (d.change.armed.map (·.boundary) = some .bar ∧ d.tempo.atBar = false ∧ d.tempo.transport = .playing)) :
    d.changeBoundary = d := by
  unfold changeBoundary
  split
  · rename_i a hstate harmed
    obtain ⟨hboundary, hbar, htransport⟩ := h.resolve_left (not_not.2 hstate)
    simp only [harmed, Option.map_some, Option.some.injEq] at hboundary
    simp [hboundary, hbar, htransport]
  · rfl

/-- One ARMED for this boundary switches. -/
theorem Device.changeBoundary_of_armed {d : Device} {sc : SceneCopy} {a : Armed} (hstate : d.change.state = .armed)
    (hcopy : d.change.copy = some sc) (harmed : d.change.armed = some a) (hbeat : d.tempo.atBeat = true)
    (h : a.boundary = .beat ∨ (a.boundary = .bar ∧ (d.tempo.atBar = true ∨ d.tempo.transport = .countIn))) :
    d.changeBoundary = d.switchTo sc (if a.boundary = .beat then .beat else .bar) := by
  have hswitch (m : Moment) : d.makeSwitch m = d.switchTo sc m := by rw [makeSwitch, hcopy]
  unfold changeBoundary
  rcases h with hb | ⟨hb, hdue⟩
  · simp [hstate, harmed, hb, hbeat, hswitch]
  · rcases hdue with hbar | hcount
    · simp [hstate, harmed, hb, hbar, hswitch]
    · simp [hstate, harmed, hb, hbeat, hcount, hswitch]

/-! ## A switch while the transport runs -/

/-- A go completed causes no page rewrite. -/
@[simp] theorem Device.completeGo_pageCause (d : Device) (g : Option GoFlight) (code : ResultCode) (value : Nat) :
    (d.completeGo g code value).pageCause = d.pageCause := by
  rw [d.completeGo_eq (s := { State.reset with dev := d }) rfl rfl]
  rfl

/-- What a switch notes of a page rewrite, its timing stage notes. -/
theorem Device.switchTo_pageCause (d : Device) (sc : SceneCopy) (moment : Moment) :
    (d.switchTo sc moment).pageCause = ((d.beforeTiming sc).handTiming sc).pageCause := by
  unfold switchTo
  dsimp only
  exact completeGo_pageCause _ _ _ _

/-- While the transport runs a switch leaves the cause of a page rewrite. -/
theorem Device.switchTo_pageCause_of_running {d : Device} (hrun : d.tempo.transport ≠ .stopped) (sc : SceneCopy)
    (moment : Moment) : (d.switchTo sc moment).pageCause = d.pageCause := by
  rw [switchTo_pageCause, handTiming_of_running (d.beforeTiming sc) sc hrun, timingHanded_pageCause]
  rfl

/-- And of the tempo record it sets the source, the pending meter, what is pending and the glide (R65, R76, R79). -/
theorem Device.switchTo_tempo_of_running {d : Device} (hrun : d.tempo.transport ≠ .stopped) (sc : SceneCopy)
    (moment : Moment) :
    (d.switchTo sc moment).tempo =
      { d.tempo with
        pendingMeter := some sc.meter, source := sc.source
        pending := (d.switchTo sc moment).tempo.pending, glide := (d.switchTo sc moment).tempo.glide } := by
  rw [switchTo_tempo]
  exact (d.beforeTiming sc).handTiming_tempo_of_running sc hrun

/-! ## The beat opened (R64, R65, R67) -/

/-- The tempo record that opens the beat after the last tick of one, before the length of its first tick is fixed. -/
def openedRecord (r : Tempo) (sync : SyncFollower) : Tempo :=
  if barEnds r then meterTaken (beatTaken (nextBeat r) sync).1 else (beatTaken (nextBeat r) sync).1

/-- The entries that it writes: that of a count-in's end, then those of the boundary. -/
def openedEntries (r : Tempo) (sync : SyncFollower) : List Entry :=
  (if (openedRecord r sync).transport = r.transport then [] else [.transport .countIn .playing .countInEnd 0]) ++
    (beatTaken (nextBeat r) sync).2

section Opened

variable (r : Tempo) (sync : SyncFollower)

@[simp] theorem openedRecord_transport : (openedRecord r sync).transport = (nextBeat r).transport := by
  unfold openedRecord
  split <;> simp

@[simp] theorem openedRecord_tickNow : (openedRecord r sync).tickNow = (nextBeat r).tickNow := by
  unfold openedRecord
  split <;> simp

@[simp] theorem openedRecord_beatNow : (openedRecord r sync).beatNow = (nextBeat r).beatNow := by
  unfold openedRecord
  split <;> simp

@[simp] theorem openedRecord_atBeat : (openedRecord r sync).atBeat = (nextBeat r).atBeat := by
  simp [Tempo.atBeat]

@[simp] theorem openedRecord_atBar : (openedRecord r sync).atBar = (nextBeat r).atBar := by
  simp [Tempo.atBar]

end Opened

/-- The part with the next beat opened, but for the click unit: its first tick begins, and a page rewrite is caused. -/
def Device.beatOpened (d : Device) : Device :=
  { d.retimed (tickBegun (openedRecord d.tempo d.sync) d.now) (openedEntries d.tempo d.sync) with pageCause := true }

/-- The last tick of a beat over, and the next beat's first tick begun, with no line enabled. -/
theorem Device.beginTick_of_lastTick {d : Device} (hlast : LastTick d.tempo)
    (hcounting : d.tempo.countIn.isSome = true → d.tempo.transport = .countIn)
    (hheld : d.tempo.countIn.isSome = true → d.tempo.beat = 1 ∧ d.tempo.tick = 0)
    (hsilent : ∀ n : Fin 4, d.click.lines[n].setup.enable = false)
    (hrange : (beatTaken (nextBeat d.tempo) d.sync).1.inRange) :
    d.advanceTick.beginTick = { d.beatOpened with click := d.advanceTick.beginTick.click } := by
  obtain ⟨hbeat, hbar⟩ := nextBeat_begins hlast hheld
  have hopens : boundaryTaken (nextBeat d.tempo) d.sync =
      (openedRecord d.tempo d.sync, (beatTaken (nextBeat d.tempo) d.sync).2) := by
    simp [boundaryTaken, openedRecord, hbeat, hbar]
  rw [advanceTick_of_lastTick hlast hcounting, beginTick_of_silent (by exact hsilent) (fun _ => hrange)]
  simp only [retimed_tempo, hbeat, Bool.or_true]
  rw [show (d.retimed (nextBeat d.tempo) _).sync = d.sync from rfl, hopens]
  simp [beatOpened, openedEntries, retimed, now]

/-! ## The event -/

section Event

variable {s : State} (hdue : tickDue s) (hlast : LastTick s.dev.tempo)
include hdue hlast

/-- The next beat of a tick that is due begins at tick 0, and is the first of a bar where its bar has ended. -/
theorem tickDue_begins :
    (nextBeat s.dev.tempo).atBeat = true ∧ (nextBeat s.dev.tempo).atBar = barEnds s.dev.tempo :=
  nextBeat_begins hlast fun h =>
    have ⟨_, hc⟩ := Option.isSome_iff_exists.1 h
    (tickDue_counting hdue hc).2

variable (hsilent : ∀ n : Fin 4, s.dev.click.lines[n].setup.enable = false)
  (hrange : (beatTaken (nextBeat s.dev.tempo) s.dev.sync).1.inRange)
include hsilent hrange

/-- A tick that opens a beat, as the change unit takes its boundary. -/
theorem State.takeTick_of_lastTick :
    ∃ click, s.dev.beginEvent.takeTick = Device.changeBoundary { s.dev.beginEvent.beatOpened with click := click } :=
  have counting (h : s.dev.tempo.countIn.isSome = true) :=
    have ⟨_, hc⟩ := Option.isSome_iff_exists.1 h
    tickDue_counting hdue hc
  ⟨_, congrArg Device.changeBoundary (Device.beginTick_of_lastTick (d := s.dev.beginEvent) hlast
    (fun h => (counting h).1) (fun h => (counting h).2) hsilent hrange)⟩

variable (hon : s.isOnline = true)
include hon

/-- The first tick of a beat that no change was ARMED for. -/
theorem State.beat_opens
    (hwaits : s.dev.change.state ≠ .armed ∨
      (s.dev.change.armed.map (·.boundary) = some .bar ∧ barEnds s.dev.tempo = false ∧
        (openedRecord s.dev.tempo s.dev.sync).transport = .playing)) :
    ∃ t, exec .tick s = .next t ∧ t.dev.tempo = tickBegun (openedRecord s.dev.tempo s.dev.sync) s.dev.now
      ∧ Journaled (openedEntries s.dev.tempo s.dev.sync) s t ∧ PageCaused s t ∧ EventChanges [.tempo, .click] s t := by
  obtain ⟨hr, heng, hen, hpc⟩ := State.isOnline_spec hon
  obtain ⟨click, htaken⟩ := State.takeTick_of_lastTick hdue hlast hsilent hrange
  obtain ⟨-, hbar⟩ := tickDue_begins hdue hlast
  have hbody : s.dev.beginEvent.takeTick = { s.dev.beginEvent.beatOpened with click := click } := by
    rw [htaken]
    refine Device.changeBoundary_of_waits (hwaits.imp id fun ⟨ha, hends, htransport⟩ => ⟨ha, ?_, htransport⟩)
    exact ((openedRecord_atBar _ _).trans hbar).trans hends
  obtain ⟨t, ht, ⟨p, q, hs⟩, hj, hc⟩ := State.event_outcome (body := Device.takeTick) _
    (openedEntries s.dev.tempo s.dev.sync) [.tempo, .click] (tickDue_due hdue) hr hen hpc (.inl (by rw [heng]; rfl)) hbody
    (by simp [Device.beatOpened, Device.retimed, Device.beginEvent, hen]) rfl
    (Device.drainOver_of_state (by simp [Device.beatOpened, Device.retimed, Device.beginEvent, heng]))
    (by intro b; cases b <;> simp [Block.agrees, Device.beatOpened, Device.retimed, Device.beginEvent])
  refine ⟨t, congrArg _ ht.symm, by rw [hs]; rfl, hj, ?_, hc⟩
  rw [ht]
  exact State.event_pageCaused hon (tickDue_due hdue) hbody rfl rfl rfl

/-- The first tick of a beat with a switch that was ARMED for it. -/
theorem State.beat_switches {sc : SceneCopy} {g : GoFlight} {a : Armed} (hstate : s.dev.change.state = .armed)
    (hcopy : s.dev.change.copy = some sc) (hgo : s.dev.change.go = some g) (harmed : s.dev.change.armed = some a)
    (hboundary : a.boundary = .beat ∨ (a.boundary = .bar ∧
      (barEnds s.dev.tempo = true ∨ (openedRecord s.dev.tempo s.dev.sync).transport = .countIn))) :
    ∃ t, exec .tick s = .next t ∧ t.dev.change = switched s sc
      ∧ SwitchSays sc (if a.boundary = .beat then .beat else .bar) g (openedEntries s.dev.tempo s.dev.sync) s t
      ∧ t.dev.tempo =
          { tickBegun (openedRecord s.dev.tempo s.dev.sync) s.dev.now with
            pendingMeter := some sc.meter, source := sc.source
            pending := t.dev.tempo.pending, glide := t.dev.tempo.glide }
      ∧ Completed s t (goCompletion s t.dev.eventStamp s.dev.req.working (some g) .ok (s.dev.change.activation + 1).toNat)
      ∧ PageCaused s t ∧ EventChanges [.change, .voices, .ports, .deferrals, .tempo, .click, .req] s t := by
  obtain ⟨hr, heng, hen, hpc⟩ := State.isOnline_spec hon
  obtain ⟨click, htaken⟩ := State.takeTick_of_lastTick hdue hlast hsilent hrange
  obtain ⟨hbeat, hbar⟩ := tickDue_begins hdue hlast
  set d : Device := { s.dev.beginEvent.beatOpened with click := click } with hd
  have htempo : d.tempo = tickBegun (openedRecord s.dev.tempo s.dev.sync) s.dev.now := rfl
  have hrun : d.tempo.transport ≠ .stopped := by
    rw [htempo, tickBegun_transport, openedRecord_transport]
    exact nextBeat_runs (tickDue_running hdue)
  have hbody : s.dev.beginEvent.takeTick = d.switchTo sc (if a.boundary = .beat then .beat else .bar) := by
    rw [htaken]
    refine Device.changeBoundary_of_armed hstate hcopy harmed ?_ (hboundary.imp id (And.imp id (Or.imp ?_ id)))
    · exact (openedRecord_atBeat _ _).trans hbeat
    · exact ((openedRecord_atBar _ _).trans hbar).trans
  have hsw := Device.switchTo_spec (s := s) (d := d) rfl rfl hgo sc (if a.boundary = .beat then .beat else .bar)
  have hswtempo := Device.switchTo_tempo_of_running hrun sc (if a.boundary = .beat then .beat else .bar)
  have hswpage := Device.switchTo_pageCause_of_running hrun sc (if a.boundary = .beat then .beat else .bar)
  generalize d.switchTo sc _ = d' at hbody hsw hswtempo hswpage
  have hstage : d.stage = { s.dev.stage with entries := openedEntries s.dev.tempo s.dev.sync } := by
    simp [hd, Device.beatOpened, Device.retimed, Device.beginEvent, hen]
  have hengine : d'.engine = s.dev.engine := by
    rw [hsw.frame]
    rfl
  obtain ⟨t, ht, ⟨p, q, hs⟩, hj, hc⟩ := State.event_outcome (body := Device.takeTick) d' d'.stage.entries
    [.change, .voices, .ports, .deferrals, .tempo, .click, .req] (tickDue_due hdue) hr hen hpc
    (.inl (by rw [heng]; rfl)) hbody rfl (by rw [hsw.frame]; rfl) (Device.drainOver_of_state (by simp [hengine, heng]))
    (by
      rw [hsw.frame]
      intro b
      cases b <;> simp [Block.agrees, hd, Device.beatOpened, Device.retimed, Device.beginEvent])
  refine ⟨t, congrArg _ ht.symm, ?_, ?_, ?_, ?_, ?_, hc⟩
  · rw [hs]
    exact hsw.change
  · exact SwitchSays.of_switchedTo hsw hstage rfl rfl rfl rfl (by rw [hs]) hj
  · rw [hs]
    exact hswtempo
  · rw [hs]
    exact hsw.req
  · rw [ht]
    exact State.event_pageCaused hon (tickDue_due hdue) hbody hengine hswpage (by rw [hsw.frame]; rfl)

end Event

/-- Settles O23: `State.beat_opens` and `State.beat_switches`. -/
theorem beatMakesTempoCurrent : Obligations.BeatMakesTempoCurrent := by
  intro s hon hdue hlast hsilent beat r es hlo hhi
  exact ⟨State.beat_opens hdue hlast hsilent ⟨hlo, hhi⟩ hon, fun _ _ _ hstate hcopy hgo harmed hboundary =>
    State.beat_switches hdue hlast hsilent ⟨hlo, hhi⟩ hon hstate hcopy hgo harmed hboundary⟩

end Sys2Proof.Machine
end

section
/-! START (R66, R67): the start of the transport and its first tick. -/
namespace Sys2Proof.Machine

open Sys2Proof

/-- The tempo record as the transport starts with a number of count-in bars (R66, R67). -/
def startedRecord (r : Tempo) (bars : Nat) : Tempo :=
  if bars = 0 then { r with transport := .playing, countIn := none }
  else
    { r with
      transport := .countIn, beat := 1, tick := 0, countIn := some { bars := bars, bar := 1, beat := 1, tick := 0 } }

/-- Whether the transport starts at the first tick of a beat, and of a bar. -/
theorem startedRecord_begins (r : Tempo) (bars : Nat) :
    ((startedRecord r bars).atBeat = true ↔ bars ≠ 0 ∨ r.tick = 0) ∧
      ((startedRecord r bars).atBar = true ↔ bars ≠ 0 ∨ (r.tick = 0 ∧ r.beat = 1)) := by
  by_cases h : bars = 0 <;> simp [startedRecord, h, Tempo.atBeat, Tempo.atBar, Tempo.tickNow, Tempo.beatNow]

/-- The start of the transport: its entry, then the first tick (R66, R80). -/
theorem Device.startTransport_eq (d : Device) (bars : Nat) (cause : TransportCause) :
    d.startTransport bars cause =
      (d.retimed (startedRecord d.tempo bars)
        [.transport d.tempo.transport (startedRecord d.tempo bars).transport cause bars]).beginTick := by
  unfold startTransport startedRecord
  split
  · rename_i h
    subst h
    rfl
  · rfl

/-- A START while STOPPED with no line enabled. -/
theorem State.start_starts {s : State} {r : Request} {bars : Nat} (hon : s.isOnline = true) (hreq : s.hasRequest 8#8 r)
    (hstopped : s.dev.tempo.transport = .stopped) (hsilent : ∀ n : Fin 4, s.dev.click.lines[n].setup.enable = false)
    (hbars : s.dev.startBars r.arg1 = bars)
    (hrange : (startedRecord s.dev.tempo bars).atBeat = true →
      (beatTaken (startedRecord s.dev.tempo bars) s.dev.sync).1.inRange) :
    ∃ t, exec .start s = .next t
      ∧ t.dev.tempo = tickBegun (boundaryTaken (startedRecord s.dev.tempo bars) s.dev.sync).1 s.dev.now
      ∧ Answered r .ok bars s t
      ∧ Journaled (.transport .stopped (startedRecord s.dev.tempo bars).transport .request bars ::
          (boundaryTaken (startedRecord s.dev.tempo bars) s.dev.sync).2) s t
      ∧ EventChanges [.tempo, .click, .req] s t := by
  obtain ⟨-, -, hen, -⟩ := State.isOnline_spec hon
  obtain ⟨hreq, hk⟩ := hreq
  set begun := s.dev.atRequest.retimed (startedRecord s.dev.tempo bars)
    [.transport .stopped (startedRecord s.dev.tempo bars).transport .request bars] with hbegun
  have hbody : Device.startRequest r s.dev.atRequest = begun.beginTick.answer r .ok bars := by
    have hidle : s.dev.atRequest.tempo.isStopped = true := decide_eq_true hstopped
    have hdecides : s.dev.atRequest.startBars r.arg1 = bars := hbars
    rw [Device.startRequest, if_pos hidle]
    dsimp only
    rw [hdecides, Device.startTransport_eq, hbegun, ← hstopped]
    rfl
  have hticks := Device.beginTick_of_silent (d := begun) hsilent hrange
  generalize begun.beginTick = d at hbody hticks
  rw [hticks] at hbody
  obtain ⟨t, ht, ⟨p, q, rq, hs⟩, ha, hj, hc⟩ := State.request_answered (fits := fun x => decide (x = 8#8)) _
    (.transport .stopped (startedRecord s.dev.tempo bars).transport .request bars ::
      (boundaryTaken (startedRecord s.dev.tempo bars) s.dev.sync).2) [.tempo, .click, .req] hon hreq (decide_eq_true hk) hbody
    rfl rfl rfl (by simp [hbegun, Device.retimed, Device.atRequest, Device.beginEvent, hen]) rfl rfl (by simp)
    (by intro b; cases b <;> simp [hbegun, Block.agrees, Device.retimed, Device.atRequest, Device.beginEvent])
  exact ⟨t, congrArg _ ht.symm, by rw [hs]; rfl, ha, hj, hc⟩



end Sys2Proof.Machine
end

section
/-! STOP (R65, R68, R112, R126): entry to STOPPED at the tempo generator, the click unit and the change unit. -/
namespace Sys2Proof.Machine

open Sys2Proof

/-! ## At the tempo generator (R65, R68, R71) -/

/-- A pending meter taken while STOPPED (R65). -/
theorem Tempo.takeMeterStopped_eq (r : Tempo) :
    r.takeMeterStopped =
      { meterTaken r with
        beat := if r.pendingMeter.getD r.meter < r.beat then 1 else r.beat
        tick := if r.pendingMeter.getD r.meter < r.beat then 0 else r.tick } := by
  unfold takeMeterStopped
  by_cases h : r.pendingMeter.getD r.meter < r.beat <;> simp [takeMeter, meterTaken, h]

/-- Entry to STOPPED from a running transport. -/
theorem Device.stopTempo_eq {d : Device} (hrun : d.tempo.transport ≠ .stopped) (cause : TransportCause) :
    d.stopTempo cause =
      d.retimed (tempoStopped d.tempo).1
        (.transport d.tempo.transport .stopped cause 0 :: (tempoStopped d.tempo).2) := by
  have hruns : ¬ d.tempo.isStopped = true := fun h => hrun (of_decide_eq_true h)
  rw [stopTempo, if_neg hruns]
  unfold tempoStopped
  cases hp : d.tempo.pending with
  | none =>
    have hkept (d : Device) (h : d.tempo.pending = none) : d.applyPendingTempo = d := by rw [applyPendingTempo, h]
    rw [hkept _ (by exact hp)]
    simp only [onTempo, Tempo.takeMeterStopped_eq]
    rfl
  | some p =>
    rw [applyPendingTempo_clamped (by exact hp)]
    simp only [onTempo_eq, retimed_tempo, Tempo.takeMeterStopped_eq]
    simp [retimed, emit, Stage.emit, withTempo, meterTaken]

/-! ## At the click unit (R110, R112) -/

/-- Work on the stage that hands no entries but CLICK_DROPs. -/
def Stage.OnlyDrops (st st' : Stage) : Prop :=
  ∃ es, st'.entries = st.entries ++ es ∧ ∀ e ∈ es, ∃ p n m lane, e = .clickDrop p n m lane

/-- Nothing done is within the relation. -/
theorem Stage.OnlyDrops.refl (st : Stage) : st.OnlyDrops st := ⟨[], by simp, by simp⟩

/-- The relation composes. -/
theorem Stage.OnlyDrops.trans {a b c : Stage} (h : a.OnlyDrops b) (h' : b.OnlyDrops c) : a.OnlyDrops c := by
  obtain ⟨es, hes, hdrops⟩ := h
  obtain ⟨es', hes', hdrops'⟩ := h'
  exact ⟨es ++ es', by rw [hes', hes, List.append_assoc], fun e he =>
    (List.mem_append.1 he).elim (hdrops e) (hdrops' e)⟩

/-- An offered click message (R50). -/
theorem Stage.offerClick_onlyDrops (st : Stage) (p : Fin 6) (n : Fin 4) (m : Message) :
    st.OnlyDrops (st.offerClick p n m) := by
  unfold offerClick
  split
  · exact .refl _
  · exact ⟨_, rfl, fun e he => ⟨_, _, _, _, List.mem_singleton.1 he⟩⟩

/-- The click unit's stop. -/
theorem Device.clickStop_onlyDrops (d : Device) : d.stage.OnlyDrops d.clickStop.stage :=
  d.onLines_stage Stage.OnlyDrops.refl (fun _ _ _ => Stage.OnlyDrops.trans) fun n l st => by
    unfold endActive endPulse endNote
    split
    · split
      · exact .refl st
      · exact st.offerClick_onlyDrops _ _ _
    · exact .refl st

/-! ## The event -/

/-- The part as a STOP request comes to the change unit: the tempo generator and the click unit have stopped. -/
def State.halted (s : State) : Device := (s.dev.atRequest.stopTempo .request).clickStop

/-- The entries of a stop at the tempo generator. -/
def stopEntries (r : Tempo) : List Entry := .transport r.transport .stopped .request 0 :: (tempoStopped r).2

section Halted

variable {s : State} (hrun : s.dev.tempo.transport ≠ .stopped)
include hrun

/-- What has changed by then: the tempo record, the click unit, its ports and entries. -/
theorem State.halted_frame :
    s.halted =
      { s.dev.atRequest with
        tempo := (tempoStopped s.dev.tempo).1, click := s.halted.click
        stage := { s.dev.stage with ports := s.halted.stage.ports, entries := s.halted.stage.entries } } := by
  have hstop := Device.stopTempo_eq (d := s.dev.atRequest) hrun .request
  have hframe := (s.dev.atRequest.stopTempo .request).clickStop_frame
  rw [hstop] at hframe
  unfold halted
  rw [hstop]
  exact hframe

/-- The entries of the click unit are CLICK_DROPs, and none where no key sounds. -/
theorem State.halted_entries (hon : s.isOnline = true) :
    ∃ es, s.halted.stage.entries = stopEntries s.dev.tempo ++ es
      ∧ (∀ e ∈ es, ∃ p n m lane, e = .clickDrop p n m lane)
      ∧ ((∀ n : Fin 4, s.dev.click.lines[n].sounding = none) → es = []) := by
  obtain ⟨-, -, hen, -⟩ := State.isOnline_spec hon
  have hstop := Device.stopTempo_eq (d := s.dev.atRequest) hrun .request
  have hstopped : (s.dev.atRequest.stopTempo .request).stage.entries = stopEntries s.dev.tempo := by
    rw [hstop]
    simp [Device.retimed, hen, stopEntries, Device.atRequest, Device.beginEvent]
  obtain ⟨es, hes, hdrops⟩ := (s.dev.atRequest.stopTempo .request).clickStop_onlyDrops
  refine ⟨es, hstopped ▸ hes, hdrops, fun hquiet => ?_⟩
  have hkept : (s.dev.atRequest.stopTempo .request).clickStop.stage = (s.dev.atRequest.stopTempo .request).stage := by
    refine Device.clickStop_of_silent fun n => ?_
    rw [hstop]
    exact hquiet n
  rw [hkept] at hes
  exact List.self_eq_append_right.1 hes

/-- A STOP request hands the stop to the change unit before it is completed with the state that was left. -/
theorem State.stopRequest_eq (r : Request) :
    Device.stopRequest r s.dev.atRequest = s.halted.changeStop.answer r .ok s.dev.tempo.transport.code := by
  have hruns : ¬ s.dev.atRequest.tempo.isStopped = true := fun h => hrun (of_decide_eq_true h)
  rw [Device.stopRequest, if_neg hruns]
  rfl

end Halted

/-- A STOP while the transport runs and no change is ARMED. -/
theorem State.stop_stops {s : State} {r : Request} (hon : s.isOnline = true) (hreq : s.hasRequest 9#8 r)
    (hrun : s.dev.tempo.transport ≠ .stopped) (hfree : s.dev.change.state ≠ .armed) :
    ∃ t, exec .stop s = .next t ∧ t.dev.tempo = (tempoStopped s.dev.tempo).1
      ∧ (∀ n : Fin 4, t.dev.click.lines[n].endsAt = none)
      ∧ (∃ es, Journaled (stopEntries s.dev.tempo ++ es) s t ∧ ∀ e ∈ es, ∃ p n m lane, e = .clickDrop p n m lane)
      ∧ ((∀ n : Fin 4, s.dev.click.lines[n].sounding = none) → Journaled (stopEntries s.dev.tempo) s t)
      ∧ Answered r .ok s.dev.tempo.transport.code s t ∧ EventChanges [.tempo, .click, .ports, .req] s t := by
  obtain ⟨hreq, hk⟩ := hreq
  obtain ⟨es, hes, hdrops, hquiet⟩ := State.halted_entries hrun hon
  have hframe := State.halted_frame hrun
  have hidle : ∀ n : Fin 4, s.halted.click.lines[n].endsAt = none := Device.clickStop_idle _
  have hbody : Device.stopRequest r s.dev.atRequest = s.halted.answer r .ok s.dev.tempo.transport.code := by
    have hleft : s.halted.changeStop = s.halted := by
      refine if_neg ?_
      rw [hframe]
      exact hfree
    rw [State.stopRequest_eq hrun, hleft]
  generalize s.halted = d at hes hframe hidle hbody
  obtain ⟨t, ht, ⟨p, q, rq, hs⟩, ha, hj, hc⟩ := State.request_answered (fits := fun x => decide (x = 9#8)) d _
    [.tempo, .click, .ports, .req] hon hreq (decide_eq_true hk) hbody (by rw [hframe]; rfl) (by rw [hframe]; rfl)
    (by rw [hframe]; rfl) hes (by rw [hframe]; rfl) (by rw [hframe]; rfl) (by simp)
    (by
      rw [hframe]
      intro b
      cases b <;> simp [Block.agrees, Device.atRequest, Device.beginEvent])
  refine ⟨t, congrArg _ ht.symm, ?_, ?_, ⟨es, hj, hdrops⟩, fun hsilent => ?_, ha, hc⟩
  · rw [hs, hframe]
  · rw [hs]
    exact hidle
  · rw [hquiet hsilent, List.append_nil] at hj
    exact hj

end Sys2Proof.Machine
end

section
/-! A switch from STOPPED: how it leaves the transport and the click lines (R66, R79, R106). -/
namespace Sys2Proof.Machine

open Sys2Proof

/-! ## The transport after a start -/

/-- What a beat boundary does at the tempo record is no change of the transport. -/
theorem Device.beatWork_transport (d : Device) : d.beatWork.tempo.transport = d.tempo.transport := by
  unfold beatWork
  split
  · exact d.applyPendingTempo_transport
  · unfold stepGlide
    dsimp only
    split <;> exact Tempo.setCurrent_transport _ _
  · split
    · unfold followRead
      split
      · split
        · unfold makeCurrent
          dsimp only
          split <;> exact Tempo.setCurrent_transport _ _
        · rfl
      · rfl
    · rfl

/-- Nor is a tick that begins. -/
theorem Device.beginTick_transport (d : Device) : d.beginTick.tempo.transport = d.tempo.transport := by
  have hfix (r : Tempo) : (r.fixTick d.now).transport = r.transport := by
    rw [Tempo.fixTick_eq]
    rfl
  have hbeat : (if d.tempo.atBeat then d.beatWork.causePage else d).tempo.transport = d.tempo.transport := by
    split
    · exact d.beatWork_transport
    · rfl
  rw [beginTick, clickTick_frame]
  unfold startTick
  dsimp only
  generalize (if d.tempo.atBeat then d.beatWork.causePage else d) = d1 at hbeat
  refine (hfix _).trans ?_
  split
  · exact hbeat
  · exact hbeat

/-- A started transport is PLAYING, or COUNT_IN with a count-in. -/
theorem Device.startTransport_transport (d : Device) (bars : Nat) (cause : TransportCause) :
    (d.startTransport bars cause).tempo.transport = if bars = 0 then .playing else .countIn := by
  rw [startTransport_eq, beginTick_transport, retimed_tempo, startedRecord]
  split <;> rfl

section Stopped

variable {d : Device} (hstopped : d.tempo.transport = .stopped) (sc : SceneCopy)
include hstopped

/-- A timing stage at STOPPED starts the transport where the scene asks for it (R79). -/
theorem Device.handTiming_of_stopped :
    d.handTiming sc =
      if sc.startTransport = true then (d.timingHanded sc).startTransport sc.countInBars .scene else d.timingHanded sc := by
  have hidle : (d.timingHanded sc).tempo.isStopped = true := decide_eq_true ((d.timingHanded_transport sc).trans hstopped)
  simp [handTiming_eq, hidle]

/-- The transport after a switch that found it STOPPED. -/
theorem Device.switchTo_transport_of_stopped (moment : Moment) :
    (d.switchTo sc moment).tempo.transport =
      if sc.startTransport = false then .stopped else if sc.countInBars = 0 then .playing else .countIn := by
  rw [switchTo_tempo, handTiming_of_stopped (d := d.beforeTiming sc) hstopped]
  cases sc.startTransport with
  | false => exact ((d.beforeTiming sc).timingHanded_transport sc).trans hstopped
  | true => exact startTransport_transport _ _ _

/-- A switch that leaves the transport STOPPED leaves each line's pulse as it is. -/
theorem Device.switchTo_click_of_stopped (hstart : sc.startTransport = false) (moment : Moment) :
    (d.switchTo sc moment).click = d.click.handed sc.subdivisions sc.accents := by
  have htiming : (d.switchTo sc moment).click = ((d.beforeTiming sc).handTiming sc).click := by
    unfold switchTo
    dsimp only
    rw [completeGo_eq (s := { State.reset with dev := _ }) rfl rfl]
    rfl
  rw [htiming, handTiming_of_stopped (d := d.beforeTiming sc) hstopped, if_neg (by simp [hstart]),
    ((d.beforeTiming sc).timingHanded_retunes sc).frame]
  rfl

end Stopped

end Sys2Proof.Machine
end

section
/-! A STOP that finds an ARMED change (R126, R133, R139), and START and STOP together. -/
namespace Sys2Proof.Machine

open Sys2Proof

/-- What a switch does beside the change unit, for a part `d` that stands before it with the voices, the clock, the pedals
and the outgoing set of `s`, and the entries `earlier` handed first. -/
theorem SwitchSays.of_switchedTo_after {s t : State} {d d' : Device} {sc : SceneCopy} {moment : Moment} {g : GoFlight}
    {earlier : List Entry} (h : Device.SwitchedTo s d sc moment g d') (hvoices : d.stage.voices = s.dev.stage.voices)
    (hclock : d.stage.clock = s.dev.now) (hearlier : earlier <+: d.stage.entries) (hpedals : d.pedals = s.dev.pedals)
    (hchange : d.change = s.dev.change) (ht : t.dev.stage = { d'.stage with entries := [] })
    (hj : Journaled d'.stage.entries s t) : SwitchSays sc moment g earlier s t := by
  obtain ⟨st, hv, hck, hv', hd'⟩ := h.spill
  obtain ⟨es, hes⟩ := h.entries
  obtain ⟨more, hmore⟩ := hearlier
  rw [hchange] at hv' hd' hes
  refine ⟨SpillSays.of_spill (hv.trans hvoices) (hck.trans hclock) (by rw [ht, hv']) (by rw [ht, hd']), more ++ es, ?_⟩
  rw [hes, Device.overrideHeld_congr hpedals, ← hmore, List.append_assoc earlier] at hj
  rw [ht]
  exact hj

/-- The request unit after a switch within a request that is then completed (R133, R176). -/
theorem AnsweredAmong.of_switchedTo {s t : State} {r : Request} {d d' : Device} {sc : SceneCopy} {moment : Moment}
    {g : GoFlight} {code : ResultCode} {value : Nat} (hreq : s.dev.req.handedRequest = some r)
    (h : Device.SwitchedTo s d sc moment g d') (hdreq : d.req = s.dev.req.beginWork)
    (hchange : d.change = s.dev.change) (hlayout : d'.layout = s.dev.layout) (harea : d'.regs.area = s.dev.regs.area)
    (hstamp : t.dev.eventStamp = d'.stampHere) (ht : t.dev.req = (d'.answer r code value).req.nextSlot) :
    AnsweredAmong (goCompletion s t.dev.eventStamp true (some g) .ok (s.dev.change.activation + 1).toNat) []
      t.dev.eventStamp r code value s t := by
  have hworking : d'.req.working = true := by
    rw [h.req, hdreq]
    exact RequestUnit.beginWork_working hreq
  have hgives : (d'.answer r code value).req = s.dev.req.beginWork.give
      (goCompletion s t.dev.eventStamp true (some g) .ok (s.dev.change.activation + 1).toNat ++
        [completionOf s t.dev.eventStamp true r.slot r.tag code value]) := by
    rw [Device.answer_eq hlayout harea, hworking, hstamp]
    show d'.req.give _ = _
    rw [h.req, hdreq, hchange, RequestUnit.beginWork_working hreq, RequestUnit.give_give]
  rw [AnsweredAmong, ht, hgives,
    RequestUnit.nextSlot_give hreq ⟨_, List.mem_append_right _ (List.mem_singleton_self _), rfl⟩]
  simp

/-- A STOP that finds an ARMED change. -/
theorem State.stop_switches {s : State} {r : Request} {sc : SceneCopy} {g : GoFlight} (hon : s.isOnline = true)
    (hreq : s.hasRequest 9#8 r) (hrun : s.dev.tempo.transport ≠ .stopped) (harmed : s.dev.change.state = .armed)
    (hcopy : s.dev.change.copy = some sc) (hgo : s.dev.change.go = some g) :
    ∃ t, exec .stop s = .next t ∧ t.dev.change = switched s sc
      ∧ SwitchSays sc .transportStop g (stopEntries s.dev.tempo) s t
      ∧ t.dev.tempo.transport =
          (if sc.startTransport = false then .stopped else if sc.countInBars = 0 then .playing else .countIn)
      ∧ (sc.startTransport = false → ∀ n : Fin 4, t.dev.click.lines[n].endsAt = none)
      ∧ AnsweredAmong (goCompletion s t.dev.eventStamp true (some g) .ok (s.dev.change.activation + 1).toNat) []
          t.dev.eventStamp r .ok s.dev.tempo.transport.code s t
      ∧ EventChanges [.change, .voices, .ports, .deferrals, .tempo, .click, .req] s t := by
  obtain ⟨hreq, hk⟩ := hreq
  obtain ⟨es, hes, -, -⟩ := State.halted_entries hrun hon
  have hframe := State.halted_frame hrun
  have hidle : ∀ n : Fin 4, s.halted.click.lines[n].endsAt = none := Device.clickStop_idle _
  have hchange : s.halted.change = s.dev.change := by
    rw [hframe]
    rfl
  have hstopped : s.halted.tempo.transport = .stopped := by
    rw [hframe]
    rfl
  have hbody : Device.stopRequest r s.dev.atRequest =
      (s.halted.switchTo sc .transportStop).answer r .ok s.dev.tempo.transport.code := by
    rw [State.stopRequest_eq hrun, Device.changeStop, if_pos (hchange ▸ harmed), Device.makeSwitch, hchange, hcopy]
  have hsw := Device.switchTo_spec (s := s) (d := s.halted) (by rw [hframe]; rfl) (by rw [hframe]; rfl)
    (hchange ▸ hgo) sc .transportStop
  have htransport := Device.switchTo_transport_of_stopped hstopped sc .transportStop
  have hclick := fun hstart => Device.switchTo_click_of_stopped hstopped sc hstart .transportStop
  generalize s.halted.switchTo sc .transportStop = d' at hbody hsw htransport hclick
  have hpedals : s.halted.pedals = s.dev.pedals := by
    rw [hframe]
    rfl
  have hframe' := hsw.frame
  rw [hframe] at hframe'
  obtain ⟨rq, hrq⟩ : ∃ rq, d'.answer r .ok s.dev.tempo.transport.code = { d' with req := rq } := ⟨_, rfl⟩
  obtain ⟨t, ht, ⟨p, q, hs⟩, hj, hc⟩ := State.request_outcome (fits := fun x => decide (x = 9#8))
    { d' with req := rq } d'.stage.entries [.change, .voices, .ports, .deferrals, .tempo, .click, .req] hon hreq (decide_eq_true hk)
    (hbody.trans hrq) rfl (by rw [hframe']; rfl) (by rw [hframe']; rfl) (by simp)
    (by
      rw [hframe']
      intro b
      cases b <;> simp [Block.agrees, Device.atRequest, Device.beginEvent])
  refine ⟨t, congrArg _ ht.symm, ?_, ?_, ?_, fun hstart n => ?_, ?_, hc⟩
  · rw [hs]
    refine hsw.change.trans ?_
    rw [hchange, Device.overrideHeld_congr hpedals]
    rfl
  · exact SwitchSays.of_switchedTo_after hsw (by rw [hframe]) (by rw [hframe]; rfl) ⟨es, hes.symm⟩ hpedals hchange
      (by rw [hs]) hj
  · rw [hs]
    exact htransport
  · rw [hs]
    show d'.click.lines[n].endsAt = none
    rw [hclick hstart, ClickUnit.handed_line]
    exact hidle n
  · exact AnsweredAmong.of_switchedTo hreq hsw (by rw [hframe]; rfl) hchange (by rw [hframe']; rfl)
      (by rw [hframe']; rfl) (by rw [hs]; rfl) (by rw [hs, hrq])

/-- Settles O25: START and STOP by the transport, STOP also by the change state. -/
theorem startAndStop : Obligations.StartAndStop := by
  intro s r hon old
  refine ⟨?_, fun hreq hrun => ?_, fun hreq hrun hfree => State.stop_stops hon hreq hrun hfree,
    fun sc g hreq hrun harmed hcopy hgo => State.stop_switches hon hreq hrun harmed hcopy hgo, fun hreq hstopped => ?_⟩
  · intro hreq hstopped hsilent bars started beat now hlo hhi
    have hbars : s.dev.startBars r.arg1 = bars := by
      unfold Device.startBars
      cases h : s.dev.change.active <;> simp [bars, h]
    obtain ⟨hbeat, hbar⟩ := startedRecord_begins old bars
    have hbeat' : beat = if (startedRecord old bars).atBeat then beatTaken (startedRecord old bars) s.dev.sync
        else (startedRecord old bars, []) := if_congr hbeat.symm rfl rfl
    have hnow : now = if (startedRecord old bars).atBar then meterTaken beat.1 else beat.1 := if_congr hbar.symm rfl rfl
    have hboundary : boundaryTaken (startedRecord old bars) s.dev.sync = (now, beat.2) := by
      rw [hnow, hbeat']
      rfl
    have := State.start_starts hon hreq hstopped hsilent hbars fun h => ?_
    · rw [hboundary] at this
      exact this
    · rw [hbeat', if_pos h] at hlo hhi
      exact ⟨hlo, hhi⟩
  · exact State.request_refused hon hreq (if_neg fun h => hrun (of_decide_eq_true h))
  · refine State.request_refused hon hreq ?_
    rw [Device.stopRequest, if_pos (by exact decide_eq_true hstopped),
      show s.dev.atRequest.tempo.transport.code = 0 from congrArg Transport.code hstopped]

end Sys2Proof.Machine
end

section
/-! The entries handed before a switch's spill and offers do not matter to them (R129 to R131): each operation of the stage
leaves them as they are in front of its own. -/
namespace Sys2Proof.Machine

open Sys2Proof

/-- A stage with entries handed before its own. -/
def Stage.withEarlier (es : List Entry) (st : Stage) : Stage := { st with entries := es ++ st.entries }

section WithEarlier

variable (es : List Entry) (st : Stage)

@[simp] theorem Stage.withEarlier_clock : (st.withEarlier es).clock = st.clock := rfl
@[simp] theorem Stage.withEarlier_voices : (st.withEarlier es).voices = st.voices := rfl
@[simp] theorem Stage.withEarlier_ports : (st.withEarlier es).ports = st.ports := rfl
@[simp] theorem Stage.withEarlier_entries : (st.withEarlier es).entries = es ++ st.entries := rfl

/-- Operations one after another, when each has the property. -/
theorem Stage.foldl_withEarlier {α : Type} {f : Stage → α → Stage}
    (hf : ∀ st a, f (st.withEarlier es) a = (f st a).withEarlier es) (as : List α) :
    as.foldl f (st.withEarlier es) = (as.foldl f st).withEarlier es :=
  List.foldl_hom (Stage.withEarlier es) hf

/-- An entry handed. -/
@[simp] theorem Stage.emit_withEarlier (e : Entry) : (st.withEarlier es).emit e = (st.emit e).withEarlier es := by
  simp [withEarlier, emit]

/-- A change of one port. -/
@[simp] theorem Stage.modifyPort_withEarlier (p : Fin 6) (f : ModulePort → ModulePort) :
    (st.withEarlier es).modifyPort p f = (st.modifyPort p f).withEarlier es := rfl

/-- A change of the voice table. -/
@[simp] theorem Stage.setVoice_withEarlier (k : Fin 128) (v : Option Voice) :
    (st.withEarlier es).setVoice k v = (st.setVoice k v).withEarlier es := rfl

/-- An offered entry message (R49). -/
@[simp] theorem Stage.offerEntry_withEarlier (p : Fin 6) (m : Message) :
    (st.withEarlier es).offerEntry p m = (st.offerEntry p m).withEarlier es := by
  simp only [offerEntry, withEarlier_ports, withEarlier_clock, modifyPort_withEarlier, emit_withEarlier,
    apply_ite (Stage.withEarlier es)]

/-- An offered release (R47). -/
@[simp] theorem Stage.offerRelease_withEarlier (p : Fin 6) (m : Message) :
    (st.withEarlier es).offerRelease p m = (st.offerRelease p m).withEarlier es := by
  have hadmits : (st.withEarlier es).releaseAdmitted p = st.releaseAdmitted p := rfl
  simp only [offerRelease, hadmits, withEarlier_clock, modifyPort_withEarlier, apply_ite (Stage.withEarlier es)]

/-- An ended deferral (R135). -/
@[simp] theorem Stage.endDeferral_withEarlier (df : Deferral) :
    (st.withEarlier es).endDeferral df = (st.endDeferral df).withEarlier es :=
  foldl_withEarlier es { st with deferrals := st.deferrals.erase df }
    (fun st m => offerEntry_withEarlier es st df.dest.port m) df.messages

/-- A deferral check (R135). -/
@[simp] theorem Stage.deferralCheck_withEarlier (x : Dest) :
    (st.withEarlier es).deferralCheck x = (st.deferralCheck x).withEarlier es := by
  have hfor : (st.withEarlier es).deferralFor x = st.deferralFor x := rfl
  have hholds : (st.withEarlier es).holdsDest x = st.holdsDest x := rfl
  unfold deferralCheck
  rw [hfor, hholds]
  cases st.deferralFor x with
  | none => rfl
  | some df => simp only [endDeferral_withEarlier, apply_ite (Stage.withEarlier es)]

/-- The removal of an entry whose records are all DONE (R28, R32). -/
@[simp] theorem Stage.removeIfDone_withEarlier (k : Fin 128) :
    (st.withEarlier es).removeIfDone k = (st.removeIfDone k).withEarlier es := by
  unfold removeIfDone
  rw [withEarlier_voices]
  cases st.voices[k] with
  | none => rfl
  | some v =>
    have checks := foldl_withEarlier es (st.setVoice k none) (fun st x => deferralCheck_withEarlier es st x)
      (distinctDests v.dests)
    simp only [setVoice_withEarlier, checks, apply_ite (Stage.withEarlier es)]

/-- A record that becomes DONE (R28, R32, R135). -/
@[simp] theorem Stage.recordDone_withEarlier (k : Fin 128) (j : Nat) (x : Dest) :
    (st.withEarlier es).recordDone k j x = (st.recordDone k j x).withEarlier es := by
  have hflag : (st.withEarlier es).setFlag k j .done = (st.setFlag k j .done).withEarlier es := rfl
  simp only [recordDone, hflag, deferralCheck_withEarlier, removeIfDone_withEarlier]

/-- A released record (R29). -/
@[simp] theorem Stage.releaseRecord_withEarlier (k : Fin 128) (j : Nat) :
    (st.withEarlier es).releaseRecord k j = (st.releaseRecord k j).withEarlier es := by
  have hdests : (st.withEarlier es).destsAt k = st.destsAt k := rfl
  have hheld (key : DestKey) : (st.withEarlier es).heldElsewhere k j key = st.heldElsewhere k j key := rfl
  have hadmits (p : Fin 6) : (st.withEarlier es).releaseAdmitted p = st.releaseAdmitted p := rfl
  have hflag : (st.withEarlier es).setFlag k j .owed = (st.setFlag k j .owed).withEarlier es := rfl
  unfold releaseRecord
  rw [hdests]
  cases (st.destsAt k)[j]? with
  | none => rfl
  | some r =>
    simp only [hheld, hadmits, hflag, offerRelease_withEarlier, recordDone_withEarlier, apply_ite (Stage.withEarlier es)]

/-- A cut destination (R31). -/
@[simp] theorem Stage.cut_withEarlier (x : Dest) : (st.withEarlier es).cut x = (st.cut x).withEarlier es :=
  foldl_withEarlier es st (fun st kj => releaseRecord_withEarlier es st kj.1 kj.2) _

/-- The spill of a switch (R129, R130). -/
theorem Stage.spill_withEarlier (sc : SceneCopy) (activation : BitVec 16) :
    (st.withEarlier es).spill sc activation = (st.spill sc activation).withEarlier es := by
  have hdiscards : (st.withEarlier es).discardDeferrals = st.discardDeferrals.withEarlier es := by
    simp [discardDeferrals_eq, withEarlier]
  by_cases h : sc.spillCuts
  · rw [spill_of_cuts _ h, spill_of_cuts _ h, hdiscards]
    exact foldl_withEarlier es _ (fun st x => cut_withEarlier es st x) _
  · rw [spill_of_not_cuts _ h, spill_of_not_cuts _ h, hdiscards]
    rfl

/-- The entry messages of a switch (R131). -/
theorem Stage.sendEntryMessages_withEarlier (sc : SceneCopy) :
    (st.withEarlier es).sendEntryMessages sc = (st.sendEntryMessages sc).withEarlier es :=
  foldl_withEarlier es st (fun st (e : EntryMessage) => offerEntry_withEarlier es st e.port e.msg) _

end WithEarlier

/-- A stage without entries, with some handed. -/
theorem Stage.emitAll_of_empty {st : Stage} (h : st.entries = []) (es : List Entry) : st.emitAll es = st.withEarlier es := by
  rw [emitAll_eq, withEarlier, h, List.append_nil, List.nil_append]

/-- The entries of a spill: those before it, then one for each deferral discarded; its cuts write none (R130, R133). -/
theorem Stage.spill_entries (st : Stage) (sc : SceneCopy) (activation : BitVec 16) :
    (st.spill sc activation).entries =
      st.entries ++ st.deferrals.map fun df => .deferDiscarded df.dest df.messages.length df.activation := by
  by_cases h : sc.spillCuts
  · have hd : st.discardDeferrals.deferrals = [] := by rw [discardDeferrals_eq]
    rw [st.spill_of_cuts h, (ReleasesQuietly.foldl (fun _ x hd => cut_releasesQuietly hd x) sc.touched hd).frame,
      discardDeferrals_eq]
  · rw [st.spill_of_not_cuts h, discardDeferrals_eq]

end Sys2Proof.Machine
end

section
/-! The timing stage at the ports (R110, R132): only the click lanes change; and from a MANUAL record at rest, exactly. -/
namespace Sys2Proof.Machine

open Sys2Proof

/-! ## The main queues and the backlogs stay -/

/-- Work that leaves the main queue and the backlog of every port. -/
def Stage.KeepsMain (st st' : Stage) : Prop :=
  ∀ p : Fin 6, st'.ports[p].main = st.ports[p].main ∧ st'.ports[p].backlog = st.ports[p].backlog

/-- Nothing done is within the relation. -/
theorem Stage.KeepsMain.refl (st : Stage) : st.KeepsMain st := fun _ => ⟨rfl, rfl⟩

/-- Work that leaves the ports. -/
theorem Stage.KeepsMain.ofPorts {st st' : Stage} (h : st'.ports = st.ports) : st.KeepsMain st' := by
  intro p
  rw [h]
  exact ⟨rfl, rfl⟩

/-- The relation composes. -/
theorem Stage.KeepsMain.trans {a b c : Stage} (h : a.KeepsMain b) (h' : b.KeepsMain c) : a.KeepsMain c := fun p =>
  ⟨(h' p).1.trans (h p).1, (h' p).2.trans (h p).2⟩

/-- An offered click message (R50). -/
theorem Stage.offerClick_keepsMain (st : Stage) (p : Fin 6) (n : Fin 4) (m : Message) :
    st.KeepsMain (st.offerClick p n m) := by
  unfold offerClick
  split
  · intro q
    rw [modifyPort, getElem_vecModify]
    split <;> exact ⟨rfl, rfl⟩
  · exact .refl st

/-- A click line's tick (R104, R109, R110). -/
theorem takeClickTick_keepsMain (mute : Bool) (tr : Transport) (beat tick : Nat) (n : Fin 4) (l : ClickLine)
    (st : Stage) : st.KeepsMain (takeClickTick mute tr beat tick n l st).2 := by
  have ended (l : ClickLine) : st.KeepsMain (endNote n l st).2 := by
    unfold endNote
    split
    · exact .refl st
    · exact st.offerClick_keepsMain _ _ _
  unfold takeClickTick soundClick beginNote
  dsimp only
  split
  · split
    · exact ended _
    · exact (ended _).trans (Stage.offerClick_keepsMain _ _ _ _)
  · exact .refl st

/-- The timing stage of a switch (R132). -/
theorem Device.handTiming_keepsMain (d : Device) (sc : SceneCopy) : d.stage.KeepsMain (d.handTiming sc).stage := by
  have handed : d.stage.KeepsMain (d.timingHanded sc).stage :=
    .ofPorts (by rw [(d.timingHanded_retunes sc).frame]; rfl)
  rw [handTiming_eq]
  split
  · rw [startTransport_eq, beginTick, clickTick]
    refine handed.trans (Stage.KeepsMain.trans (b := Device.stage _) ?_
      (onLines_stage .refl (fun _ _ _ => .trans) (takeClickTick_keepsMain _ _ _ _) _))
    exact .ofPorts (startTick_ports _)
  · exact handed

/-! ## The timing from rest (R65, R71, R79, R106) -/

/-- While the transport runs a meter handed waits for the next bar (R65). -/
theorem Tempo.handMeter_of_running {r : Tempo} (h : r.transport ≠ .stopped) (m : Nat) :
    r.handMeter m = { r with pendingMeter := some m } := by
  simp [handMeter, isStopped, h]

/-- While it is STOPPED the meter is taken at once (R65). -/
theorem Tempo.handMeter_of_stopped {r : Tempo} (h : r.transport = .stopped) (m : Nat) :
    r.handMeter m =
      { r with
        meter := m, pendingMeter := none
        beat := if m < r.beat then 1 else r.beat, tick := if m < r.beat then 0 else r.tick } := by
  simp [handMeter, isStopped, h, takeMeterStopped_eq, meterTaken]

section Rest

variable {d : Device} {sc : SceneCopy} (hscene : sc.source = .manual) (hlength : sc.glideBeats = 0)
  (hsource : d.tempo.source = .manual)
include hscene hlength hsource

/-- A scene of source MANUAL without a glide hands its meter, its click settings and its tempo. -/
theorem Device.timingHanded_of_manual :
    d.timingHanded sc =
      if sc.tempo = 0 then d.settingsHanded sc else (d.settingsHanded sc).writePendingTempo sc.tempo .scene := by
  have hsettings : (d.onTempo (·.handMeter sc.meter)).handClick sc.subdivisions sc.accents = d.settingsHanded sc :=
    handClick_eq _ _ _
  have hmanual : (d.settingsHanded sc).tempo.source = .manual := by
    by_cases h : d.tempo.transport = .stopped
    · rw [settingsHanded, Tempo.handMeter_of_stopped h]
      exact hsource
    · rw [settingsHanded, Tempo.handMeter_of_running h]
      exact hsource
  have hkept : (d.settingsHanded sc).setSource .manual = d.settingsHanded sc := if_pos hmanual
  unfold timingHanded
  rw [hsettings, hscene, hkept, hlength]
  rfl

variable (hglide : d.tempo.glide = none) (hpending : d.tempo.pending = none)
include hglide hpending

/-- While the transport runs the meter and the tempo are left pending (R65, R71). -/
theorem Device.timingHanded_tempo_of_running (hrun : d.tempo.transport ≠ .stopped) :
    (d.timingHanded sc).tempo =
      { d.tempo with
        pendingMeter := some sc.meter
        pending := if sc.tempo = 0 then none else some (clampNat 2000 30000 sc.tempo, .scene) } := by
  have hsettings : (d.settingsHanded sc).tempo = { d.tempo with pendingMeter := some sc.meter } :=
    Tempo.handMeter_of_running hrun _
  rw [timingHanded_of_manual hscene hlength hsource]
  split
  · simp [hsettings, hpending]
  · rw [writePendingTempo_of_running (by rw [hsettings]; exact hrun) (by rw [hsettings]; exact hglide),
      onTempo_tempo, hsettings]
    rfl

/-- While it is STOPPED both are taken at once, and the click settings are left pending (R65, R71, R106). -/
theorem Device.timingHanded_of_stopped (hmeter : d.tempo.pendingMeter = none) (hstopped : d.tempo.transport = .stopped) :
    (d.timingHanded sc).tempo =
        { d.tempo with
          meter := sc.meter
          beat := if sc.meter < d.tempo.beat then 1 else d.tempo.beat
          tick := if sc.meter < d.tempo.beat then 0 else d.tempo.tick
          t := if sc.tempo = 0 then d.tempo.t else clampNat 2000 30000 sc.tempo
          acc := if sc.tempo = 0 ∨ clampNat 2000 30000 sc.tempo = d.tempo.t then d.tempo.acc else 0 }
      ∧ (d.timingHanded sc).click = d.click.handed sc.subdivisions sc.accents := by
  have hsettings : (d.settingsHanded sc).tempo = _ := Tempo.handMeter_of_stopped hstopped _
  rw [timingHanded_of_manual hscene hlength hsource]
  split
  · rename_i hzero
    refine ⟨?_, rfl⟩
    rw [hsettings]
    simp [hzero, hmeter]
  · rename_i hsome
    rw [writePendingTempo_of_stopped (by rw [hsettings]; exact hglide) (by rw [hsettings]; exact hstopped)]
    refine ⟨?_, rfl⟩
    have hclamp : clampNat Config.tempoMin Config.tempoMax sc.tempo = clampNat 2000 30000 sc.tempo := rfl
    rw [retimed_tempo, hsettings, hclamp]
    simp [hsome, hmeter, hpending, withTempo]

end Rest

/-- What `TimingSays` asks is what the timing stage does. -/
theorem TimingSays.of_handTiming {s t : State} {d : Device} {sc : SceneCopy} (hscene : sc.source = .manual)
    (hlength : sc.glideBeats = 0) (hsource : s.dev.tempo.source = .manual) (hpending : s.dev.tempo.pending = none)
    (hmeter : s.dev.tempo.pendingMeter = none) (hglide : s.dev.tempo.glide = none) (htempo : d.tempo = s.dev.tempo)
    (hclick : d.click = s.dev.click) (ht : t.dev.tempo = (d.handTiming sc).tempo)
    (ht' : t.dev.click = (d.handTiming sc).click) : TimingSays sc s t := by
  rw [← htempo] at hsource hpending hmeter hglide
  unfold TimingSays
  dsimp only
  rw [ht, ht', ← htempo, ← hclick]
  refine ⟨fun hstopped hstart => ?_, fun hstopped hstart => ?_, fun hrun => ?_⟩
  · rw [Device.handTiming_of_stopped hstopped, if_neg (by simp [hstart])]
    exact Device.timingHanded_of_stopped hscene hlength hsource hglide hpending hmeter hstopped
  · rw [Device.handTiming_of_stopped hstopped, if_pos hstart]
    exact Device.startTransport_transport _ _ _
  · rw [Device.handTiming_of_running _ _ hrun]
    exact Device.timingHanded_tempo_of_running hscene hlength hsource hglide hpending hrun

end Sys2Proof.Machine
end

section
/-! A GO that switches within itself (R122, R127 to R133). -/
namespace Sys2Proof.Machine

open Sys2Proof

/-! ## The stage of a switch -/

/-- A go completed leaves the stage. -/
@[simp] theorem Device.completeGo_stage (d : Device) (g : Option GoFlight) (code : ResultCode) (value : Nat) :
    (d.completeGo g code value).stage = d.stage := by
  rw [d.completeGo_eq (s := { State.reset with dev := d }) rfl rfl]
  rfl

/-- And the click unit. -/
@[simp] theorem Device.completeGo_click (d : Device) (g : Option GoFlight) (code : ResultCode) (value : Nat) :
    (d.completeGo g code value).click = d.click := by
  rw [d.completeGo_eq (s := { State.reset with dev := d }) rfl rfl]
  rfl

section Switch

variable (d : Device) (sc : SceneCopy) (moment : Moment)

/-- What a switch does to the click unit, its timing stage does. -/
theorem Device.switchTo_click : (d.switchTo sc moment).click = ((d.beforeTiming sc).handTiming sc).click := by
  unfold switchTo
  dsimp only
  exact completeGo_click _ _ _ _

/-- Before its timing stage a switch leaves the tempo record. -/
theorem Device.beforeTiming_tempo : (d.beforeTiming sc).tempo = d.tempo := rfl

/-- And the click unit. -/
theorem Device.beforeTiming_click : (d.beforeTiming sc).click = d.click := rfl

/-- The stage after a switch: that of its timing, with SCENE_CHANGED handed last (R133, R139). -/
theorem Device.switchTo_stage :
    (d.switchTo sc moment).stage =
      ((d.beforeTiming sc).handTiming sc).stage.emit
        (.sceneChanged sc.number (d.change.activation + 1)
          (if sc.position.isSome then sc.position else d.change.setPosition) moment d.change.goOrigin
          (carriedZones sc d.overrideHeld d.change.zones).length
          ((d.stage.emitAll (carryEntries sc d.overrideHeld d.change.zones)).spill sc
            (d.change.activation + 1)).deferrals.length d.overrideHeld sc.spill) := by
  unfold switchTo
  dsimp only
  exact completeGo_stage _ _ _ _

/-- The stage as a switch comes to its timing: where no entry was handed before it, the spill and the offers of the stage
itself, behind the entries of the carry. -/
theorem Device.beforeTiming_stage (h : d.stage.entries = []) :
    (d.beforeTiming sc).stage =
      ((d.stage.spill sc (d.change.activation + 1)).sendEntryMessages sc).withEarlier
        (carryEntries sc d.overrideHeld d.change.zones) := by
  show (((d.stage.emitAll _).spill sc (d.change.activation + 1)).sendEntryMessages sc) = _
  rw [Stage.emitAll_of_empty h, Stage.spill_withEarlier, Stage.sendEntryMessages_withEarlier]

/-- The entries of a switch, first and last: those of the carry, the discarded deferrals, and SCENE_CHANGED (R130, R133,
R139). -/
theorem Device.switchTo_entries (h : d.stage.entries = []) :
    ∃ es, (d.switchTo sc moment).stage.entries =
      carryEntries sc d.overrideHeld d.change.zones
        ++ d.stage.deferrals.map (fun df => .deferDiscarded df.dest df.messages.length df.activation)
        ++ es
        ++ [.sceneChanged sc.number (d.change.activation + 1)
              (if sc.position.isSome then sc.position else d.change.setPosition) moment d.change.goOrigin
              (carriedZones sc d.overrideHeld d.change.zones).length (d.switchTo sc moment).stage.deferrals.length
              d.overrideHeld sc.spill] := by
  have hsends := (d.stage.spill sc (d.change.activation + 1)).sendEntryMessages_onlyOffers sc
  have hplays := (d.beforeTiming sc).handTiming_onlyPlays sc
  have hspilled : ((d.stage.emitAll (carryEntries sc d.overrideHeld d.change.zones)).spill sc
      (d.change.activation + 1)).deferrals = (d.switchTo sc moment).stage.deferrals := by
    rw [switchTo_stage, hplays.frame]
    exact (Stage.sendEntryMessages_onlyOffers _ sc).deferrals.symm
  obtain ⟨sent, hsent⟩ := hsends.entries
  obtain ⟨played, hplayed⟩ := hplays.entries
  rw [d.beforeTiming_stage sc h, Stage.withEarlier_entries, ← hsent, Stage.spill_entries, h] at hplayed
  refine ⟨sent ++ played, ?_⟩
  rw [← hspilled, switchTo_stage]
  simp [Stage.emit, ← hplayed]

end Switch

/-! ## The event -/

/-- A request completed last, with nothing else given (R176, R177). -/
theorem Answered.of_give {s t : State} {r : Request} {q : RequestUnit} {stamp : Stamp} {code : ResultCode} {value : Nat}
    (hreq : s.dev.req.handedRequest = some r)
    (hgives : q = s.dev.req.beginWork.give [completionOf s stamp true r.slot r.tag code value])
    (hstamp : t.dev.eventStamp = stamp) (ht : t.dev.req = q.nextSlot) : Answered r code value s t := by
  rw [hgives, RequestUnit.nextSlot_give hreq ⟨_, List.mem_singleton_self _, rfl⟩] at ht
  rw [Answered, ht, hstamp]
  exact ⟨rfl, rfl, rfl, rfl, rfl⟩

/-- The part with a go in flight (R121). -/
def Device.going (d : Device) (g : GoFlight) : Device := d.onChange fun c => { c with go := some g }

/-- Settles O44: a GO in CUED that switches within itself. -/
theorem goSwitchesTheScene : Obligations.GoSwitchesTheScene := by
  intro s r sc hon hreq hcued hcopy hatOnce activation carried spilled sent
  obtain ⟨-, -, hen, -⟩ := State.isOnline_spec hon
  obtain ⟨hreq, hk⟩ := hreq
  set g : GoFlight := { origin := .request r.slot r.tag, waiting := false }
  set d := s.dev.atRequest.going g with hd
  have hbody : Device.goRequest r s.dev.atRequest = d.switchTo sc (armingMoment sc) := by
    have hstate : s.dev.atRequest.change.state = .cued := hcued
    rw [Device.goRequest, hstate]
    exact Device.arm_of_atOnce (d := d) hcopy hatOnce
  have hsw := Device.switchTo_spec (s := s) (d := d) rfl rfl rfl sc (armingMoment sc)
  have htempo := d.switchTo_tempo sc (armingMoment sc)
  have hclick := d.switchTo_click sc (armingMoment sc)
  have hports : (d.switchTo sc (armingMoment sc)).stage.ports = ((d.beforeTiming sc).handTiming sc).stage.ports := by
    rw [d.switchTo_stage]
    rfl
  obtain ⟨es, hes⟩ := d.switchTo_entries sc (armingMoment sc) hen
  generalize d.switchTo sc (armingMoment sc) = d' at hbody hsw htempo hclick hports hes
  obtain ⟨t, ht, ⟨p, q, hs⟩, hj, hc⟩ := State.request_outcome (fits := fun x => decide (x = 3#8)) d' d'.stage.entries
    [.change, .voices, .ports, .deferrals, .tempo, .click, .req] hon hreq (decide_eq_true hk) hbody rfl
    (by rw [hsw.frame]; rfl) (by rw [hsw.frame]; rfl) (by simp)
    (by
      rw [hsw.frame]
      intro b
      cases b <;> simp [Block.agrees, hd, Device.going, Device.onChange, Device.atRequest, Device.beginEvent])
  have hchange : t.dev.change = switched s sc := by
    rw [hs]
    exact hsw.change
  refine ⟨t, congrArg _ ht.symm, hchange, ?_, fun p => ?_,
    fun hscene hlength hsource hpending hmeter hglide => ?_, ?_, ?_, hc⟩
  · obtain ⟨st, hv, hck, hv', hd'⟩ := hsw.spill
    exact SpillSays.of_spill hv hck (by rw [hs]; exact hv') (by rw [hs]; exact hd')
  · have hkeeps := (d.beforeTiming sc).handTiming_keepsMain sc p
    rw [← hports, d.beforeTiming_stage sc hen] at hkeeps
    rw [hs]
    exact hkeeps
  · exact TimingSays.of_handTiming (d := d.beforeTiming sc) hscene hlength hsource hpending hmeter hglide
      (d.beforeTiming_tempo sc) (d.beforeTiming_click sc) (by rw [hs]; exact htempo) (by rw [hs]; exact hclick)
  · have hdeferrals : t.dev.stage.deferrals = d'.stage.deferrals := by rw [hs]
    rw [hes] at hj
    exact ⟨es, by rw [hchange, hdeferrals]; exact hj⟩
  · refine Answered.of_give hreq ?_ (stamp := d'.stampHere) (by rw [hs]) (by rw [hs])
    rw [← RequestUnit.beginWork_working hreq]
    exact hsw.req

end Sys2Proof.Machine
end

section
/-! T_tap of a ring of intervals (R87), and the moments of the timers that only end something (R86, R191). -/
namespace Sys2Proof.Machine

open Sys2Proof

/-! ## The average of a ring and its tempo (R87) -/

/-- The truncated average of a list lies between the bounds of its members. -/
theorem average_between {ring : List Nat} {lo hi : Nat} (hlength : 0 < ring.length)
    (h : ∀ i ∈ ring, lo ≤ i ∧ i ≤ hi) : lo ≤ ring.sum / ring.length ∧ ring.sum / ring.length ≤ hi := by
  have hlo : ring.length * lo ≤ ring.sum := ring.card_nsmul_le_sum lo fun i hi => (h i hi).1
  have hhi : ring.sum ≤ ring.length * hi := ring.sum_le_card_nsmul hi fun i hi => (h i hi).2
  exact ⟨(Nat.le_div_iff_mul_le hlength).2 (by rwa [Nat.mul_comm]), Nat.div_le_of_le_mul hhi⟩

/-- A clamp as the nearer end of the range. -/
theorem clampNat_eq_max_min {lo hi : Nat} (h : lo ≤ hi) (n : Nat) : clampNat lo hi n = max lo (min hi n) := by
  unfold clampNat
  split_ifs <;> omega

/-- The tempo of a beat is the nearest whole number to 6,000,000,000 over its length, and of two the greater (R87, R95). -/
theorem tempoOfBeat_rounds {beat : Nat} (h : 0 < beat) :
    2 * beat * tempoOfBeat beat ≤ 12000000000 + beat ∧ 12000000000 + beat < 2 * beat * (tempoOfBeat beat + 1) :=
  ⟨Nat.mul_div_le _ _, Nat.lt_mul_div_succ _ (by omega)⟩

/-- A beat of at most 200,000 µs has a tempo of 30000 or more (R87). -/
theorem le_tempoOfBeat_of_le {beat : Nat} (h : 0 < beat) (hle : beat ≤ 200000) : 30000 ≤ tempoOfBeat beat :=
  (Nat.le_div_iff_mul_le (by omega)).2 (by unfold Config.doubledBeatDividend; omega)

/-- A beat of 200,000 to 2,000,000 µs has a tempo in the range, so nothing is clamped (R62, R87). -/
theorem tempoOfBeat_between {beat : Nat} (hlo : 200000 ≤ beat) (hhi : beat ≤ 2000000) :
    2000 ≤ tempoOfBeat beat ∧ tempoOfBeat beat ≤ 30000 :=
  ⟨(Nat.le_div_iff_mul_le (by omega)).2 (by unfold Config.doubledBeatDividend; omega),
    Nat.lt_succ_iff.1 ((Nat.div_lt_iff_lt_mul (by omega)).2 (by unfold Config.doubledBeatDividend; omega))⟩

/-- T_tap with its clamp written out (R87). -/
theorem tapTempo_eq (ring : List Nat) :
    tapTempo ring = max 2000 (min 30000 (tempoOfBeat (ring.sum / ring.length))) :=
  clampNat_eq_max_min (by decide) _

/-- Settles O29: the average lies between the bounds of the intervals; T_tap is its rounded tempo from 200,000 µs on, where
nothing is clamped, and 30000 below; it is written pending and made current as it is. -/
theorem tapTempoRoundsHalfUp : Obligations.TapTempoRoundsHalfUp := by
  intro ring htwo _ hring
  obtain ⟨hlo, hhi⟩ := average_between (by omega) hring
  have hclamp := tapTempo_eq ring
  have hT : clampNat 2000 30000 (tapTempo ring) = tapTempo ring := clampNat_tapTempo ring
  dsimp only
  generalize ring.sum / ring.length = average at hlo hhi hclamp ⊢
  have hfast (h : average ≤ 200000) : tapTempo ring = 30000 := by
    have := le_tempoOfBeat_of_le (by omega) h
    omega
  have hexact (h : 200000 ≤ average) : tapTempo ring = tempoOfBeat average := by
    have := tempoOfBeat_between h hhi
    omega
  refine ⟨hlo, hhi, hclamp, fun h => hexact h ▸ tempoOfBeat_rounds (by omega), fun h => ?_, fun h => hfast h.le,
    fun h => ⟨by omega, hfast h.le⟩, fun d => ⟨fun hsource hrun hglide => ?_, fun hpending hne => ?_⟩⟩
  · rw [hexact (by omega), h]
    rfl
  · rw [Device.offerTap_manual hrun hglide hT hsource]
    rfl
  · rw [Device.applyPendingTempo_clamped hpending, hT, if_neg hne.symm]
    rfl

/-! ## The tap series and the ATTN pulse (R86, R191) -/

/-- A timer whose end hands nothing over and leaves the stage, the engine and the journal writer: at its moment its work is
done, and before it nothing happens (log 3). -/
theorem State.quietTimer_outcome {s : State} {timer : Option Word} {m : Word} {body : Device → Device} (bs : List Block)
    (hready : s.isReady = true) (htimer : timer = some m) (hstage : (body s.dev.beginEvent).stage = s.dev.stage)
    (hjw : (body s.dev.beginEvent).jw = s.dev.jw) (hengine : (body s.dev.beginEvent).engine = s.dev.engine)
    (hbs : ∀ b : Block, b ∈ bs ∨ b ∈ [Block.entries, .eventStamp, .page, .pageCause] ∨
      b.agrees s { s with dev := body s.dev.beginEvent }) :
    (reached s.dev.now m = true →
      ∃ t, (.next (s.event (timerDue s.dev.now timer) body) : Host.Outcome State Fault Refusal) = .next t
        ∧ t.dev.tap = (body s.dev.beginEvent).tap ∧ t.dev.regs = (body s.dev.beginEvent).regs
        ∧ Journaled [] s t ∧ EventChanges bs s t) ∧
    (reached s.dev.now m = false →
      (.next (s.event (timerDue s.dev.now timer) body) : Host.Outcome State Fault Refusal) = .next s) := by
  obtain ⟨hr, hen, hpc, hover⟩ := State.isReady_spec hready
  subst htimer
  refine ⟨fun hreached => ?_, fun hbefore => congrArg _ (State.event_not_due s _ _ (.inr hbefore))⟩
  obtain ⟨t, ht, ⟨p, q, hs⟩, hj, hc⟩ := State.event_outcome (due := timerDue s.dev.now (some m)) _ [] bs hreached hr hen
    hpc (.inr rfl) rfl (by rw [hstage, hen]) hjw (by rw [Device.drainOver, hstage, hengine]; exact hover) hbs
  exact ⟨t, congrArg _ ht.symm, by rw [hs], by rw [hs], hj, hc⟩

/-- Settles O28: each timer at its moment, where only its own block changes, and before it. -/
theorem lapseAndPulseEnd : Obligations.LapseAndPulseEnd := by
  intro s m hready
  refine ⟨fun l hlast => ?_, fun hpulse => ?_⟩
  · have hlapse : s.dev.tap.lapseAt = some (after l 2000001) := by
      rw [TapCapture.lapseAt, hlast]
      rfl
    obtain ⟨hdue, hbefore⟩ := State.quietTimer_outcome (body := fun d => { d with tap := TapCapture.reset }) [.tap] hready
      hlapse rfl rfl rfl (by intro b; cases b <;> simp [Block.agrees])
    refine ⟨fun hreached => ?_, hbefore⟩
    obtain ⟨t, ht, htap, -, h⟩ := hdue hreached
    exact ⟨t, ht, htap, h⟩
  · obtain ⟨hdue, hbefore⟩ := State.quietTimer_outcome
      (body := fun d => { d with regs := { d.regs with attnPulse := none } }) [.attnPulse] hready hpulse rfl rfl rfl
      (by intro b; cases b <;> simp [Block.agrees])
    refine ⟨fun hreached => ?_, hbefore⟩
    obtain ⟨t, ht, -, hregs, h⟩ := hdue hreached
    exact ⟨t, ht, by rw [hregs], h⟩

end Sys2Proof.Machine
end

section
/-! The sync follower: what an edge does to it by its state, and its loss timer (R93 to R97). -/
namespace Sys2Proof.Machine

open Sys2Proof

/-! ## Work on the follower alone -/

/-- The part with its sync follower as given, and entries handed. -/
def Device.resynced (d : Device) (f : SyncFollower) (es : List Entry) : Device :=
  { d with sync := f, stage := { d.stage with entries := d.stage.entries ++ es } }

section Resynced

variable (d : Device) (f : SyncFollower) (es : List Entry)

/-- A change of the follower hands nothing over. -/
theorem Device.onSync_eq (g : SyncFollower → SyncFollower) : d.onSync g = d.resynced (g d.sync) [] := by
  rw [resynced, List.append_nil]
  rfl

@[simp] theorem Device.resynced_sync : (d.resynced f es).sync = f := rfl

@[simp] theorem Device.resynced_onSync (g : SyncFollower → SyncFollower) :
    (d.resynced f es).onSync g = d.resynced (g f) es := rfl

@[simp] theorem Device.resynced_emit (e : Entry) : (d.resynced f es).emit e = d.resynced f (es ++ [e]) := by
  simp [resynced, emit, Stage.emit]

@[simp] theorem Device.resynced_resynced (f' : SyncFollower) (es' : List Entry) :
    (d.resynced f es).resynced f' es' = d.resynced f' (es ++ es') := by
  simp [resynced]

end Resynced

/-! ## The estimate and the lock (R94, R95, R97) -/

/-- The follower with its average and its estimate made anew (R95). -/
def SyncFollower.estimated (f : SyncFollower) (average : Nat) : SyncFollower :=
  let raw := tempoOfBeat (f.division * average)
  let estimate := clampNat 2000 30000 raw
  { f with
    average := some average, estimate := some estimate, clampNoted := f.clampNoted || decide (estimate ≠ raw) }

/-- The SYNC_CLAMPED entry of the first clamp of a lock (R95). -/
def SyncFollower.clampEntries (f : SyncFollower) (average : Nat) : List Entry :=
  let raw := tempoOfBeat (f.division * average)
  let estimate := clampNat 2000 30000 raw
  if estimate = raw ∨ f.clampNoted = true then [] else [.syncClamped raw estimate f.division average]

/-- An estimate made anew changes the follower, and hands over the entry of a first clamp alone (R95). -/
theorem Device.setEstimate_eq (d : Device) (average : Nat) :
    d.setEstimate average = d.resynced (d.sync.estimated average) (d.sync.clampEntries average) := by
  unfold setEstimate SyncFollower.estimated SyncFollower.clampEntries Config.tempoMin Config.tempoMax
  dsimp only
  generalize tempoOfBeat (d.sync.division * average) = raw
  by_cases h : clampNat 2000 30000 raw = raw ∨ d.sync.clampNoted = true
  · have hnoted : (d.sync.clampNoted || decide (clampNat 2000 30000 raw ≠ raw)) = d.sync.clampNoted := by
      rcases h with h | h <;> simp [h]
    rw [if_pos h, if_pos h, hnoted, onSync_eq d]
  · have hnoted : (d.sync.clampNoted || decide (clampNat 2000 30000 raw ≠ raw)) = true := by simp [(not_or.1 h).1]
    rw [if_neg h, if_neg h, hnoted, onSync_eq d, resynced_onSync, resynced_emit]
    rfl

/-- A lock makes average and estimate of the ring, starts the loss timer over four averages, and writes SYNC_LOCKED after
the SYNC_CLAMPED of an estimate that was clamped (R94, R95, R97). -/
theorem Device.syncLock_eq (d : Device) :
    let average := d.sync.ring.sum / 2 ^ d.sync.window
    let fresh := { d.sync with clampNoted := false }
    d.syncLock =
      d.resynced { fresh.estimated average with state := .locked, lossLeft := some (4 * average) }
        (fresh.clampEntries average ++
          [.syncLocked average (clampNat 2000 30000 (tempoOfBeat (d.sync.division * average))) d.sync.division
            d.sync.window]) := by
  intro average fresh
  rw [syncLock, onSync_eq d]
  dsimp only
  rw [setEstimate_eq, resynced_resynced, resynced_onSync, resynced_emit]
  rfl

/-- A full ring gives up its oldest interval for a new one (R96). -/
theorem pushRing_of_full {cap : Nat} {ring : List Nat} (h : ring.length = cap) (i : Nat) :
    pushRing cap ring i = ring.tail ++ [i] := by
  rw [pushRing, if_neg (by omega), h, Nat.add_sub_cancel_left, List.drop_one]

/-! ## An accepted edge, by the follower's state (R93, R94, R96) -/

section Edge

variable {d : Device}

/-- An edge that is no glitch is accepted out of OFF (R93). -/
theorem Device.takeEdge_accepted (hoff : d.sync.state ≠ .off)
    (hgap : ∀ l, d.sync.lastEdge = some l → 100 ≤ interval d.now l) : d.takeEdge = d.acceptEdge := by
  rw [takeEdge, if_neg hoff]
  cases hlast : d.sync.lastEdge with
  | none => rfl
  | some l => exact if_neg (Nat.not_lt.2 (hgap l hlast))

/-- In ABSENT and LOST it begins a gathering (R94). -/
theorem Device.acceptEdge_begins (hstate : d.sync.state = .absent ∨ d.sync.state = .lost) :
    d.acceptEdge = d.resynced { d.sync.gather with lastEdge := some d.now } [] := by
  rcases hstate with h | h <;> rw [acceptEdge, h] <;> exact d.onSync_eq fun f => { f.gather with lastEdge := some d.now }

variable {l : Word} (hlast : d.sync.lastEdge = some l)
include hlast

/-- A glitch is not accepted in any state (R93). -/
theorem Device.takeEdge_glitch (h : interval d.now l < 100) : d.takeEdge = d := by
  rw [takeEdge, hlast]
  split
  · rfl
  · exact if_pos h

variable {i : Nat} (hi : interval d.now l = i)
include hi

/-- In GATHERING its interval joins a ring that it does not fill (R94). -/
theorem Device.acceptEdge_gathers (hstate : d.sync.state = .gathering)
    (hroom : d.sync.ring.length + 1 < 2 ^ d.sync.window) :
    d.acceptEdge = d.resynced
      { d.sync with ring := d.sync.ring ++ [i], lossLeft := some 2000000, lastEdge := some d.now } [] := by
  rw [acceptEdge, hstate, hlast]
  dsimp only
  rw [hi, gatherEdge, onSync_eq d]
  rw [if_neg (by simpa [SyncFollower.ringCap] using hroom)]
  rfl

/-- The interval that fills the ring locks the follower (R94). -/
theorem Device.acceptEdge_locks (hstate : d.sync.state = .gathering)
    (hfull : d.sync.ring.length + 1 = 2 ^ d.sync.window) :
    d.acceptEdge =
      ((d.resynced { d.sync with ring := d.sync.ring ++ [i], lossLeft := some 2000000 } []).syncLock).onSync fun f =>
        { f with lastEdge := some d.now } := by
  rw [acceptEdge, hstate, hlast]
  dsimp only
  rw [hi, gatherEdge, onSync_eq d]
  rw [if_pos (by simp [SyncFollower.ringCap, hfull])]
  rfl

variable {average : Nat} (hstate : d.sync.state = .locked) (haverage : d.sync.average = some average)
include hstate haverage

/-- In LOCKED an interval outside the window of the average begins a gathering (R96). -/
theorem Device.acceptEdge_unlocks (hout : 2 * i < average ∨ 2 * average < i) :
    d.acceptEdge = d.resynced { d.sync.gather with lastEdge := some d.now } [] := by
  have hwindow : ¬ inWindow i average = true := by
    rw [inWindow, decide_eq_true_eq]
    omega
  rw [acceptEdge, hstate, hlast]
  dsimp only
  rw [hi, lockedEdge, haverage, Option.getD_some, if_neg hwindow]
  exact d.onSync_eq fun f => { f.gather with lastEdge := some d.now }

/-- One inside it replaces the oldest of a full ring; average, estimate and loss timer are made anew (R95 to R97). -/
theorem Device.acceptEdge_renews (hlo : average ≤ 2 * i) (hhi : i ≤ 2 * average)
    (hfull : d.sync.ring.length = 2 ^ d.sync.window) :
    let ring := d.sync.ring.tail ++ [i]
    let average' := ring.sum / 2 ^ d.sync.window
    let renewed := { d.sync with ring := ring }
    d.acceptEdge =
      d.resynced { renewed.estimated average' with lossLeft := some (4 * average'), lastEdge := some d.now }
        (renewed.clampEntries average') := by
  intro ring average' renewed
  have hwindow : inWindow i average = true := decide_eq_true ⟨hlo, hhi⟩
  have hring : d.onSync (fun f => { f with ring := pushRing f.ringCap f.ring i }) = d.resynced renewed [] := by
    rw [onSync_eq, pushRing_of_full (by exact hfull)]
  rw [acceptEdge, hstate, hlast]
  dsimp only
  rw [hi, lockedEdge, haverage, Option.getD_some, if_pos hwindow]
  dsimp only
  rw [hring, setEstimate_eq, resynced_resynced]
  rfl

end Edge

/-! ## SYNC_EDGE -/

/-- An edge that is not accepted changes nothing (R93). -/
theorem State.syncEdge_ignored {s : State} (hon : s.isOnline = true)
    (h : s.dev.beginEvent.takeEdge = s.dev.beginEvent) :
    ∃ t, exec .syncEdge s = .next t ∧ Journaled [] s t ∧ EventChanges [] s t := by
  obtain ⟨hr, heng, hen, hpc⟩ := State.isOnline_spec hon
  obtain ⟨t, ht, -, hj, hc⟩ := State.event_outcome (body := Device.takeEdge) _ [] [] rfl hr hen hpc (.inr rfl) h hen rfl
    (Device.drainOver_of_state (by simp [heng])) (by intro b; cases b <;> simp [Block.agrees])
  exact ⟨t, congrArg _ ht.symm, hj, hc⟩

/-- An edge that is accepted, by what it leaves of the follower. -/
theorem State.syncEdge_accepted {s : State} {f : SyncFollower} {es : List Entry} (hon : s.isOnline = true)
    (hoff : s.dev.sync.state ≠ .off) (hgap : ∀ l, s.dev.sync.lastEdge = some l → 100 ≤ interval s.dev.now l)
    (h : s.dev.beginEvent.acceptEdge = s.dev.beginEvent.resynced f es) :
    ∃ t, exec .syncEdge s = .next t ∧ t.dev.sync = f ∧ Journaled es s t ∧ EventChanges [.sync] s t := by
  obtain ⟨hr, heng, hen, hpc⟩ := State.isOnline_spec hon
  obtain ⟨t, ht, ⟨p, q, hs⟩, hj, hc⟩ := State.event_outcome (body := Device.takeEdge) _ es [.sync] rfl hr hen hpc
    (.inl (by rw [heng]; rfl)) ((Device.takeEdge_accepted (d := s.dev.beginEvent) hoff hgap).trans h)
    (by simp [Device.resynced, hen]) rfl (Device.drainOver_of_state (by simp [Device.resynced, heng]))
    (by intro b; cases b <;> simp [Block.agrees, Device.resynced])
  exact ⟨t, congrArg _ ht.symm, by rw [hs]; rfl, hj, hc⟩

/-- The gap that acceptance asks for, where the last edge is known (R93). -/
theorem SyncFollower.gap_of_lastEdge {f : SyncFollower} {now l : Word} (hlast : f.lastEdge = some l)
    (hgap : 100 ≤ interval now l) : ∀ l', f.lastEdge = some l' → 100 ≤ interval now l' := fun l' h => by
  rwa [← Option.some_inj.1 (hlast.symm.trans h)]

/-- Settles O30: the edges that are not accepted, and the accepted ones by the follower's state. -/
theorem syncEdgesAreJudged : Obligations.SyncEdgesAreJudged := by
  intro s hon
  refine ⟨fun hoff => State.syncEdge_ignored hon (if_pos hoff), fun l hlast hglitch => ?_, fun hstate hgap => ?_,
    fun l hlast hgap hstate hroom => ?_,
    fun l average hlast hgap hstate haverage => ⟨fun hout => ?_, fun hlo hhi hfull => ?_⟩⟩
  · exact State.syncEdge_ignored hon (Device.takeEdge_glitch (by exact hlast) hglitch)
  · have hoff : s.dev.sync.state ≠ .off := by rcases hstate with h | h <;> simp [h]
    exact State.syncEdge_accepted hon hoff hgap (Device.acceptEdge_begins (by exact hstate))
  · exact State.syncEdge_accepted hon (by simp [hstate]) (SyncFollower.gap_of_lastEdge hlast hgap)
      (Device.acceptEdge_gathers (by exact hlast) rfl hstate hroom)
  · exact State.syncEdge_accepted hon (by simp [hstate]) (SyncFollower.gap_of_lastEdge hlast hgap)
      (Device.acceptEdge_unlocks (by exact hlast) rfl hstate haverage hout)
  · exact State.syncEdge_accepted hon (by simp [hstate]) (SyncFollower.gap_of_lastEdge hlast hgap)
      (Device.acceptEdge_renews (by exact hlast) rfl hstate haverage hlo hhi hfull)

/-! ## The lock and the loss -/

/-- The edge that fills the ring (R94, R95). -/
theorem State.syncEdge_locks {s : State} {l : Word} (hon : s.isOnline = true) (hstate : s.dev.sync.state = .gathering)
    (hlast : s.dev.sync.lastEdge = some l) (hgap : 100 ≤ interval s.dev.now l)
    (hfull : s.dev.sync.ring.length + 1 = 2 ^ s.dev.sync.window) :
    let ring := s.dev.sync.ring ++ [interval s.dev.now l]
    let average := ring.sum / 2 ^ s.dev.sync.window
    let fresh := { s.dev.sync with ring := ring, clampNoted := false }
    let raw := tempoOfBeat (s.dev.sync.division * average)
    let estimate := clampNat 2000 30000 raw
    ∃ t, exec .syncEdge s = .next t
      ∧ t.dev.sync =
          { fresh.estimated average with
            state := .locked, lossLeft := some (4 * average), lastEdge := some s.dev.now }
      ∧ Journaled
          ((if estimate = raw then [] else [.syncClamped raw estimate s.dev.sync.division average])
            ++ [.syncLocked average estimate s.dev.sync.division s.dev.sync.window]) s t
      ∧ EventChanges [.sync] s t := by
  intro ring average fresh raw estimate
  have hentries : fresh.clampEntries average =
      if estimate = raw then [] else [.syncClamped raw estimate s.dev.sync.division average] :=
    ite_congr (propext (or_iff_left Bool.false_ne_true)) (fun _ => rfl) fun _ => rfl
  rw [← hentries]
  refine State.syncEdge_accepted hon (by simp [hstate]) (SyncFollower.gap_of_lastEdge hlast hgap) ?_
  rw [Device.acceptEdge_locks (d := s.dev.beginEvent) hlast rfl hstate hfull, Device.syncLock_eq, Device.resynced_resynced]
  rfl

/-- The end of the loss timer (R97). -/
theorem State.syncLost_outcome {s : State} (hon : s.isOnline = true) (hdue : s.dev.sync.lossLeft = some 0) :
    ∃ t, exec .syncLost s = .next t
      ∧ t.dev.sync = { s.dev.sync with state := .lost, average := none, lossLeft := none }
      ∧ Journaled [.syncLost s.dev.sync.estimate s.dev.sync.state s.dev.sync.ring.length] s t
      ∧ FaultRaised .sync s t ∧ EventChanges [.sync, .faults, .causes, .attnPulse] s t := by
  obtain ⟨hr, heng, hen, hpc⟩ := State.isOnline_spec hon
  obtain ⟨t, ht, ⟨p, q, hs⟩, hj, hc⟩ := State.event_outcome (body := Device.loseSync) s.dev.beginEvent.loseSync
    [.syncLost s.dev.sync.estimate s.dev.sync.state s.dev.sync.ring.length] [.sync, .faults, .causes, .attnPulse]
    (decide_eq_true hdue) hr hen hpc (.inl (by rw [heng]; rfl)) rfl (by simp [Device.loseSync, hen]) rfl
    (Device.drainOver_of_state (by simp [Device.loseSync, heng]))
    (by intro b; cases b <;> simp [Block.agrees, Device.loseSync])
  exact ⟨t, congrArg _ ht.symm, by rw [hs]; rfl, hj, .of_setFault (now := s.dev.now) (by rw [hs]; rfl), hc⟩

/-- A microsecond changes the clock and the follower's loss timer alone (R97). -/
theorem State.microsecond_onlyChanges (s : State) : OnlyChanges [.clock, .sync] s s.microsecond :=
  onlyChanges_of_forall fun b => by cases b <;> simp [Block.agrees, State.microsecond, Stage.tickClock]

/-- Settles O31: the lock, the loss at its moment and before it, and the microsecond of an idle machine. -/
theorem followerLocksAndLoses : Obligations.FollowerLocksAndLoses := by
  intro s hon
  refine ⟨fun l hstate hlast hgap hfull => State.syncEdge_locks hon hstate hlast hgap hfull,
    fun hdue => State.syncLost_outcome hon hdue,
    fun hnot => congrArg _ (State.event_not_due s _ _ (.inr (decide_eq_false hnot))), fun m hleft hpending hnone => ?_⟩
  have hstep : step s = .next s.microsecond := by rw [step, hpending, idle, hnone]
  refine ⟨s.microsecond, hstep, rfl, ?_, s.microsecond_onlyChanges⟩
  show s.dev.sync.microsecond = _
  rw [SyncFollower.microsecond, hleft]
  rfl

end Sys2Proof.Machine
end

section
/-! The carry of a switch (R128), and requests that change the change unit alone: UNLOCK_ZONES (R138), and a GO that
does not switch (R121, R122). -/
namespace Sys2Proof.Machine

open Sys2Proof

/-! ## The carry (R128) -/

/-- Under the override nothing is carried. -/
theorem carriedZones_of_override (sc : SceneCopy) (outgoing : List Zone) : carriedZones sc true outgoing = [] :=
  congrArg (List.map Prod.fst) List.take_nil

/-- Without the override the locked zones that do not conflict are carried, in their order, while there is room. -/
theorem carriedZones_eq (sc : SceneCopy) (outgoing : List Zone) :
    carriedZones sc false outgoing =
      ((outgoing.filter (·.lock)).filter fun z => !sc.names z.dest).take (8 - sc.zones.length) := by
  have hcandidates : (carryCandidates false outgoing).map Prod.fst = outgoing.filter (·.lock) :=
    List.filter_map.symm.trans (by rw [List.zipIdx_map_fst])
  have hsurvivors : (carrySurvivors sc (carryCandidates false outgoing)).map Prod.fst =
      (outgoing.filter (·.lock)).filter fun z => !sc.names z.dest :=
    List.filter_map.symm.trans (congrArg (List.filter fun z : Zone => !sc.names z.dest) hcandidates)
  rw [← hsurvivors]
  exact List.map_take

/-- Settles O45: `carriedZones_eq` gives the zones, their number and what each of them meets. -/
theorem carryKeepsLockedZones : Obligations.CarryKeepsLockedZones := by
  intro sc outgoing
  refine ⟨carriedZones_of_override sc outgoing, carriedZones_eq sc outgoing, fun hfits => ?_, fun z hz => ?_⟩
  · have hroom : (carriedZones sc false outgoing).length ≤ 8 - sc.zones.length := by
      rw [carriedZones_eq]
      exact List.length_take_le _ _
    rw [List.length_append]
    omega
  · rw [carriedZones_eq] at hz
    obtain ⟨hlocked, hfree⟩ := List.mem_filter.1 (List.mem_of_mem_take hz)
    obtain ⟨hmem, hlock⟩ := List.mem_filter.1 hlocked
    exact ⟨hmem, hlock, by simpa using hfree⟩

/-! ## Requests that change the change unit alone -/

section Requests

variable {s : State} {r : Request} {k : Byte} {body : Request → Device → Device} (f : ChangeUnit → ChangeUnit)
  (hon : s.isOnline = true) (hreq : s.hasRequest k r)
include hon hreq

/-- A request whose owner changes the change unit and gives no completion. -/
theorem State.request_waits (hb : body r s.dev.atRequest = s.dev.atRequest.onChange f) :
    ∃ t, (.next (s.request (fun x => decide (x = k)) body) : Host.Outcome State Fault Refusal) = .next t
      ∧ t.dev.change = f s.dev.change ∧ KeptInFlight s t ∧ Journaled [] s t ∧ EventChanges [.change, .req] s t := by
  obtain ⟨-, -, hen, -⟩ := State.isOnline_spec hon
  obtain ⟨t, ht, ⟨p, q, hs⟩, hj, hc⟩ := State.request_outcome (fits := fun x => decide (x = k))
    (s.dev.atRequest.onChange f) [] [.change, .req] hon hreq.1 (decide_eq_true hreq.2) hb hen rfl rfl (by simp)
    (by intro b; cases b <;> simp [Block.agrees, Device.atRequest, Device.beginEvent])
  refine ⟨t, congrArg _ ht.symm, by rw [hs]; rfl, ⟨by rw [hs]; rfl, ?_⟩, hj, hc⟩
  rw [hs]
  exact RequestUnit.nextSlot_completions _

/-- A request whose owner changes the change unit, hands entries, and completes it. -/
theorem State.request_changes (es : List Entry) {code : ResultCode} {value : Nat}
    (hb : body r s.dev.atRequest = ((s.dev.atRequest.onChange f).onStage (·.emitAll es)).answer r code value) :
    ∃ t, (.next (s.request (fun x => decide (x = k)) body) : Host.Outcome State Fault Refusal) = .next t
      ∧ t.dev.change = f s.dev.change ∧ Answered r code value s t ∧ Journaled es s t
      ∧ EventChanges [.change, .req] s t := by
  obtain ⟨-, -, hen, -⟩ := State.isOnline_spec hon
  have hentries : s.dev.atRequest.stage.entries = [] := hen
  obtain ⟨t, ht, ⟨p, q, rq, hs⟩, ha, hj, hc⟩ := State.request_answered (fits := fun x => decide (x = k))
    ((s.dev.atRequest.onChange f).onStage (·.emitAll es)) es [.change, .req] hon hreq.1 (decide_eq_true hreq.2) hb
    rfl rfl rfl (by simp [Stage.emitAll_eq, hentries]) rfl rfl (by simp)
    (by intro b; cases b <;> simp [Block.agrees, Stage.emitAll_eq, Device.atRequest, Device.beginEvent])
  exact ⟨t, congrArg _ ht.symm, by rw [hs]; rfl, ha, hj, hc⟩

end Requests

/-- Settles O48: the locks cleared, counted before. -/
theorem unlockClearsLocks : Obligations.UnlockClearsLocks := fun _ _ hon hreq =>
  State.request_changes ChangeUnit.unlockZones hon hreq [] rfl

/-! ## A GO that does not switch (R121, R122) -/

/-- A GO is refused in ARMED, in HELD, and in LOADING where one waits already. -/
theorem Device.goRequest_busy {d : Device} (h : (d.change.state = .loading ∧ d.change.go ≠ none) ∨
    d.change.state = .armed ∨ d.change.state = .held) (r : Request) : Device.goRequest r d = d.answer r .busy 0 := by
  unfold goRequest
  rcases h with ⟨hloading, hgo⟩ | harmed | hheld
  · rw [hloading]
    exact if_neg fun hnone => hgo (Option.isNone_iff_eq_none.1 hnone)
  · rw [harmed]
  · rw [hheld]

/-- Settles O43: by change state, a GO is refused, waits for the copy, or is armed at a boundary that it waits for. -/
theorem goRequestIsTakenByState : Obligations.GoRequestIsTakenByState := by
  intro s r hon hreq
  refine ⟨fun hidle => ?_, fun hloading hgo => ?_, fun sc hcued hcopy hboundary hruns => ?_, fun hbusy => ?_⟩
  · have hstate : s.dev.atRequest.change.state = .idle := hidle
    exact State.request_refused hon hreq (by rw [Device.goRequest, hstate])
  · have hstate : s.dev.atRequest.change.state = .loading := hloading
    refine State.request_waits
      (fun c => { c with go := some { origin := .request r.slot r.tag, waiting := true } }) hon hreq ?_
    rw [Device.goRequest, hstate]
    exact if_pos (Option.isNone_iff_eq_none.2 hgo)
  · have hstate : s.dev.atRequest.change.state = .cued := hcued
    refine State.request_waits (fun c =>
      { c with
        state := .armed, go := some { origin := .request r.slot r.tag, waiting := false }
        armed := some { boundary := sc.boundary, since := s.dev.now } }) hon hreq ?_
    rw [Device.goRequest, hstate]
    exact Device.arm_of_not_atOnce (d := s.dev.atRequest.going { origin := .request r.slot r.tag, waiting := false })
      hcopy (not_or.2 ⟨hboundary, hruns⟩)
  · exact State.request_refused hon hreq (Device.goRequest_busy (d := s.dev.atRequest) hbusy r)

end Sys2Proof.Machine
end

section
/-! HOLD and RESUME (R122 to R124). -/
namespace Sys2Proof.Machine

open Sys2Proof

/-- There is no change to hold or to resume: IDLE, LOADING and CUED (R123, R124). -/
def ChangeUnit.isEarly (c : ChangeUnit) : Prop := c.state = .idle ∨ c.state = .loading ∨ c.state = .cued

/-- A HOLD comes too early (R123). -/
theorem Device.holdRequest_early {d : Device} (h : d.change.isEarly) (r : Request) :
    Device.holdRequest r d = d.answer r .notReady 0 := by
  unfold holdRequest
  rcases h with h | h | h <;> cases d.change.copy <;> rw [h]

/-- A RESUME comes too early (R124). -/
theorem Device.resumeRequest_early {d : Device} (h : d.change.isEarly) (r : Request) :
    Device.resumeRequest r d = d.answer r .notReady 0 := by
  unfold resumeRequest
  rcases h with h | h | h <;> cases d.change.copy <;> rw [h]

/-- A HOLD in ARMED (R123). -/
theorem Device.holdRequest_armed {d : Device} {sc : SceneCopy} (hcopy : d.change.copy = some sc)
    (harmed : d.change.state = .armed) (r : Request) :
    Device.holdRequest r d = (d.holdArmed sc (.request r.slot)).answer r .ok sc.number.toNat := by
  rw [holdRequest, hcopy, harmed]

/-- A HOLD in HELD (R123). -/
theorem Device.holdRequest_held {d : Device} {sc : SceneCopy} (hcopy : d.change.copy = some sc)
    (hheld : d.change.state = .held) (r : Request) : Device.holdRequest r d = d.answer r .ok sc.number.toNat := by
  rw [holdRequest, ChangeUnit.pendingValue, hcopy, hheld]

/-- A RESUME in ARMED (R124). -/
theorem Device.resumeRequest_armed {d : Device} (harmed : d.change.state = .armed) (r : Request) :
    Device.resumeRequest r d = d.answer r .ok 0 := by
  rw [resumeRequest, harmed]

/-- A RESUME in HELD, by the loading flag (R124). -/
theorem Device.resumeRequest_held {d : Device} {sc : SceneCopy} (hcopy : d.change.copy = some sc)
    (hheld : d.change.state = .held) (r : Request) :
    Device.resumeRequest r d =
      if d.change.loadingFlag then d.answer r .busy 0 else (d.answer r .ok 0).resumeHeld sc (.request r.slot) := by
  rw [resumeRequest, hcopy, hheld]

/-- The request unit after a request that is completed and then switches (R124, R133). -/
theorem AnsweredAmong.of_answered_switchedTo {s t : State} {r : Request} {d d' : Device} {sc : SceneCopy}
    {moment : Moment} {g : GoFlight} {stamp : Stamp} {code : ResultCode} {value : Nat}
    (hreq : s.dev.req.handedRequest = some r) (h : Device.SwitchedTo s d sc moment g d')
    (hgives : d.req = s.dev.req.beginWork.give [completionOf s stamp true r.slot r.tag code value])
    (hactivation : d.change.activation = s.dev.change.activation) (hstamp : t.dev.eventStamp = d'.stampHere)
    (ht : t.dev.req = d'.req.nextSlot) :
    AnsweredAmong [] (goCompletion s t.dev.eventStamp true (some g) .ok (s.dev.change.activation + 1).toNat)
      stamp r code value s t := by
  rw [h.req, hgives, RequestUnit.give_working, RequestUnit.beginWork_working hreq, RequestUnit.give_give, hactivation,
    ← hstamp, RequestUnit.nextSlot_give hreq ⟨_, List.mem_append_left _ (List.mem_singleton_self _), rfl⟩] at ht
  rw [AnsweredAmong, ht]
  simp

section Resume

variable {s : State} {r : Request} {sc : SceneCopy} (hon : s.isOnline = true) (hreq : s.hasRequest 5#8 r)
  (hcopy : s.dev.change.copy = some sc) (hheld : s.dev.change.state = .held) (hflag : s.dev.change.loadingFlag = false)
include hcopy hheld hflag

/-- What a RESUME arms: the part with the RESUME completed and CHANGE_RESUMED handed (R124). -/
theorem State.resumeRequest_arms :
    Device.resumeRequest r s.dev.atRequest =
      ((s.dev.atRequest.answer r .ok 0).emit (.changeResumed sc.number sc.boundary (.request r.slot))).arm :=
  (Device.resumeRequest_held (d := s.dev.atRequest) hcopy hheld r).trans (if_neg (Bool.eq_false_iff.1 hflag))

include hon hreq

/-- A RESUME at a boundary that waits (R122, R124). -/
theorem State.resume_waits (hboundary : sc.boundary ≠ .now) (hruns : s.dev.tempo.transport ≠ .stopped) :
    ∃ t, exec .resume s = .next t
      ∧ t.dev.change =
          { s.dev.change with state := .armed, armed := some { boundary := sc.boundary, since := s.dev.now } }
      ∧ Answered r .ok 0 s t ∧ Journaled [.changeResumed sc.number sc.boundary (.request r.slot)] s t
      ∧ EventChanges [.change, .req] s t := by
  refine State.request_changes (body := Device.resumeRequest)
    (fun c => { c with state := .armed, armed := some { boundary := sc.boundary, since := s.dev.now } }) hon hreq
    [.changeResumed sc.number sc.boundary (.request r.slot)] ?_
  rw [State.resumeRequest_arms hcopy hheld hflag]
  exact Device.arm_of_not_atOnce hcopy (not_or.2 ⟨hboundary, hruns⟩)

/-- A RESUME that switches within itself: the RESUME is completed first, and after it the GO request of the change
(R122, R124, R133). -/
theorem State.resume_switches {g : GoFlight} (hgo : s.dev.change.go = some g)
    (hatOnce : sc.boundary = .now ∨ s.dev.tempo.transport = .stopped) :
    ∃ t, exec .resume s = .next t ∧ t.dev.change = switched s sc
      ∧ SwitchSays sc (armingMoment sc) g [.changeResumed sc.number sc.boundary (.request r.slot)] s t
      ∧ AnsweredAmong [] (goCompletion s t.dev.eventStamp true (some g) .ok (s.dev.change.activation + 1).toNat)
          s.dev.stampNow r .ok 0 s t
      ∧ EventChanges [.change, .voices, .ports, .deferrals, .tempo, .click, .req] s t := by
  obtain ⟨-, -, hen, -⟩ := State.isOnline_spec hon
  obtain ⟨hreq, hk⟩ := hreq
  set d := (s.dev.atRequest.answer r .ok 0).emit (.changeResumed sc.number sc.boundary (.request r.slot)) with hd
  have hbody : Device.resumeRequest r s.dev.atRequest = d.switchTo sc (armingMoment sc) :=
    (State.resumeRequest_arms hcopy hheld hflag).trans (Device.arm_of_atOnce (d := d) hcopy hatOnce)
  have hgives : d.req = s.dev.req.beginWork.give [completionOf s s.dev.stampNow true r.slot r.tag .ok 0] := by
    rw [← RequestUnit.beginWork_working hreq]
    exact congrArg Device.req (Device.answer_eq (s := s) (d := s.dev.atRequest) rfl rfl r .ok 0)
  have hstage : d.stage =
      { s.dev.stage with entries := [.changeResumed sc.number sc.boundary (.request r.slot)] } :=
    congrArg (fun es : List Entry => ({ s.dev.stage with
      entries := es ++ [.changeResumed sc.number sc.boundary (.request r.slot)] } : Stage)) hen
  have hsw := Device.switchTo_spec (s := s) (d := d) rfl rfl hgo sc (armingMoment sc)
  generalize d.switchTo sc (armingMoment sc) = d' at hbody hsw
  obtain ⟨t, ht, ⟨p, q, hs⟩, hj, hc⟩ := State.request_outcome (fits := fun x => decide (x = 5#8)) d' d'.stage.entries
    [.change, .voices, .ports, .deferrals, .tempo, .click, .req] hon hreq (decide_eq_true hk) hbody rfl
    (by rw [hsw.frame]; rfl) (by rw [hsw.frame]; rfl) (by simp)
    (by
      rw [hsw.frame]
      intro b
      cases b <;> simp [Block.agrees, hd, Device.emit, Device.answer, Device.atRequest, Device.beginEvent])
  refine ⟨t, congrArg _ ht.symm, ?_, ?_, ?_, hc⟩
  · rw [hs]
    exact hsw.change
  · exact SwitchSays.of_switchedTo hsw hstage rfl rfl rfl rfl (by rw [hs]) hj
  · exact AnsweredAmong.of_answered_switchedTo hreq hsw hgives rfl (by rw [hs]) (by rw [hs])

end Resume

/-- Settles O46: HOLD and RESUME by change state, a RESUME in HELD also by the loading flag and the boundary. -/
theorem holdAndResume : Obligations.HoldAndResume := by
  intro s r hon early
  refine ⟨fun sc hreq hcopy harmed => ?_, fun sc hreq hcopy hheld => ?_, fun hreq hearly => ?_,
    fun sc hreq hcopy hheld hflag hboundary hruns => State.resume_waits hon hreq hcopy hheld hflag hboundary hruns,
    fun sc g hreq hcopy hgo hheld hflag hatOnce => State.resume_switches hon hreq hcopy hheld hflag hgo hatOnce,
    fun sc hreq hcopy hheld hflag => ?_, fun hreq harmed => ?_, fun hreq hearly => ?_⟩
  · exact State.request_changes (fun c => { c with state := .held, armed := none }) hon hreq
      [.changeHeld sc.number (.request r.slot)] (Device.holdRequest_armed (d := s.dev.atRequest) hcopy harmed r)
  · exact State.request_refused hon hreq (Device.holdRequest_held (d := s.dev.atRequest) hcopy hheld r)
  · exact State.request_refused hon hreq (Device.holdRequest_early (d := s.dev.atRequest) hearly r)
  · exact State.request_refused hon hreq
      ((Device.resumeRequest_held (d := s.dev.atRequest) hcopy hheld r).trans (if_pos hflag))
  · exact State.request_refused hon hreq (Device.resumeRequest_armed (d := s.dev.atRequest) harmed r)
  · exact State.request_refused hon hreq (Device.resumeRequest_early (d := s.dev.atRequest) hearly r)

end Sys2Proof.Machine
end

section
/-! NEXT and PREV presses in IDLE (R119, R147, R151). -/
namespace Sys2Proof.Machine

open Sys2Proof

/-! ## The position stepped to (R119) -/

/-- The position that a NEXT or PREV steps to, before the ends of the list are looked at: one after or before the
position that it steps from, where none counts as -1. -/
def stepsTo (dir : Direction) (pos : Option Nat) : Int :=
  let position : Int := match pos with
    | some p => p
    | none => -1
  if dir = .next then position + 1 else position - 1

/-- A step has that position for its target, unless it lies outside the list (R119). -/
theorem stepTarget_eq (dir : Direction) (pos : Option Nat) (length : Nat) :
    stepTarget dir pos length =
      if 0 ≤ stepsTo dir pos ∧ stepsTo dir pos < length then some (stepsTo dir pos).toNat else none := by
  match dir, pos with
  | .next, none => simp [stepTarget, stepsTo, Option.filter_some]
  | .next, some p =>
    have hinside : (0 ≤ (p : Int) + 1 ∧ (p : Int) + 1 < length) ↔ p + 1 < length := by omega
    simp [stepTarget, stepsTo, Option.filter_some, hinside]
  | .prev, none => simp [stepTarget, stepsTo]
  | .prev, some 0 => simp [stepTarget, stepsTo]
  | .prev, some (p + 1) => simp [stepTarget, stepsTo, Option.filter_some]

/-- Without a pending copy the step is from the set position (R119). -/
theorem ChangeUnit.stepFrom_of_no_copy {c : ChangeUnit} (hcopy : c.copy = none) : c.stepFrom = c.setPosition := by
  rw [stepFrom, hcopy]

/-! ## The presses -/

/-- The pedal function of a direction (R142). -/
def Direction.function (dir : Direction) : PedalFunction := if dir = .next then .next else .prev

/-- The change unit after a step from IDLE: LOADING for the cue of a position, with a waiting go (R119). -/
def ChangeUnit.stepped (c : ChangeUnit) (dir : Direction) (p : Nat) : ChangeUnit :=
  { c with
    state := .loading
    load := some
      { origin := dir.cueOrigin, position := some p, scene := none, reads := 0, headRead := 0, retryAt := none }
    go := some { origin := dir.goOrigin, waiting := true }
    reads := c.reads ++ [{ target := .setListEntry p, abandoned := false }] }

/-- The cue and the go that a step begins in IDLE (R116, R119). -/
theorem ChangeUnit.cueByPosition_carryGo_of_idle {c : ChangeUnit} (hidle : c.state = .idle) (hcopy : c.copy = none)
    (dir : Direction) (p : Nat) : (c.cueByPosition dir.cueOrigin p).carryGo dir.goOrigin = c.stepped dir p := by
  rw [cueByPosition, beginCue_of_not_held (by rw [hidle]; decide), stepped, ← hcopy]
  exact if_neg (by simp)

section Press

variable {s : State} {n : Fin 8} {dir : Direction} (hon : s.isOnline = true) (hedge : EdgeDue s n dir.function .press)
  (hcopy : s.dev.change.copy = none)
include hedge

/-- A NEXT or PREV press is dispatched by its direction (R146). -/
theorem State.step_dispatch : (s.dev.edged n).dispatchPress n = (s.dev.edged n).stepPress n dir := by
  obtain ⟨hfunction, -⟩ := hedge
  unfold Device.dispatchPress
  rw [Device.edged_setup, hfunction]
  cases dir <;> rfl

include hon hcopy

/-- A NEXT or PREV press in IDLE within the set list cues the position (R119). -/
theorem State.step_cues {p : Nat} (hidle : s.dev.change.state = .idle)
    (htarget : stepTarget dir s.dev.change.setPosition s.dev.layout.setListLength = some p) :
    ∃ t, EdgeTaken s t n
        [.pedal n s.dev.pedals[n].setup.function .press .input .acted (BitVec.ofNat 32 p) 0] [.change]
      ∧ t.dev.change = s.dev.change.stepped dir p := by
  obtain ⟨-, -, hen, -⟩ := State.isOnline_spec hon
  have hmay : (s.dev.edged n).change.mayCue = true := (ChangeUnit.mayCue_iff _).2 (.inl hidle)
  have htarget' : stepTarget dir (s.dev.edged n).change.stepFrom (s.dev.edged n).layout.setListLength = some p := by
    rw [ChangeUnit.stepFrom_of_no_copy (c := (s.dev.edged n).change) hcopy]
    exact htarget
  have hstep : (s.dev.edged n).dispatchPress n =
      ((s.dev.edged n).onChange fun c => (c.cueByPosition dir.cueOrigin p).carryGo dir.goOrigin,
        .acted (BitVec.ofNat 32 p)) := by
    rw [State.step_dispatch hedge, Device.stepPress, htarget']
    exact if_pos hmay
  obtain ⟨t, ht, _, _, _, hs⟩ := State.edge_online hedge [] [.change] hon hstep hen { change := .inl (by simp) }
  refine ⟨t, ht, ?_⟩
  rw [hs]
  exact ChangeUnit.cueByPosition_carryGo_of_idle hidle hcopy dir p

/-- A NEXT or PREV press at an end of the set list (R119, R147). -/
theorem State.step_ends (htarget : stepTarget dir s.dev.change.setPosition s.dev.layout.setListLength = none) :
    ∃ t, EdgeTaken s t n
      [.setEnd dir s.dev.change.setPosition,
        .pedal n s.dev.pedals[n].setup.function .press .input .setEnd (position32 s.dev.change.setPosition) 0] [] := by
  obtain ⟨-, -, hen, -⟩ := State.isOnline_spec hon
  have hfrom : (s.dev.edged n).change.stepFrom = s.dev.change.setPosition :=
    ChangeUnit.stepFrom_of_no_copy (c := (s.dev.edged n).change) hcopy
  have htarget' : stepTarget dir s.dev.change.setPosition (s.dev.edged n).layout.setListLength = none := htarget
  have hstep : (s.dev.edged n).dispatchPress n =
      ((s.dev.edged n).emit (.setEnd dir s.dev.change.setPosition),
        { outcome := .setEnd, main := position32 s.dev.change.setPosition, second := 0 }) := by
    rw [State.step_dispatch hedge, Device.stepPress, hfrom, htarget']
  obtain ⟨t, ht, -⟩ := State.edge_online hedge [.setEnd dir s.dev.change.setPosition] [] hon hstep
    (congrArg (· ++ _) hen) {}
  exact ⟨t, ht⟩

end Press

/-- Settles O35: within the set list and at its ends. -/
theorem stepPressCuesPosition : Obligations.StepPressCuesPosition := by
  intro s n m dir hon htimer hreached hreleased hfunction hidle hcopy function position target
  have hedge : EdgeDue s n dir.function .press := ⟨hfunction, hreleased, m, htimer, hreached⟩
  refine ⟨fun hlow hhigh => ?_, fun hend => ?_⟩
  · obtain ⟨t, ⟨hexec, hpedal, hjournal, hchanges⟩, hchange⟩ :=
      State.step_cues hon hedge hcopy hidle ((stepTarget_eq _ _ _).trans (if_pos ⟨hlow, hhigh⟩))
    exact ⟨t, hexec, hpedal, hchange, hjournal, hchanges⟩
  · have hout : ¬ (0 ≤ target ∧ target < s.dev.layout.setListLength) := by omega
    exact State.step_ends hon hedge hcopy ((stepTarget_eq _ _ _).trans (if_neg hout))

end Sys2Proof.Machine
end

section
/-! The levels of the pedal inputs: what a change of one does to its pedal and its debounce timer (R143 to R145). -/
namespace Sys2Proof.Machine

open Sys2Proof

/-! ## A level and its pedal -/

section Level

variable {p : Pedal} {high : Bool} {now : Word}

/-- The level that the input already has (R144). -/
theorem Pedal.takeLevel_of_same (h : p.high = high) (running : Bool) : p.takeLevel high running now = p := if_pos h

/-- Outside ONLINE and DRAINING the level is noted (R145). -/
theorem Pedal.takeLevel_of_not_running : p.takeLevel high false now = { p with high := high } := by
  unfold Pedal.takeLevel
  split
  · next hsame => rw [← hsame]
  · rfl

/-- A level toward the state opposite the debounced one starts the timer (R144). -/
theorem Pedal.takeLevel_toward (hnew : p.high ≠ high)
    (htoward : decide (high = decide (p.setup.polarity = .inverted)) ≠ p.pressed) :
    p.takeLevel high true now = { p with high := high, timer := some (after now (p.setup.debounce * 1000)) } :=
  (if_neg hnew).trans (if_neg htoward)

/-- A level back to the debounced state stops the timer (R144). -/
theorem Pedal.takeLevel_back (hnew : p.high ≠ high)
    (hback : decide (high = decide (p.setup.polarity = .inverted)) = p.pressed) :
    p.takeLevel high true now = { p with high := high, timer := none } :=
  (if_neg hnew).trans (if_pos hback)

end Level

/-! ## The command -/

/-- The engine runs in ONLINE and DRAINING. -/
theorem EngineState.isRunning_eq (e : EngineState) : e.isRunning = decide (e = .online ∨ e = .draining) := by
  cases e <;> rfl

/-- A block that is as it was need not be named in an event's frame. -/
theorem EventChanges.of_agrees {b : Block} {bs : List Block} {s t : State} (h : EventChanges (b :: bs) s t)
    (hb : b.agrees s t) : EventChanges bs s t := by
  intro c hc
  by_cases hcb : c = b
  · exact hcb ▸ hb
  · exact h c (List.not_mem_cons_of_ne_of_not_mem hcb hc)

/-- The work of a change of a pedal input: its level, timed while the engine runs (R144, R145). -/
def Device.takePedalLevel (n : Fin 8) (high : Bool) (d : Device) : Device :=
  d.onPedal n fun p => p.takeLevel high d.engine.state.isRunning d.now

/-- Out of reset a change of a pedal input is an event. -/
theorem exec_pedalInputChange {s : State} (hr : s.resetLow = false) (n : Fin 8) (high : Bool) :
    exec (.pedalInputChange n high) s = .next (s.event true (Device.takePedalLevel n high)) :=
  if_neg (by rw [hr]; decide)

/-- A change of a pedal input out of reset is an event of that pedal alone, and hands nothing over (R144, R145). -/
theorem State.pedalInput_outcome {s : State} {n : Fin 8} {high : Bool} {p : Pedal} (hready : s.isReady = true)
    (htake : s.dev.pedals[n].takeLevel high s.dev.engine.state.isRunning s.dev.now = p) :
    ∃ t, exec (.pedalInputChange n high) s = .next t ∧ PedalBecomes n p s t ∧ Journaled [] s t
      ∧ EventChanges [.pedals] s t := by
  obtain ⟨hr, hen, hpc, hover⟩ := State.isReady_spec hready
  have htaken : s.dev.beginEvent.takePedalLevel n high = { s.dev.beginEvent with pedals := s.dev.pedals.set n p } := by
    rw [← htake]
    rfl
  obtain ⟨t, ht, ⟨_, _, hs⟩, hj, hc⟩ := State.event_outcome _ [] [.pedals] rfl hr hen hpc (.inr rfl) htaken hen rfl hover
    (by intro b; cases b <;> simp [Block.agrees])
  exact ⟨t, (exec_pedalInputChange hr n high).trans (congrArg _ ht.symm), by rw [hs, PedalBecomes], hj, hc⟩

/-- While RESET is low the pin's level is noted, and nothing else changes (log 3). -/
theorem State.pedalInput_inReset {s : State} (n : Fin 8) (high : Bool) (hlow : s.resetLow = true) :
    ∃ t, exec (.pedalInputChange n high) s = .next t
      ∧ PedalBecomes n { s.dev.pedals[n] with high := high } s t ∧ OnlyChanges [.pedals] s t := by
  refine ⟨_, if_pos hlow, rfl, onlyChanges_of_forall fun b => ?_⟩
  cases b <;> simp [Block.agrees]

/-- Settles O33: each clause is what the level does to its pedal (`takeLevel_…`) under the event of the command. -/
theorem pedalLevelsAreTimed : Obligations.PedalLevelsAreTimed := by
  intro s n high p pressedLevel runs
  have hrunning : runs → s.dev.engine.state.isRunning = true := fun h => by
    rw [EngineState.isRunning_eq]
    exact decide_eq_true h
  refine ⟨fun hready hsame => ?_, fun hready hruns hnew htoward => ?_, fun hready hruns hnew hback => ?_,
    fun hready honline hdraining => ?_, State.pedalInput_inReset n high⟩
  · obtain ⟨t, hexec, hpedal, hj, hc⟩ := State.pedalInput_outcome hready (Pedal.takeLevel_of_same hsame _)
    have hkept : Block.pedals.agrees s t := hpedal.trans (Vector.set_getElem_self n.isLt)
    exact ⟨t, hexec, hj, hc.of_agrees hkept⟩
  · exact State.pedalInput_outcome hready (by rw [hrunning hruns]; exact Pedal.takeLevel_toward hnew htoward)
  · exact State.pedalInput_outcome hready (by rw [hrunning hruns]; exact Pedal.takeLevel_back hnew hback)
  · have hstill : s.dev.engine.state.isRunning = false := by simp [EngineState.isRunning_eq, honline, hdraining]
    have hnoted : p.takeLevel high s.dev.engine.state.isRunning s.dev.now = { p with high := high } := by
      rw [hstill]
      exact Pedal.takeLevel_of_not_running
    obtain ⟨t, hexec, hpedal, -, hc⟩ := State.pedalInput_outcome hready hnoted
    exact ⟨t, hexec, hpedal, hc⟩

end Sys2Proof.Machine
end

section
/-! Every step leaves the machine between events (R157, R181, R189): whatever an event did, what ends it settles it, and
what is no event leaves what a settled machine is judged by. -/
namespace Sys2Proof.Machine

open Sys2Proof

/-! ## Events -/

/-- The end of a failed rewrite's event leaves what every event's end leaves, but for the state page (R182). -/
theorem State.settleUnpaged_isSettled (s : State) (d : Device) (m : Mem) :
    (s.settleUnpaged d m).isSettled = true := by
  have hpaged : (s.settleUnpaged d m).isSettled = (s.settle d m).isSettled := by
    unfold State.settleUnpaged State.settle
    cases hover : d.drainOver
    · rw [State.endEvent_not_over m _ hover, State.endEvent_not_over m _ hover, Device.pageSettle_eq]
      rfl
    · rw [State.endEvent_over m _ hover, State.endEvent_over m _ hover, Device.pageSettle_eq]
      rfl
  exact hpaged.trans (s.settle_isSettled d m)

/-- The rewrite of the state page is an event, whole or failed (R181, R182). -/
theorem State.rewritePage_isSettled (s : State) (image : List Byte) (bus : Bus) :
    (s.rewritePage image bus).isSettled = true := by
  unfold State.rewritePage
  split
  · exact s.settle_isSettled _ _
  · exact s.settleUnpaged_isSettled _ _

/-- A device reset leaves an OFFLINE part with nothing handed and no cause (R193). -/
theorem State.deviceReset_isSettled (s : State) (cut : ResetCut) (clock : Word) (low : Bool) :
    (s.deviceReset cut clock low).isSettled = true := rfl

section Commands

variable {s : State} (h : s.isSettled = true)
include h

/-- A command that touches no memory, whatever its work. -/
theorem State.event_isSettled {due : Bool} {body : Device → Device} : (s.event due body).isSettled = true := by
  unfold State.event
  split
  · exact h
  · exact s.settle_isSettled _ _

/-- A command with accesses of the memory port, whatever its work. -/
theorem State.portEvent_isSettled {due : Bool} {bus : Bus} {body : Device → PortRun → Device × PortRun} :
    (s.portEvent due bus body).isSettled = true := by
  unfold State.portEvent
  split
  · exact h
  · exact s.settle_isSettled _ _

/-- An arrival at the routing unit (R34 to R40). -/
theorem State.arrival_isSettled {port : Fin 4} {fits : Message → Bool} {body : Message → Device → Device} :
    (s.arrival port fits body).isSettled = true := by
  unfold State.arrival
  split
  · exact h
  · exact State.event_isSettled h

/-- A request (R176). -/
theorem State.request_isSettled {fits : Byte → Bool} {body : Request → Device → Device} :
    (s.request fits body).isSettled = true := by
  unfold State.request
  split
  · exact h
  · exact State.event_isSettled h

/-- A write to CONTROL (R186). -/
theorem State.controlWrite_isSettled (w : RegWrite) (cut : ResetCut) : (s.controlWrite w cut).isSettled = true := by
  unfold State.controlWrite
  split
  · exact h
  · split
    · exact s.deviceReset_isSettled cut _ false
    · exact State.event_isSettled h

end Commands

/-! ## Every command -/

/-- An outcome that, where it goes on, leaves the machine between events. -/
def LeavesSettled (o : Host.Outcome State Fault Refusal) : Prop := ∀ t, o = .next t → t.isSettled = true

/-- The machine goes on between events. -/
theorem LeavesSettled.next {t : State} (h : t.isSettled = true) : LeavesSettled (.next t) := by
  intro t' e
  cases e
  exact h

section Arms

variable {s : State} (h : s.isSettled = true)
include h

/-- The reads of the change unit (R12, R14). -/
theorem copyRead_leavesSettled (bus : Bus) :
    LeavesSettled (execSetListReadCompletion bus s) ∧ LeavesSettled (execSceneReadCompletion bus s) := by
  unfold execSetListReadCompletion execSceneReadCompletion
  constructor
  · split
    · exact .next (State.portEvent_isSettled h)
    · exact .next h
  · split
    · exact .next (State.portEvent_isSettled h)
    · exact .next h

/-- SLOT_VISIT (R175) and RELOAD (R172). -/
theorem slotRead_leavesSettled (bus : Bus) :
    LeavesSettled (execSlotVisit bus s) ∧ LeavesSettled (execReload bus s) := by
  unfold execSlotVisit execReload
  constructor
  · split
    · exact .next h
    · exact .next (State.portEvent_isSettled h)
  · split
    · exact .next h
    · exact .next (State.portEvent_isSettled h)

/-- SLOT_COMPLETION (R177) and COMPLETION_RETRY (R179). -/
theorem slotWrite_leavesSettled (slot : Fin 8) (bus : Bus) :
    LeavesSettled (execSlotCompletion slot bus s) ∧ LeavesSettled (execCompletionRetry slot bus s) := by
  unfold execSlotCompletion execCompletionRetry
  constructor
  · split
    · exact .next h
    · exact .next (State.portEvent_isSettled h)
  · split
    · exact .next h
    · exact .next (State.portEvent_isSettled h)

/-- STATE_PAGE_REWRITE (R181). -/
theorem statePageRewrite_leavesSettled (bus : Bus) : LeavesSettled (execStatePageRewrite bus s) := by
  unfold execStatePageRewrite
  split
  · exact .next h
  · refine .next ?_
    split
    · exact h
    · exact s.rewritePage_isSettled _ bus

/-- JOURNAL_WRITE_COMPLETION (R157). -/
theorem journalWriteCompletion_leavesSettled (bus : Bus) : LeavesSettled (execJournalWriteCompletion bus s) := by
  unfold execJournalWriteCompletion
  split
  · exact .next h
  · exact .next (State.portEvent_isSettled h)

/-- HEADER_READ_COMPLETION (R170, R187). -/
theorem headerReadCompletion_leavesSettled (bus : Bus) : LeavesSettled (execHeaderReadCompletion bus s) := by
  unfold execHeaderReadCompletion
  split
  · exact .next (State.portEvent_isSettled h)
  · exact .next (State.portEvent_isSettled h)

/-- PEDAL_INPUT_CHANGE (R144): in reset it only notes the pin's level. -/
theorem pedalInputChange_leavesSettled (pedal : Fin 8) (high : Bool) :
    LeavesSettled (execPedalInputChange pedal high s) := by
  unfold execPedalInputChange
  split
  · exact .next h
  · exact .next (State.event_isSettled h)

/-- Every command leaves the machine between events, by its kind: an event of one of the forms above, a device reset,
or no event at all. -/
theorem exec_leavesSettled (c : Instr) : LeavesSettled (exec c s) := by
  cases c with
  -- arrivals at the routing unit
  | keyDown port => exact .next (State.arrival_isSettled h)
  | keyUp port => exact .next (State.arrival_isSettled h)
  | damperArrival port => exact .next (State.arrival_isSettled h)
  | controlArrival port => exact .next (State.arrival_isSettled h)
  | programArrival port => exact .next (State.arrival_isSettled h)
  -- requests
  | cueScene => exact .next (State.request_isSettled h)
  | cuePosition => exact .next (State.request_isSettled h)
  | go => exact .next (State.request_isSettled h)
  | hold => exact .next (State.request_isSettled h)
  | resume => exact .next (State.request_isSettled h)
  | cancel => exact .next (State.request_isSettled h)
  | unlockZones => exact .next (State.request_isSettled h)
  | start => exact .next (State.request_isSettled h)
  | stop => exact .next (State.request_isSettled h)
  | locate => exact .next (State.request_isSettled h)
  | setTempo => exact .next (State.request_isSettled h)
  | applySync => exact .next (State.request_isSettled h)
  | releaseAll => exact .next (State.request_isSettled h)
  | unknownRequest => exact .next (State.request_isSettled h)
  -- accesses of the memory port
  | setListReadCompletion bus => exact (copyRead_leavesSettled h bus).1
  | sceneReadCompletion bus => exact (copyRead_leavesSettled h bus).2
  | slotVisit bus => exact (slotRead_leavesSettled h bus).1
  | reload bus => exact (slotRead_leavesSettled h bus).2
  | slotCompletion slot bus => exact (slotWrite_leavesSettled h slot bus).1
  | completionRetry slot bus => exact (slotWrite_leavesSettled h slot bus).2
  | statePageRewrite bus => exact statePageRewrite_leavesSettled h bus
  | journalWriteCompletion bus => exact journalWriteCompletion_leavesSettled h bus
  | headerReadCompletion bus => exact headerReadCompletion_leavesSettled h bus
  -- writes to CONTROL and device resets
  | controlEnableSet w => exact .next (State.controlWrite_isSettled h w _)
  | controlEnableClear w => exact .next (State.controlWrite_isSettled h w _)
  | attentionMode w => exact .next (State.controlWrite_isSettled h w _)
  | causeEnable w => exact .next (State.controlWrite_isSettled h w _)
  | controlReset w cut => exact .next (State.controlWrite_isSettled h w cut)
  | powerOn cut => exact .next (s.deviceReset_isSettled cut 0 _)
  | resetPinAssert cut => exact .next (s.deviceReset_isSettled cut _ true)
  -- what may be no event
  | pedalInputChange pedal high => exact pedalInputChange_leavesSettled h pedal high
  | ignoredRegisterWrite addr w => exact .next h
  | resetPinRelease => exact .next h
  -- every other command is an event that touches no memory
  | _ => exact .next (State.event_isSettled h)

end Arms

/-- Settles O5: every command leaves the machine between events, and a microsecond hands nothing, causes nothing and
empties no port. -/
theorem eventsEndSettled : Obligations.EventsEndSettled := fun _ _ h ht =>
  step_keeps (P := fun s => s.isSettled = true) (fun _ _ h => h) (fun _ t c h => exec_leavesSettled h c t)
    (fun _ h => h) h ht

end Sys2Proof.Machine
end

section
/-! JOURNAL_WRITE_COMPLETION in ONLINE: what the taking of the oldest entry leaves, by the branch it takes (R155, R157 to
R164). -/
namespace Sys2Proof.Machine

open Sys2Proof

/-! ## The accesses of a body (R155, R163, R164) -/

/-- The two accesses of a body into the slot of the written count (R155). -/
def Device.putBody (d : Device) (body : List Byte) (run : PortRun) : Bool × PortRun :=
  portWriteAll run (journalWrites (d.journalAddress d.jw.written) body d.jw.written)

/-- The body that an entry handed to the journal writer takes (R165, R199). -/
def Handed.body (h : Handed) : List Byte := entryBody h.entry.kindCode h.stamp h.entry.details

/-- The part after a body that was written: the count advances, and in STOP mode the watermark is tested (R155, R164). -/
def Device.counted (d : Device) (h : Handed) (consumed : Option Word) : Device :=
  let d' := d.onJournal fun jw => { jw with written := jw.written + 1 }
  match consumed with
  | none => d'
  | some c => d'.watermarkTests h.watermark (d.unread c)

/-- A body is written when both its accesses are accepted, and only then it counts (R155, R163). -/
theorem Device.writeBody_eq (d : Device) (h : Handed) (body : List Byte) (c : Option Word) (run : PortRun) :
    d.writeBody h body c run =
      ((d.putBody body run).1, if (d.putBody body run).1 then d.counted h c else d, (d.putBody body run).2) := by
  unfold Device.writeBody Device.putBody
  obtain ⟨accepted, run'⟩ := portWriteAll run (journalWrites (d.journalAddress d.jw.written) body d.jw.written)
  cases accepted <;> rfl

/-- The registers after watermark tests that did or did not call JOURNAL_LEVEL (R164). -/
def Registers.callLevel (r : Registers) (now : Word) (called : Bool) : Registers :=
  if called then r.latch now .journalLevel else r

@[simp] theorem Registers.callLevel_faults (r : Registers) (now : Word) (called : Bool) :
    (r.callLevel now called).faults = r.faults := by
  cases called <;> rfl

@[simp] theorem Registers.callLevel_causes (r : Registers) (now : Word) (called : Bool) :
    (r.callLevel now called).causes = if called then r.causes ||| 2#3 else r.causes := by
  cases called <;> rfl

/-- JOURNAL_LEVEL is latched once, whichever of two entries called it (R164, R190). -/
theorem Registers.callLevel_twice_causes (r : Registers) (now now' : Word) (called called' : Bool) :
    ((r.callLevel now called).callLevel now' called').causes =
      if called || called' then r.causes ||| 2#3 else r.causes := by
  cases called <;> cases called' <;> simp [BitVec.or_assoc]

/-- The watermark tests (R164). -/
theorem Device.watermarkTests_eq (d : Device) (watermark unread : Nat) :
    d.watermarkTests watermark unread =
      { d with
        jw := { d.jw with armed := (levelTests watermark unread d.jw.armed).1 }
        regs := d.regs.callLevel d.now (levelTests watermark unread d.jw.armed).2 } := by
  unfold Device.watermarkTests levelTests Registers.callLevel
  dsimp only
  split <;> rename_i hcalled <;> simp [hcalled] <;> rfl

/-- A body written in STOP mode, at the journal writer and the registers (R155, R164). -/
theorem Device.counted_some (d : Device) (h : Handed) (c : Word) :
    d.counted h (some c) =
      { d with
        jw := { d.jw with
          written := d.jw.written + 1
          armed := (levelTests h.watermark (d.unread c) d.jw.armed).1 }
        regs := d.regs.callLevel d.now (levelTests h.watermark (d.unread c) d.jw.armed).2 } := by
  unfold Device.counted
  dsimp only
  rw [Device.watermarkTests_eq]
  rfl

/-- One more entry written is one more unread, short of the count's wrap (R158). -/
theorem unread_succ {written consumed : Word} (h : (written - consumed).toNat < 65535) :
    (written + 1 - consumed).toNat = (written - consumed).toNat + 1 := by
  bv_omega

/-- The part after a GAP that was written in STOP mode (R160, R164). -/
def Device.behindGap (d : Device) (h : Handed) (consumed : Word) : Device :=
  (d.counted h (some consumed)).onJournal fun jw => { jw with loss := LossRun.clear }

/-! ## The entry itself, and the GAP before it (R159, R160) -/

section Branches

variable {d : Device} {h : Handed} {run : PortRun}

/-- An entry with room whose body is written (R155). -/
theorem Device.writeOwn_written {c : Option Word} (hroom : d.hasRoom c = true)
    (hput : (d.putBody h.body run).1 = true) :
    d.writeOwn h c run =
      (d.counted h c, (d.putBody h.body run).2) := by
  unfold Handed.body at hput ⊢
  rw [Device.writeOwn, if_pos hroom, Device.writeBody_eq, hput]
  rfl

/-- An entry with room whose write fails (R163). -/
theorem Device.writeOwn_failed {c : Option Word} (hroom : d.hasRoom c = true)
    (hput : (d.putBody h.body run).1 = false) :
    d.writeOwn h c run =
      (d.loseToFailure h, (d.putBody h.body run).2) := by
  unfold Handed.body at hput ⊢
  rw [Device.writeOwn, if_pos hroom, Device.writeBody_eq, hput]
  rfl

/-- An entry without room (R159). -/
theorem Device.writeOwn_full {c : Option Word} (hroom : d.hasRoom c = false) :
    d.writeOwn h c run = (d.loseEntry h false, run) := by
  rw [Device.writeOwn, if_neg (by rw [hroom]; decide)]

/-- With no loss run no GAP is due (R160). -/
theorem Device.writeEntry_of_noLoss {c : Option Word} (hloss : d.jw.loss.count = 0) :
    d.writeEntry h c run = d.writeOwn h c run := if_pos hloss

/-- A loss run whose GAP is written in STOP mode: the entry follows, with the loss run cleared (R160). -/
theorem Device.writeEntry_of_gap {c : Word} (hloss : 0 < d.jw.loss.count)
    (hput : (d.putBody (entryBody gapKindCode h.stamp d.jw.loss.details) run).1 = true) :
    d.writeEntry h (some c) run =
      (d.behindGap h c).writeOwn h (some c)
        (d.putBody (entryBody gapKindCode h.stamp d.jw.loss.details) run).2 := by
  rw [Device.writeEntry, if_neg (by omega), Device.writeBody_eq, hput]
  rfl

/-! ## The room test and the modes (R158, R161 to R163) -/

/-- A ring that the consumed count shows full (R158, R159). -/
theorem Device.roomTest_full {c : Word} (hunread : d.unread c = d.layout.capacity) :
    d.roomTest h c run = (d.loseEntry h false, run) := by
  rw [Device.roomTest, if_neg (by omega), if_pos hunread]

/-- A consumed count that is implausible (R162). -/
theorem Device.roomTest_implausible {c : Word} (hunread : d.layout.capacity < d.unread c) :
    d.roomTest h c run = ((d.loseEntry h false).setFault .journal, run) := if_pos hunread

/-- A ring with room (R158). -/
theorem Device.roomTest_room {c : Word} (hunread : d.unread c < d.layout.capacity) :
    d.roomTest h c run = d.writeEntry h (some c) run := by
  rw [Device.roomTest, if_neg (by omega), if_neg (by omega)]

/-- In OVERWRITE mode nothing is read (R161). -/
theorem Device.recordEntry_overwrite (hmode : h.mode = .overwrite) :
    d.recordEntry h run = d.writeEntry h none run := by
  rw [Device.recordEntry, hmode]

/-- In STOP mode a failed read of the consumed count loses the entry (R163). -/
theorem Device.recordEntry_of_readFailed (hmode : h.mode = .stop)
    (hread : (portRead run (rigAddress d 44) 4).1 = none) :
    d.recordEntry h run = (d.loseToFailure h, (portRead run (rigAddress d 44) 4).2) := by
  rw [Device.recordEntry, hmode]
  generalize portRead run (rigAddress d 44) 4 = read at hread
  obtain ⟨_, run'⟩ := read
  subst hread
  rfl

/-- In STOP mode the consumed count that was read decides (R158). -/
theorem Device.recordEntry_of_read {bs : List Byte} (hmode : h.mode = .stop)
    (hread : (portRead run (rigAddress d 44) 4).1 = some bs) :
    d.recordEntry h run = d.roomTest h (BitVec.ofNat 32 (natOf bs)) (portRead run (rigAddress d 44) 4).2 := by
  rw [Device.recordEntry, hmode]
  generalize portRead run (rigAddress d 44) 4 = read at hread
  obtain ⟨_, run'⟩ := read
  subst hread
  rfl

/-- The part with an entry out of the journal writer's queue, as its taking begins (R157, R164). -/
def Device.popped (d : Device) (h : Handed) : Device := d.onJournal (·.pop h)

/-- Its journal writer, for the entry at the front. -/
theorem Device.popped_jw {rest : List Handed} (hqueue : d.jw.queue = h :: rest) :
    (d.popped h).jw = { d.jw with queue := rest, armed := d.jw.armed || h.rearm } := by
  rw [Device.popped, Device.onJournal, JournalWriter.pop, hqueue]
  rfl

/-- An entry of a class outside its mask leaves the queue, with no access (R157). -/
theorem Device.takeEntry_of_unselected (hmask : h.mask &&& h.entry.cls.mask = 0) :
    d.takeEntry h run = (d.popped h, run) :=
  if_neg (by simpa [Handed.selected] using hmask)

/-- An entry of a class within its mask is recorded (R157). -/
theorem Device.takeEntry_of_selected (hmask : h.mask &&& h.entry.cls.mask ≠ 0) :
    d.takeEntry h run = (d.popped h).recordEntry h run :=
  if_pos (decide_eq_true hmask)

end Branches

/-! ## The command -/

section Command

variable {s : State} {bus : Bus} {h : Handed} {rest : List Handed} {d : Device} {run : PortRun} {q : JournalWriter}
variable (hon : s.isOnline = true) (hqueue : s.dev.jw.queue = h :: rest)
variable (htake : s.dev.takeEntry h { mem := s.mem, bus := bus } = (d, run)) (hjw : d.jw = q)
include hon hqueue htake hjw

/-- The event of a taking in ONLINE: the journal writer, the registers and the memory are as the taking leaves them
(R155, R157). -/
theorem State.journalWrite_outcome :
    ∃ t, exec (.journalWriteCompletion bus) s = .next t ∧ t.mem = run.mem ∧ t.dev.jw = q ∧ t.dev.regs = d.regs
      ∧ EventChanges [.journalCounts, .mem, .faults, .causes, .attnPulse] s t := by
  obtain ⟨hr, hstate, hen, hpc⟩ := State.isOnline_spec hon
  have hexec : exec (.journalWriteCompletion bus) s =
      .next (s.portEvent true bus fun d run => d.takeEntry h run) := by
    have he : exec (.journalWriteCompletion bus) s = execJournalWriteCompletion bus s := rfl
    rw [he, execJournalWriteCompletion, hqueue, hstate]
    rfl
  have halike : s.dev.JournalAlike s.dev.beginEvent := ⟨rfl, rfl, rfl, rfl⟩
  obtain ⟨hsame, hrun⟩ := halike.takeEntry h { mem := s.mem, bus := bus }
  obtain ⟨hrest, hsetup, -, hregs, -⟩ := s.dev.beginEvent.takeEntry_spec h { mem := s.mem, bus := bus }
  obtain ⟨e, run', he⟩ : ∃ e run', s.dev.beginEvent.takeEntry h { mem := s.mem, bus := bus } = (e, run') :=
    ⟨_, _, rfl⟩
  simp only [he, htake] at hrest hsetup hregs hsame hrun
  have hent : e.handedOver s.dev.engine.state = [] := by
    rw [Device.handedOver, hrest]
    exact (congrArg (fun es => if s.dev.engine.state.isRunning then es else []) hen).trans (ite_self _)
  have hengine : e.engine.state = .online := by rw [hrest]; exact hstate
  have hover : e.drainOver = false := Device.drainOver_of_state (by rw [hengine]; decide)
  obtain ⟨p, hs⟩ := State.portEvent_spec hr (body := fun d run => d.takeEntry h run) he hover
  refine ⟨_, hexec, by rw [hs, hrun], ?_, by rw [hs]; exact hsame.regs, onlyChanges_of_forall fun b => ?_⟩
  · rw [hs, hent, ← hjw, ← hsame.jw]
    simp [JournalWriter.hand]
  · rw [hregs] at hrest
    rw [hs, hrest]
    cases b
    case journalSetup => exact .inr hsetup
    all_goals simp [Block.agrees, bookkeeping, Device.onJournal, Device.beginEvent, hen, hpc]

/-- A taking that latches and faults nothing. -/
theorem State.journalWrite_quiet (hregs : d.regs = s.dev.regs) :
    ∃ t, exec (.journalWriteCompletion bus) s = .next t ∧ t.mem = run.mem ∧ t.dev.jw = q
      ∧ EventChanges [.journalCounts, .mem] s t := by
  obtain ⟨t, hexec, hmem, hjournal, htregs, hchanges⟩ := State.journalWrite_outcome hon hqueue htake hjw
  have hkept : ∀ b ∈ [Block.faults, .causes, .attnPulse], b.agrees s t := by simp [Block.agrees, htregs, hregs]
  refine ⟨t, hexec, hmem, hjournal, fun b hb => ?_⟩
  by_cases hquiet : b ∈ [Block.faults, .causes, .attnPulse]
  · exact hkept b hquiet
  · exact hchanges b (by simp_all [bookkeeping])

/-- A taking that sets a fault (R162, R163). -/
theorem State.journalWrite_faults {f : StickyFault} (hregs : d.regs = s.dev.regs.setFault s.dev.now f) :
    ∃ t, exec (.journalWriteCompletion bus) s = .next t ∧ t.mem = run.mem ∧ t.dev.jw = q ∧ FaultRaised f s t
      ∧ EventChanges [.journalCounts, .mem, .faults, .causes, .attnPulse] s t := by
  obtain ⟨t, hexec, hmem, hjournal, htregs, hchanges⟩ := State.journalWrite_outcome hon hqueue htake hjw
  exact ⟨t, hexec, hmem, hjournal, .of_setFault (htregs.trans hregs), hchanges⟩

/-- A taking with watermark tests (R164). -/
theorem State.journalWrite_calls {called : Bool} (hfaults : d.regs.faults = s.dev.regs.faults)
    (hcauses : d.regs.causes = if called then s.dev.regs.causes ||| 2#3 else s.dev.regs.causes) :
    ∃ t, exec (.journalWriteCompletion bus) s = .next t ∧ t.mem = run.mem ∧ t.dev.jw = q ∧ LevelCalled called s t
      ∧ EventChanges [.journalCounts, .mem, .causes, .attnPulse] s t := by
  obtain ⟨t, hexec, hmem, hjournal, htregs, hchanges⟩ := State.journalWrite_outcome hon hqueue htake hjw
  have hkept : Block.faults.agrees s t := (congrArg Registers.faults htregs).trans hfaults
  exact ⟨t, hexec, hmem, hjournal, (congrArg Registers.causes htregs).trans hcauses, hchanges.unname hkept (by decide)⟩

end Command

/-! ## Loss runs and the part behind a GAP (R159, R160) -/

/-- An entry that joins no loss run is the first of one (R159). -/
theorem LossRun.join_first {l : LossRun} {h : Handed} {memory : Bool} (hloss : l.count = 0) :
    l.join h memory =
      { count := 1, first := some h.stamp.clock, classes := l.classes ||| h.entry.cls.mask
        memory := l.memory || memory } := by
  simp [LossRun.join, hloss, Config.lossCap]

/-- The same behind a GAP (R159, R160). -/
theorem LossRun.join_clear (h : Handed) :
    LossRun.clear.join h false =
      { count := 1, first := some h.stamp.clock, classes := h.entry.cls.mask, memory := false } := by
  rw [LossRun.join_first rfl]
  simp [LossRun.clear]

/-- What it holds (R160, R164). -/
theorem Device.behindGap_eq (d : Device) (h : Handed) (c : Word) :
    d.behindGap h c =
      { d with
        jw := { d.jw with
          written := d.jw.written + 1
          armed := (levelTests h.watermark (d.unread c) d.jw.armed).1
          loss := LossRun.clear }
        regs := d.regs.callLevel d.now (levelTests h.watermark (d.unread c) d.jw.armed).2 } := by
  rw [Device.behindGap, Device.counted_some]
  rfl

/-- One slot less is free behind a GAP (R158). -/
theorem Device.behindGap_unread {d : Device} {c : Word} (hsmall : d.unread c < 65535) (h : Handed) :
    (d.behindGap h c).unread c = d.unread c + 1 := by
  rw [Device.behindGap_eq]
  exact unread_succ hsmall

/-- The accesses of the entry behind a GAP go to the next slot (R155). -/
theorem Device.behindGap_putBody (d : Device) (h : Handed) (c : Word) (body : List Byte) (run : PortRun) :
    (d.behindGap h c).putBody body run =
      portWriteAll run (journalWrites (d.journalAddress (d.jw.written + 1)) body (d.jw.written + 1)) := by
  rw [Device.putBody, Device.behindGap_eq]
  simp only [Device.journalAddress, rigAddress, Registers.callLevel]
  split <;> rfl

/-! ## The front entry, taken in ONLINE -/

section Taking

variable {s : State} {bus : Bus} {h : Handed} {rest : List Handed} {run : PortRun}
variable (hon : s.isOnline = true) (hqueue : s.dev.jw.queue = h :: rest)
include hon hqueue

/-- An entry whose turn to be written has come in OVERWRITE mode (R155, R161, R163). -/
theorem State.journalTakes_overwrite
    (hown : s.dev.takeEntry h { mem := s.mem, bus := bus } = (s.dev.popped h).writeOwn h none run) :
    let d := s.dev.popped h
    let put := d.putBody h.body run
    (put.1 = true →
      ∃ t, exec (.journalWriteCompletion bus) s = .next t ∧ t.mem = put.2.mem
        ∧ t.dev.jw = { d.jw with written := d.jw.written + 1 } ∧ EventChanges [.journalCounts, .mem] s t) ∧
    (put.1 = false →
      ∃ t, exec (.journalWriteCompletion bus) s = .next t ∧ t.mem = put.2.mem
        ∧ t.dev.jw = { d.jw with loss := d.jw.loss.join h true } ∧ FaultRaised .memory s t
        ∧ EventChanges [.journalCounts, .mem, .faults, .causes, .attnPulse] s t) :=
  ⟨fun hput => State.journalWrite_quiet hon hqueue (hown.trans (Device.writeOwn_written rfl hput)) rfl rfl,
    fun hput => State.journalWrite_faults hon hqueue (hown.trans (Device.writeOwn_failed rfl hput)) rfl rfl⟩

/-- An entry whose turn to be written has come in STOP mode, with no loss run (R155, R163, R164). -/
theorem State.journalTakes_room {c : Word} (hroom : (s.dev.popped h).unread c < s.dev.layout.capacity)
    (hown : s.dev.takeEntry h { mem := s.mem, bus := bus } = (s.dev.popped h).writeOwn h (some c) run) :
    let d := s.dev.popped h
    let put := d.putBody h.body run
    let level := levelTests h.watermark (d.unread c) d.jw.armed
    (put.1 = true →
      ∃ t, exec (.journalWriteCompletion bus) s = .next t ∧ t.mem = put.2.mem
        ∧ t.dev.jw = { d.jw with written := d.jw.written + 1, armed := level.1 } ∧ LevelCalled level.2 s t
        ∧ EventChanges [.journalCounts, .mem, .causes, .attnPulse] s t) ∧
    (put.1 = false →
      ∃ t, exec (.journalWriteCompletion bus) s = .next t ∧ t.mem = put.2.mem
        ∧ t.dev.jw = { d.jw with loss := d.jw.loss.join h true } ∧ FaultRaised .memory s t
        ∧ EventChanges [.journalCounts, .mem, .faults, .causes, .attnPulse] s t) := by
  have hfree : (s.dev.popped h).hasRoom (some c) = true := decide_eq_true hroom
  refine ⟨fun hput => ?_, fun hput =>
    State.journalWrite_faults hon hqueue (hown.trans (Device.writeOwn_failed hfree hput)) rfl rfl⟩
  have htake := hown.trans (Device.writeOwn_written hfree hput)
  rw [Device.counted_some] at htake
  exact State.journalWrite_calls hon hqueue htake rfl (Registers.callLevel_faults _ _ _)
    (Registers.callLevel_causes _ _ _)

/-- An entry behind the GAP that carries a loss run (R159, R160): written, or the first of a new run. -/
theorem State.journalTakes_behindGap {c : Word} (hsmall : (s.dev.popped h).unread c < 65535)
    (hgap : s.dev.takeEntry h { mem := s.mem, bus := bus } =
      ((s.dev.popped h).behindGap h c).writeOwn h (some c) run) :
    let d := s.dev.popped h
    let put := (d.behindGap h c).putBody h.body run
    let level := levelTests h.watermark (d.unread c) d.jw.armed
    let level' := levelTests h.watermark (d.unread c + 1) level.1
    (d.unread c + 1 < s.dev.layout.capacity → put.1 = true →
      ∃ t, exec (.journalWriteCompletion bus) s = .next t ∧ t.mem = put.2.mem
        ∧ t.dev.jw = { d.jw with written := d.jw.written + 2, armed := level'.1, loss := LossRun.clear }
        ∧ LevelCalled (level.2 || level'.2) s t ∧ EventChanges [.journalCounts, .mem, .causes, .attnPulse] s t) ∧
    (d.unread c + 1 = s.dev.layout.capacity →
      ∃ t, exec (.journalWriteCompletion bus) s = .next t ∧ t.mem = run.mem
        ∧ t.dev.jw =
            { d.jw with
              written := d.jw.written + 1, armed := level.1
              loss := { count := 1, first := some h.stamp.clock, classes := h.entry.cls.mask, memory := false } }
        ∧ LevelCalled level.2 s t ∧ EventChanges [.journalCounts, .mem, .causes, .attnPulse] s t) := by
  intro d put level level'
  have hunread : (d.behindGap h c).unread c = d.unread c + 1 := Device.behindGap_unread hsmall h
  have hlayout : (d.behindGap h c).layout = s.dev.layout := by rw [Device.behindGap_eq]; rfl
  constructor
  · intro hroom hput
    have hfree : (d.behindGap h c).hasRoom (some c) = true :=
      decide_eq_true (by rw [hunread, hlayout]; exact hroom)
    have htake := hgap.trans (Device.writeOwn_written hfree hput)
    rw [Device.counted_some, hunread] at htake
    refine State.journalWrite_calls hon hqueue htake ?_ ?_ ?_
    · rw [Device.behindGap_eq]
      simp [BitVec.add_assoc, level', level, d]
    · rw [Device.behindGap_eq, Registers.callLevel_faults, Registers.callLevel_faults]
      rfl
    · rw [Device.behindGap_eq]
      exact Registers.callLevel_twice_causes _ _ _ level.2 level'.2
  · intro hfull
    have hnone : (d.behindGap h c).hasRoom (some c) = false :=
      decide_eq_false (by rw [hunread, hlayout]; omega)
    have htake := hgap.trans (Device.writeOwn_full hnone)
    rw [Device.behindGap_eq] at htake
    refine State.journalWrite_calls hon hqueue htake ?_ (Registers.callLevel_faults _ _ _)
      (Registers.callLevel_causes _ _ _)
    rw [← LossRun.join_clear]
    rfl

end Taking

/-- Settles O53: each clause is the branch of the taking that it names, as an event of ONLINE. -/
theorem journalTakesEntries : Obligations.JournalTakesEntries := by
  intro s bus h rest hon hqueue hcap jw own gap slot put w first faulty
  have hjw : (s.dev.popped h).jw = jw := Device.popped_jw hqueue
  clear_value jw
  subst hjw
  refine ⟨fun hmask => ?_, fun hmask => ⟨fun hmode hloss => ?_, fun hmode => ⟨fun hread => ?_, fun bs hread => ?_⟩⟩⟩
  · obtain ⟨t, hexec, hmem, hjournal, hchanges⟩ :=
      State.journalWrite_quiet (bus := bus) hon hqueue (Device.takeEntry_of_unselected hmask) rfl rfl
    have hkept : Block.mem.agrees s t := hmem
    exact ⟨t, hexec, hjournal, hchanges.unname hkept (by decide)⟩
  · have hown : s.dev.takeEntry h { mem := s.mem, bus := bus } =
        (s.dev.popped h).writeOwn h none { mem := s.mem, bus := bus } :=
      (Device.takeEntry_of_selected hmask).trans
        ((Device.recordEntry_overwrite hmode).trans (Device.writeEntry_of_noLoss hloss))
    have hrun : (s.dev.popped h).jw.loss.join h true =
        { first with classes := s.dev.jw.loss.classes ||| first.classes, memory := true } := by
      rw [LossRun.join_first (show (s.dev.popped h).jw.loss.count = 0 from hloss), Bool.or_true]
      rfl
    rw [← hrun]
    exact State.journalTakes_overwrite hon hqueue hown
  · exact State.journalWrite_faults hon hqueue
      ((Device.takeEntry_of_selected hmask).trans (Device.recordEntry_of_readFailed hmode hread)) rfl rfl
  · intro unread level level'
    have htest := (Device.takeEntry_of_selected hmask).trans
      (Device.recordEntry_of_read (d := s.dev.popped h) hmode hread)
    have hwrite (hroom : unread < s.dev.layout.capacity) :=
      htest.trans (Device.roomTest_room (d := s.dev.popped h) hroom)
    refine ⟨fun hfull => ?_, fun hbeyond => ?_, fun hroom hloss => ?_, fun hroom hloss hgap => ?_⟩
    · exact State.journalWrite_quiet hon hqueue (htest.trans (Device.roomTest_full hfull)) rfl rfl
    · exact State.journalWrite_faults hon hqueue (htest.trans (Device.roomTest_implausible hbeyond)) rfl rfl
    · exact State.journalTakes_room hon hqueue hroom
        ((hwrite hroom).trans (Device.writeEntry_of_noLoss (d := s.dev.popped h) hloss))
    · have hbehind := (hwrite hroom).trans (Device.writeEntry_of_gap (d := s.dev.popped h) hloss hgap)
      obtain ⟨hwritten, hlost⟩ := State.journalTakes_behindGap hon hqueue (hroom.trans_le hcap) hbehind
      rw [Device.behindGap_putBody] at hwritten
      exact ⟨hwritten, hlost⟩

end Sys2Proof.Machine
end

section
/-! Every step keeps the shared memory in its canonical form (R168, R194): each operation of the memory port keeps it,
and what is no operation of the port leaves the memory alone. -/
namespace Sys2Proof.Machine

open Sys2Proof

/-! ## Operations of the memory port -/

/-- Work on the memory port that keeps a memory in its canonical form. -/
def KeepsForm {α : Type} (work : PortRun → α × PortRun) : Prop :=
  ∀ run, Mem.wf run.mem = true → Mem.wf (work run).2.mem = true

/-- A write access of which a failure leaves nothing behind (R179). -/
theorem portWriteWhole_wf {r : PortRun} (h : Mem.wf r.mem = true) (addr : Nat) (bytes : List Byte) :
    Mem.wf (portWriteWhole r addr bytes).2.mem = true := by
  unfold portWriteWhole
  exact portWrite_wf (by exact h) addr bytes

/-- Reads in order, up to the first that fails (R14). -/
theorem readParts_keepsForm (d : Device) (parts : List (Nat × Nat)) : KeepsForm (readParts d parts) := by
  induction parts with
  | nil => exact fun _ h => h
  | cons part parts ih =>
    intro run h
    have hfirst := portRead_wf h (rigAddress d part.1) part.2
    unfold readParts
    split
    · next hread => rwa [hread] at hfirst
    · next hread =>
      rw [hread] at hfirst
      have hrest := ih _ hfirst
      split <;> next hparts => rwa [hparts] at hrest

/-! ## The work of the commands that make accesses -/

section Work

variable (d : Device)

/-- A set list read (R12). -/
theorem Device.setListRead_keepsForm (rd : CopyRead) (p : Nat) : KeepsForm (d.setListRead rd p) := by
  intro run h
  have hread := readParts_keepsForm d [(setListOffset d p, 2)] run h
  unfold setListRead
  dsimp only
  split <;> next hparts _ => rwa [hparts] at hread

/-- A scene read (R14). -/
theorem Device.sceneRead_keepsForm (rd : CopyRead) (n : BitVec 7) : KeepsForm (d.sceneRead rd n) := by
  intro run h
  have hread := readParts_keepsForm d (sceneParts (sceneOffset d n)) run h
  unfold sceneRead
  dsimp only
  split <;> next hparts _ => rwa [hparts] at hread

/-- The taking of a slot, of which a failed write leaves nothing behind (R175, R179). -/
theorem Device.takeSlot_keepsForm (slot : Fin 8) (bs : List Byte) : KeepsForm (d.takeSlot slot bs) := by
  intro run h
  have hwrite := portWriteWhole_wf h (rigAddress d (slotOffset d slot)) [2#8]
  unfold takeSlot
  split <;> next hwritten => rwa [hwritten] at hwrite

/-- The scan's visit to a slot (R175). -/
theorem Device.visitSlot_keepsForm (slot : Fin 8) : KeepsForm (d.visitSlot slot) := by
  intro run h
  have hread := portRead_wf h (rigAddress d (slotOffset d slot)) 20
  unfold visitSlot
  split
  · next hnone => rwa [hnone] at hread
  · next hsome =>
    rw [hsome] at hread
    dsimp only
    split
    · exact hread
    · exact takeSlot_keepsForm _ slot _ _ hread

/-- A RELOAD as the scan took it (R172). -/
theorem Device.carryOutReload_keepsForm (r : Request) : KeepsForm (d.carryOutReload r) := by
  intro run h
  unfold carryOutReload
  dsimp only
  split
  · unfold reloadRequest
    split
    · exact h
    · next sec _ =>
      have hread := readParts_keepsForm (d.onReq RequestUnit.beginWork) (sectionParts sec) run h
      split <;> next hparts => rwa [hparts] at hread
  · exact h

/-- The writes of a completion (R177). -/
theorem Device.writeCompletion_keepsForm (c : Completion) : KeepsForm (d.writeCompletion c) := by
  intro run h
  have hwrite := portWriteAll_wf h (completionWrites c)
  unfold writeCompletion
  dsimp only
  split <;> next hwritten => rwa [hwritten] at hwrite

/-- The retry of a completion (R179). -/
theorem Device.retryCompletion_keepsForm (r : Retry) : KeepsForm (d.retryCompletion r) := by
  intro run h
  have hwrite := portWriteAll_wf h (completionWrites r.completion)
  unfold retryCompletion
  dsimp only
  split <;> next hwritten => rwa [hwritten] at hwrite

/-- The header read of an abandoned LOADING (R187). -/
theorem Device.abandonedRead_keepsForm : KeepsForm d.abandonedRead := by
  intro run h
  have hread := portRead_wf h (rigAddress d 0) Config.headerBytes
  unfold abandonedRead
  dsimp only
  split <;> next hpart => rwa [hpart] at hread

/-- The reads of LOADING: the header, and the state page behind it (R170, R187). -/
theorem Device.loadHeader_keepsForm : KeepsForm d.loadHeader := by
  intro run h
  have hread := portRead_wf h (rigAddress d 0) Config.headerBytes
  unfold loadHeader
  split
  · next hnone => rwa [hnone] at hread
  · next header _ hsome =>
    rw [hsome] at hread
    split
    · exact hread
    · have hpage := portRead_wf hread (rigAddress d (layoutOf header).statePage) Config.pageBytes
      unfold loadPage
      split <;> next hpart => rwa [hpart] at hpage

end Work

/-! ## The kinds of command -/

section Commands

variable {s : State} (h : Mem.wf s.mem = true)
include h

/-- A command with accesses of the memory port, whose work keeps the form. -/
theorem State.portEvent_wf {due : Bool} {bus : Bus} {body : Device → PortRun → Device × PortRun}
    (hbody : ∀ d, KeepsForm (body d)) : Mem.wf (s.portEvent due bus body).mem = true := by
  unfold State.portEvent
  split
  · exact h
  · exact State.endEvent_wf (hbody _ _ h) _

/-- An arrival at the routing unit (R34 to R40). -/
theorem State.arrival_wf (port : Fin 4) (fits : Message → Bool) (body : Message → Device → Device) :
    Mem.wf (s.arrival port fits body).mem = true := by
  unfold State.arrival
  split
  · exact h
  · exact State.event_wf h _ _

/-- A request (R176). -/
theorem State.request_wf (fits : Byte → Bool) (body : Request → Device → Device) :
    Mem.wf (s.request fits body).mem = true := by
  unfold State.request
  split
  · exact h
  · exact State.event_wf h _ _

/-- A device reset, whatever it cuts short (R193). -/
theorem State.deviceReset_wf (cut : ResetCut) (clock : Word) (low : Bool) :
    Mem.wf (s.deviceReset cut clock low).mem = true := cutShort_wf h s.dev cut

/-- A write to CONTROL (R186). -/
theorem State.controlWrite_wf (w : RegWrite) (cut : ResetCut) : Mem.wf (s.controlWrite w cut).mem = true := by
  unfold State.controlWrite
  split
  · exact h
  · split
    · exact State.deviceReset_wf h cut _ false
    · exact State.event_wf h _ _

/-- The rewrite of the state page, whole or failed (R181, R182). -/
theorem State.rewritePage_wf (image : List Byte) (bus : Bus) : Mem.wf (s.rewritePage image bus).mem = true := by
  have hwrite := portWriteAll_wf (r := { mem := s.mem, bus := bus }) h (pageWrites s.dev.pageAddress image)
  unfold State.rewritePage
  split <;> next hwritten => rw [hwritten] at hwrite; exact State.endEvent_wf hwrite _

end Commands

/-! ## Every command -/

/-- An outcome that, where it goes on, leaves the memory in its canonical form. -/
def LeavesForm (o : Host.Outcome State Fault Refusal) : Prop := ∀ t, o = .next t → Mem.wf t.mem = true

/-- The machine goes on with its memory in canonical form. -/
theorem LeavesForm.next {t : State} (h : Mem.wf t.mem = true) : LeavesForm (.next t) := by
  intro t' e
  cases e
  exact h

section Arms

variable {s : State} (h : Mem.wf s.mem = true)
include h

/-- The reads of the change unit (R12, R14). -/
theorem copyRead_leavesForm (bus : Bus) :
    LeavesForm (execSetListReadCompletion bus s) ∧ LeavesForm (execSceneReadCompletion bus s) := by
  unfold execSetListReadCompletion execSceneReadCompletion
  constructor
  · split
    · exact .next (State.portEvent_wf h fun d => d.setListRead_keepsForm _ _)
    · exact .next h
  · split
    · exact .next (State.portEvent_wf h fun d => d.sceneRead_keepsForm _ _)
    · exact .next h

/-- SLOT_VISIT (R175) and RELOAD (R172). -/
theorem slotRead_leavesForm (bus : Bus) : LeavesForm (execSlotVisit bus s) ∧ LeavesForm (execReload bus s) := by
  unfold execSlotVisit execReload
  constructor
  · split
    · exact .next h
    · exact .next (State.portEvent_wf h fun d => d.visitSlot_keepsForm _)
  · split
    · exact .next h
    · exact .next (State.portEvent_wf h fun d => d.carryOutReload_keepsForm _)

/-- SLOT_COMPLETION (R177) and COMPLETION_RETRY (R179). -/
theorem slotWrite_leavesForm (slot : Fin 8) (bus : Bus) :
    LeavesForm (execSlotCompletion slot bus s) ∧ LeavesForm (execCompletionRetry slot bus s) := by
  unfold execSlotCompletion execCompletionRetry
  constructor
  · split
    · exact .next h
    · exact .next (State.portEvent_wf h fun d => d.writeCompletion_keepsForm _)
  · split
    · exact .next h
    · exact .next (State.portEvent_wf h fun d => d.retryCompletion_keepsForm _)

/-- STATE_PAGE_REWRITE (R181). -/
theorem statePageRewrite_leavesForm (bus : Bus) : LeavesForm (execStatePageRewrite bus s) := by
  unfold execStatePageRewrite
  split
  · exact .next h
  · refine .next ?_
    split
    · exact h
    · exact State.rewritePage_wf h _ bus

/-- JOURNAL_WRITE_COMPLETION (R157). -/
theorem journalWriteCompletion_leavesForm (bus : Bus) : LeavesForm (execJournalWriteCompletion bus s) := by
  unfold execJournalWriteCompletion
  split
  · exact .next h
  · exact .next (State.portEvent_wf h fun _ _ => takeEntry_wf)

/-- HEADER_READ_COMPLETION (R170, R187). -/
theorem headerReadCompletion_leavesForm (bus : Bus) : LeavesForm (execHeaderReadCompletion bus s) := by
  unfold execHeaderReadCompletion
  split
  · exact .next (State.portEvent_wf h Device.abandonedRead_keepsForm)
  · exact .next (State.portEvent_wf h Device.loadHeader_keepsForm)

/-- PEDAL_INPUT_CHANGE (R144): in reset it only notes the pin's level. -/
theorem pedalInputChange_leavesForm (pedal : Fin 8) (high : Bool) : LeavesForm (execPedalInputChange pedal high s) := by
  unfold execPedalInputChange
  split
  · exact .next h
  · exact .next (State.event_wf h _ _)

/-- Every command leaves the memory in its canonical form, by its kind: an operation of the memory port, a device reset
with the accesses that it cuts short, or an event that stores nothing but the entries of a drain's end. -/
theorem exec_leavesForm (c : Instr) : LeavesForm (exec c s) := by
  cases c with
  -- accesses of the memory port
  | setListReadCompletion bus => exact (copyRead_leavesForm h bus).1
  | sceneReadCompletion bus => exact (copyRead_leavesForm h bus).2
  | slotVisit bus => exact (slotRead_leavesForm h bus).1
  | reload bus => exact (slotRead_leavesForm h bus).2
  | slotCompletion slot bus => exact (slotWrite_leavesForm h slot bus).1
  | completionRetry slot bus => exact (slotWrite_leavesForm h slot bus).2
  | statePageRewrite bus => exact statePageRewrite_leavesForm h bus
  | journalWriteCompletion bus => exact journalWriteCompletion_leavesForm h bus
  | headerReadCompletion bus => exact headerReadCompletion_leavesForm h bus
  -- writes to CONTROL and device resets
  | controlEnableSet w => exact .next (State.controlWrite_wf h w _)
  | controlEnableClear w => exact .next (State.controlWrite_wf h w _)
  | attentionMode w => exact .next (State.controlWrite_wf h w _)
  | causeEnable w => exact .next (State.controlWrite_wf h w _)
  | controlReset w cut => exact .next (State.controlWrite_wf h w cut)
  | powerOn cut => exact .next (State.deviceReset_wf h cut 0 _)
  | resetPinAssert cut => exact .next (State.deviceReset_wf h cut _ true)
  -- arrivals at the routing unit
  | keyDown port => exact .next (State.arrival_wf h port _ _)
  | keyUp port => exact .next (State.arrival_wf h port _ _)
  | damperArrival port => exact .next (State.arrival_wf h port _ _)
  | controlArrival port => exact .next (State.arrival_wf h port _ _)
  | programArrival port => exact .next (State.arrival_wf h port _ _)
  -- requests
  | cueScene => exact .next (State.request_wf h _ _)
  | cuePosition => exact .next (State.request_wf h _ _)
  | go => exact .next (State.request_wf h _ _)
  | hold => exact .next (State.request_wf h _ _)
  | resume => exact .next (State.request_wf h _ _)
  | cancel => exact .next (State.request_wf h _ _)
  | unlockZones => exact .next (State.request_wf h _ _)
  | start => exact .next (State.request_wf h _ _)
  | stop => exact .next (State.request_wf h _ _)
  | locate => exact .next (State.request_wf h _ _)
  | setTempo => exact .next (State.request_wf h _ _)
  | applySync => exact .next (State.request_wf h _ _)
  | releaseAll => exact .next (State.request_wf h _ _)
  | unknownRequest => exact .next (State.request_wf h _ _)
  -- what may be no event
  | pedalInputChange pedal high => exact pedalInputChange_leavesForm h pedal high
  | ignoredRegisterWrite addr w => exact .next h
  | resetPinRelease => exact .next h
  -- every other command is an event that touches no memory
  | _ => exact .next (State.event_wf h _ _)

end Arms

/-- Settles O4: every command keeps the canonical form, and a microsecond touches no memory. -/
theorem memoryStaysCanonical : Obligations.MemoryStaysCanonical := fun _ _ h ht =>
  step_keeps (P := fun s => Mem.wf s.mem = true) (fun _ _ h => h) (fun _ t c h => exec_leavesForm h c t)
    (fun _ h => h) h ht

end Sys2Proof.Machine
end

section
/-! Writes on a quiet bus: where their bytes land, and what they leave (R168, R194); a completion's bytes in its slot
(R177, R196). -/
namespace Sys2Proof.Machine

open Sys2Proof

/-! ## Bytes of a number (R194) -/

/-- The byte at an index of a number's bytes. -/
theorem bytesOf_getElem? (k n : Nat) {j : Nat} (hj : j < k) : (bytesOf k n)[j]? = some (byteOf (n / 256 ^ j)) := by
  induction k generalizing n j with
  | zero => omega
  | succ k ih =>
    cases j with
    | zero => simp [bytesOf]
    | succ j =>
      have hpow : n / 256 ^ (j + 1) = n / 256 / 256 ^ j := by rw [Nat.div_div_eq_div_mul, Nat.pow_succ']
      rw [hpow]
      exact ih (n / 256) (by omega)

/-! ## Bytes stored below the top of the bus -/

/-- A byte stored is read back at its place. -/
theorem memRead_memWriteBytes_inside {m : Mem} (h : Mem.wf m = true) {a : Nat} {bs : List Byte}
    (hfit : a + bs.length ≤ 4294967296) {j : Nat} {b : Byte} (hb : bs[j]? = some b) :
    memRead (memWriteBytes m a bs) (a + j) = b := by
  induction bs generalizing m a j with
  | nil => simp at hb
  | cons c bs ih =>
    rw [List.length_cons] at hfit
    have haddress : busAddress a = a := Nat.mod_eq_of_lt (by omega)
    rw [memWriteBytes, haddress]
    cases j with
    | zero =>
      obtain rfl : c = b := by simpa using hb
      rw [memRead_memWriteBytes_other (memWrite_wf h a c) bs fun j hj => by unfold busAddress; omega]
      exact memRead_memWrite_same h a c
    | succ j =>
      rw [← Nat.add_assoc, Nat.add_right_comm]
      exact ih (memWrite_wf h a c) (by omega) (by simpa using hb)

/-- An address before or behind the bytes stored reads as before. -/
theorem memRead_memWriteBytes_outside {m : Mem} (h : Mem.wf m = true) {a x : Nat} {bs : List Byte}
    (hfit : a + bs.length ≤ 4294967296) (hx : x < a ∨ a + bs.length ≤ x) :
    memRead (memWriteBytes m a bs) x = memRead m x :=
  memRead_memWriteBytes_other h bs fun j hj => by unfold busAddress; omega

/-! ## Write accesses on a quiet bus -/

/-- The memory after write accesses that are all accepted, with no store of the host between them. -/
def storeAll (m : Mem) (ws : List (Nat × List Byte)) : Mem := ws.foldl (fun m w => memWriteBytes m w.1 w.2) m

/-- On a quiet bus every access is accepted and lands whole (R168). -/
theorem portWriteAll_quiet (m : Mem) (ws : List (Nat × List Byte)) :
    portWriteAll { mem := m, bus := [] } ws = (true, { mem := storeAll m ws, bus := [] }) := by
  induction ws generalizing m with
  | nil => rfl
  | cons w ws ih => exact ih (memWriteBytes m w.1 w.2)

/-- Two write accesses of which one ends before the other begins. -/
def Apart (v w : Nat × List Byte) : Prop := v.1 + v.2.length ≤ w.1 ∨ w.1 + w.2.length ≤ v.1

section StoreAll

variable {m : Mem} (h : Mem.wf m = true) {ws : List (Nat × List Byte)}
  (hfit : ∀ w ∈ ws, w.1 + w.2.length ≤ 4294967296)
include h hfit

/-- An address that no access stores to reads as before. -/
theorem memRead_storeAll_outside {x : Nat} (hx : ∀ w ∈ ws, x < w.1 ∨ w.1 + w.2.length ≤ x) :
    memRead (storeAll m ws) x = memRead m x := by
  induction ws generalizing m with
  | nil => rfl
  | cons w ws ih =>
    rw [List.forall_mem_cons] at hfit hx
    exact (ih (memWriteBytes_wf h w.1 w.2) hfit.2 hx.2).trans (memRead_memWriteBytes_outside h hfit.1 hx.1)

/-- Of accesses that are apart, each one's bytes stand in the memory after all. -/
theorem memRead_storeAll_inside (hapart : ws.Pairwise Apart) {w : Nat × List Byte} (hw : w ∈ ws) {j : Nat} {b : Byte}
    (hb : w.2[j]? = some b) : memRead (storeAll m ws) (w.1 + j) = b := by
  induction ws generalizing m with
  | nil => simp at hw
  | cons v ws ih =>
    rw [List.forall_mem_cons] at hfit
    rw [List.pairwise_cons] at hapart
    have hv := memWriteBytes_wf h v.1 v.2
    rcases List.mem_cons.1 hw with rfl | hw
    · have hj : j < w.2.length := (List.getElem?_eq_some_iff.1 hb).1
      refine (memRead_storeAll_outside hv hfit.2 fun u hu => ?_).trans (memRead_memWriteBytes_inside h hfit.1 hb)
      have := hapart.1 u hu
      unfold Apart at this
      omega
    · exact ih hv hfit.2 hapart.2 hw

end StoreAll

/-! ## The completion (R177, R196) -/

/-- The accesses of a completion are apart (R196). -/
theorem completionWrites_apart (c : Completion) : (completionWrites c).Pairwise Apart := by
  simp [completionWrites, Apart, bytesOf_length]

/-- The accesses of a completion lie within the 32 bytes of its slot (R196). -/
theorem completionWrites_within (c : Completion) :
    ∀ w ∈ completionWrites c, c.addr ≤ w.1 ∧ w.1 + w.2.length ≤ c.addr + 32 := by
  simp [completionWrites, bytesOf_length]

/-- Settles O41: each field is one access of the completion, and its accesses are apart. -/
theorem completionBytesLand : Obligations.CompletionBytesLand := by
  intro m c h htop run
  have hrun : run = _ := portWriteAll_quiet m (completionWrites c)
  clear_value run
  subst hrun
  dsimp only
  have hfit : ∀ w ∈ completionWrites c, w.1 + w.2.length ≤ 4294967296 := fun w hw =>
    (completionWrites_within c w hw).2.trans htop
  have lands {w : Nat × List Byte} (hw : w ∈ completionWrites c) {j : Nat} {b : Byte} (hb : w.2[j]? = some b) :=
    memRead_storeAll_inside h hfit (completionWrites_apart c) hw hb
  have code_lands := @lands (c.addr + 2, bytesOf 1 c.code.code) (by simp [completionWrites])
  have tag_lands := @lands (c.addr + 4, bytesOf 4 c.tag.toNat) (by simp [completionWrites])
  have value_lands := @lands (c.addr + 20, bytesOf 4 c.value.toNat) (by simp [completionWrites])
  have stamp_lands := @lands (c.addr + 24, bytesOf 4 c.stamp.clock.toNat ++ bytesOf 2 c.stamp.pos.bar ++
    bytesOf 1 c.stamp.pos.beat ++ bytesOf 1 c.stamp.pos.tick) (by simp [completionWrites])
  have done_lands := @lands (c.addr, [3#8]) (by simp [completionWrites])
  refine ⟨rfl, done_lands (j := 0) rfl, code_lands (j := 0) rfl, fun k hk => ⟨?_, ?_, ?_⟩, stamp_lands (j := 4) rfl,
    stamp_lands (j := 5) rfl, stamp_lands (j := 6) rfl, stamp_lands (j := 7) rfl, fun a ha => ?_⟩
  · exact tag_lands (bytesOf_getElem? 4 _ hk)
  · exact value_lands (bytesOf_getElem? 4 _ hk)
  · refine stamp_lands ?_
    rw [List.append_assoc, List.append_assoc, List.getElem?_append_left (by rwa [bytesOf_length])]
    exact bytesOf_getElem? 4 _ hk
  · refine memRead_storeAll_outside h hfit ?_
    simp [completionWrites, bytesOf_length]
    omega

end Sys2Proof.Machine
end

section
/-! The image of the state page, field by field (R180, R198). -/
namespace Sys2Proof.Machine

open Sys2Proof

/-! ## Fields of a record (R194) -/

/-- The number that a number's bytes spell. -/
theorem natOf_bytesOf (k n : Nat) : natOf (bytesOf k n) = n % 256 ^ k := by
  induction k generalizing n with
  | zero => simp [bytesOf, natOf, Nat.mod_one]
  | succ k ih =>
    rw [bytesOf, natOf, ih, Nat.pow_succ', Nat.mod_mul]
    rfl

/-- The field that begins a record. -/
theorem fieldAt_head (k n : Nat) (rest : List Byte) : fieldAt (bytesOf k n ++ rest) 0 k = n % 256 ^ k := by
  rw [fieldAt, List.drop_zero, List.take_left' (bytesOf_length k n), natOf_bytesOf]

/-- A field behind the bytes that a record begins with. -/
theorem fieldAt_skip (front rest : List Byte) (off k : Nat) :
    fieldAt (front ++ rest) (front.length + off) k = fieldAt rest off k := by
  rw [fieldAt, List.drop_length_add_append, fieldAt]

/-- A one-byte field is the byte at its offset. -/
theorem fieldAt_byte {rec : List Byte} {off : Nat} {b : Byte} (h : rec[off]? = some b) :
    fieldAt rec off 1 = b.toNat := by
  obtain ⟨hlt, hb⟩ := List.getElem?_eq_some_iff.1 h
  rw [fieldAt, List.drop_eq_getElem_cons hlt, hb]
  simp [natOf]

/-! ## Fields in order -/

/-- The bytes of fields. -/
theorem encodeFields_length (fs : List (Nat × Nat)) : (encodeFields fs).length = (fs.map Prod.fst).sum := by
  simp [encodeFields, List.length_flatMap, bytesOf_length]

/-- Of fields in order, one stands behind the widths of those before it. -/
theorem fieldAt_encodeFields {fs : List (Nat × Nat)} {i w n : Nat} (hi : fs[i]? = some (w, n)) :
    fieldAt (encodeFields fs) ((fs.map Prod.fst).take i).sum w = n % 256 ^ w := by
  induction fs generalizing i with
  | nil => simp at hi
  | cons f fs ih =>
    cases i with
    | zero =>
      obtain rfl : f = (w, n) := by simpa using hi
      exact fieldAt_head w n _
    | succ i =>
      have hskip := fieldAt_skip (bytesOf f.1 f.2) (encodeFields fs) ((fs.map Prod.fst).take i).sum w
      rw [bytesOf_length] at hskip
      rw [List.map_cons, List.take_succ_cons, List.sum_cons]
      exact hskip.trans (ih (by simpa using hi))

/-! ## The page as one list of fields (R198) -/

/-- The fields of the page in order: edit count, magic, the fields of R198, zeros, edit count. -/
def Device.pageLayout (d : Device) (count : Word) : List (Nat × Nat) :=
  [(4, count.toNat), (4, Config.pageMagic)] ++ d.pageHeadFields ++ d.pagePosition ++ d.pageTailFields
    ++ [(16, 0), (4, count.toNat)]

/-- The widths of the page's fields, in order (R198). -/
def pageWidths : List Nat := [4, 4, 1, 1, 1, 1, 2, 2, 4, 1, 1, 2, 1, 1, 1, 1, 2, 2, 2, 1, 1, 4, 1, 1, 2, 16, 4]

theorem Device.pageLayout_widths (d : Device) (count : Word) : (d.pageLayout count).map Prod.fst = pageWidths := rfl

/-- The image spells the fields. -/
theorem Device.pageImage_eq (d : Device) (count : Word) : d.pageImage count = encodeFields (d.pageLayout count) := by
  simp [Device.pageImage, Device.pageBody, Device.pageLayout, encodeFields]

section Image

variable (d : Device) (count : Word)

/-- The image takes 64 bytes (R180). -/
theorem Device.pageImage_length : (d.pageImage count).length = 64 := by
  rw [pageImage_eq, encodeFields_length, pageLayout_widths]
  rfl

/-- A field of the image, modulo its width, at the offset that the widths before it give. -/
theorem Device.pageImage_field (i : Nat) {w n off : Nat} (hi : (d.pageLayout count)[i]? = some (w, n))
    (hoff : (pageWidths.take i).sum = off) : fieldAt (d.pageImage count) off w = n % 256 ^ w := by
  subst hoff
  rw [pageImage_eq, ← pageLayout_widths d count]
  exact fieldAt_encodeFields hi

/-- A field whose value fits its width. -/
theorem Device.pageImage_fits (i : Nat) {w n off : Nat} (hi : (d.pageLayout count)[i]? = some (w, n))
    (hoff : (pageWidths.take i).sum = off) (hn : n < 256 ^ w) : fieldAt (d.pageImage count) off w = n :=
  (d.pageImage_field count i hi hoff).trans (Nat.mod_eq_of_lt hn)

/-- The 16 bytes before the tail are zero (R198). -/
theorem Device.pageImage_zeros {k : Nat} (hlo : 44 ≤ k) (hhi : k < 60) : (d.pageImage count)[k]? = some 0 := by
  have himage : d.pageImage count =
      encodeFields ((d.pageLayout count).take 25) ++ (bytesOf 16 0 ++ bytesOf 4 count.toNat) := by
    rw [pageImage_eq, ← List.take_append_drop 25 (d.pageLayout count), encodeFields, List.flatMap_append]
    rfl
  have hfront : (encodeFields ((d.pageLayout count).take 25)).length = 44 := by
    rw [encodeFields_length, List.map_take, pageLayout_widths]
    rfl
  rw [himage, List.getElem?_append_right (by omega), hfront, List.getElem?_append_left (by rw [bytesOf_length]; omega),
    bytesOf_getElem? 16 0 (by omega), Nat.zero_div]
  rfl

end Image

/-! ## Codes and numbers that fit their byte (R198) -/

theorem pageEngineCode_lt (e : EngineState) : pageEngineCode e < 256 := by cases e <;> decide

theorem changeStateByte_lt (c : ChangeState) (flag : Bool) : changeStateByte c flag < 256 := by
  cases c <;> cases flag <;> decide

theorem sceneByte_lt (n : Option (BitVec 7)) : sceneByte n < 256 := by
  cases n with
  | none => decide
  | some n => exact n.isLt.trans (by decide)

theorem Transport.code_lt (t : Transport) : t.code < 256 := by cases t <;> decide

theorem TempoSource.code_lt (t : TempoSource) : t.code < 256 := by cases t <;> decide

theorem SyncState.code_lt (t : SyncState) : t.code < 256 := by cases t <;> decide

theorem Section.code_lt (t : Section) : t.code < 256 := by cases t <;> decide

theorem ChangeUnit.pendingHead_lt (c : ChangeUnit) : c.pendingHead < 256 ^ 4 := by
  unfold pendingHead
  split
  · decide
  · next sc _ => exact sc.headCount.isLt

/-- Settles O52: each field stands behind the widths of those before it, and every code fits its byte. -/
theorem statePageShowsTheFields : Obligations.StatePageShowsTheFields := by
  intro d count image position
  have field (i : Nat) {w n off : Nat} := d.pageImage_field count i (w := w) (n := n) (off := off)
  have fits (i : Nat) {w n off : Nat} := d.pageImage_fits count i (w := w) (n := n) (off := off)
  have engine : fieldAt image 8 1 = _ := fits 2 rfl rfl (pageEngineCode_lt _)
  have state : fieldAt image 9 1 = _ := fits 3 rfl rfl (changeStateByte_lt _ _)
  have active : fieldAt image 10 1 = _ := fits 4 rfl rfl (sceneByte_lt _)
  have copy : fieldAt image 11 1 = _ := fits 5 rfl rfl (sceneByte_lt _)
  have setPosition : fieldAt image 14 2 = _ := field 7 rfl rfl
  have head : fieldAt image 16 4 = _ := fits 8 rfl rfl (ChangeUnit.pendingHead_lt _)
  have pendingTempo : fieldAt image 30 2 = _ := field 17 rfl rfl
  have estimate : fieldAt image 32 2 = _ := field 18 rfl rfl
  have glide : fieldAt image 34 1 = _ := field 19 rfl rfl
  refine ⟨d.pageImage_length count, fits 0 rfl rfl count.isLt, fits 26 rfl rfl count.isLt, fits 1 rfl rfl (by decide),
    engine.trans ?_, state, active.trans ?_, copy.trans ?_, fits 6 rfl rfl d.change.activation.isLt,
    setPosition.trans ?_, head.trans ?_, fits 9 rfl rfl (Transport.code_lt _), field 10 rfl rfl, field 11 rfl rfl,
    field 12 rfl rfl, field 13 rfl rfl, fits 14 rfl rfl (TempoSource.code_lt _), fits 15 rfl rfl (SyncState.code_lt _),
    field 16 rfl rfl, pendingTempo.trans ?_, estimate.trans ?_, glide.trans ?_, field 20 rfl rfl,
    fits 21 rfl rfl d.jw.written.isLt, fits 22 rfl rfl (d.regs.faults.isLt.trans (by decide)),
    fits 23 rfl rfl (Section.code_lt _), field 24 rfl rfl,
    fun k hlo hhi => fieldAt_byte (d.pageImage_zeros count hlo hhi)⟩
  · cases d.engine.state <;> rfl
  · cases d.change.active <;> rfl
  · cases d.change.copy <;> rfl
  · cases d.change.setPosition <;> rfl
  · unfold ChangeUnit.pendingHead
    cases d.change.copy <;> rfl
  · unfold Tempo.pendingField
    cases d.tempo.pending <;> rfl
  · cases d.sync.estimate <;> rfl
  · unfold Tempo.glideField
    cases d.tempo.glide <;> rfl

end Sys2Proof.Machine
end

section
/-! Events whose work is on the request unit, with a fault or a cause beside it: the next request unit, what is handed
to the journal, and the frame (R173 to R179). -/
namespace Sys2Proof.Machine

open Sys2Proof

/-- The part after work on the request unit, with its registers and the entries that it hands over. -/
def Device.reqEnded (d : Device) (q : RequestUnit) (regs : Registers) (es : List Entry) : Device :=
  { d with req := q, regs := regs, stage := { d.stage with entries := es } }

/-- Work on the request unit alone. -/
theorem Device.onReq_eq_reqEnded {d : Device} (h : d.stage.entries = []) (f : RequestUnit → RequestUnit) :
    d.onReq f = d.reqEnded (f d.req) d.regs [] := by
  simp [Device.onReq, Device.reqEnded, ← h]

section Ended

variable {s : State} {q : RequestUnit} {regs : Registers} {es : List Entry} {bs : List Block}
  (hregs : ∀ b : Block, b ∈ bs ∨ b.agrees s { s with dev := { s.dev with regs := regs } })
include hregs

/-- The blocks that the work touches, beside those of the bookkeeping. -/
theorem Block.agrees_of_reqEnded (b : Block) :
    b ∈ Block.req :: bs ∨ b ∈ [Block.entries, .eventStamp, .page, .pageCause] ∨
      b.agrees s { s with dev := s.dev.beginEvent.reqEnded q regs es } := by
  have hb := hregs b
  revert hb
  cases b <;> simp [Block.agrees, Device.reqEnded, Device.beginEvent]

variable (hready : s.isReady = true) (hrun : s.dev.engine.state.isRunning = true ∨ es = [])
include hready hrun

/-- An event whose work is on the request unit. -/
theorem State.reqEvent_outcome {due : Bool} {body : Device → Device} (hdue : due = true)
    (hb : body s.dev.beginEvent = s.dev.beginEvent.reqEnded q regs es) :
    ∃ t, t = s.event due body ∧ t.dev.req = q ∧ t.dev.eventStamp = s.dev.stampNow ∧ Journaled es s t
      ∧ EventChanges (.req :: bs) s t := by
  obtain ⟨hr, hen, hpc, hover⟩ := State.isReady_spec hready
  obtain ⟨t, ht, ⟨p, w, hs⟩, h⟩ := State.event_outcome _ es (.req :: bs) hdue hr hen hpc hrun hb rfl rfl hover
    (Block.agrees_of_reqEnded hregs)
  exact ⟨t, ht, by rw [hs]; rfl, by rw [hs]; rfl, h⟩

/-- One that makes accesses of the memory port beside it. -/
theorem State.reqPortEvent_outcome {due : Bool} {bus : Bus} {body : Device → PortRun → Device × PortRun} {run : PortRun}
    (hdue : due = true) (hb : body s.dev.beginEvent { mem := s.mem, bus := bus } =
      (s.dev.beginEvent.reqEnded q regs es, run)) :
    ∃ t, t = s.portEvent due bus body ∧ t.mem = run.mem ∧ t.dev.req = q ∧ t.dev.regs = regs
      ∧ t.dev.eventStamp = s.dev.stampNow ∧ Journaled es s t ∧ EventChanges (.req :: .mem :: bs) s t := by
  obtain ⟨hr, hen, hpc, hover⟩ := State.isReady_spec hready
  have hframe (b : Block) : b ∈ Block.req :: .mem :: bs ∨ b ∈ [Block.mem, .entries, .eventStamp, .page, .pageCause] ∨
      b.agrees s { s with dev := s.dev.beginEvent.reqEnded q regs es } := by
    rcases Block.agrees_of_reqEnded (q := q) (es := es) hregs b with h | h | h
    · exact .inl (List.cons_subset_cons _ (List.subset_cons_self _ _) h)
    · exact .inr (.inl (List.mem_cons_of_mem _ h))
    · exact .inr (.inr h)
  obtain ⟨t, ht, hm, ⟨p, w, hs⟩, h⟩ := State.portEvent_outcome _ run es (.req :: .mem :: bs) hdue hr hen hpc hrun hb rfl
    rfl hover (.inl (by simp)) hframe
  exact ⟨t, ht, hm, by rw [hs]; rfl, by rw [hs]; rfl, by rw [hs]; rfl, h⟩

end Ended

/-- Work that leaves the registers as they were. -/
theorem Block.agrees_of_sameRegs (s : State) (b : Block) :
    b ∈ ([] : List Block) ∨ b.agrees s { s with dev := { s.dev with regs := s.dev.regs } } :=
  .inr (by cases b <;> simp [Block.agrees])

/-- An access failure at a slot: the fault, the mark of its run, and an entry for the first of the run (R179). -/
theorem Device.slotFailure_eq {d : Device} (h : d.stage.entries = []) (slot : Fin 8) (offset : Nat) :
    d.slotFailure slot offset =
      d.reqEnded (d.req.markRun slot true) (d.regs.setFault d.now .memory)
        (if d.req.failRun[slot] then [] else [.memory offset .requestSlot]) := by
  unfold Device.slotFailure
  dsimp only
  split
  · simp [Device.reqEnded, Device.onReq, Device.setFault, ← h]
  · simp [Device.reqEnded, Device.onReq, Device.emit, Stage.emit, Device.setFault, h]

end Sys2Proof.Machine
end

section
/-! Requests outside ONLINE, and kinds that are none of the fourteen (R176, R184). -/
namespace Sys2Proof.Machine

open Sys2Proof

/-! ## Requests outside ONLINE (R176) -/

/-- The request unit after a request that its row refuses outside ONLINE: the completion is given, and the scan goes
on. -/
def State.refusedOffline (s : State) (r : Request) : RequestUnit :=
  (s.dev.req.beginWork.give [completionOf s s.dev.stampNow true r.slot r.tag .offline 0]).nextSlot

/-- The completion given outside ONLINE is all that a request's event leaves. -/
theorem Device.answer_offline {s : State} {r : Request} (hready : s.isReady = true)
    (hreq : s.dev.req.handedRequest = some r) :
    (s.dev.atRequest.answer r .offline 0).onReq RequestUnit.nextSlot =
      s.dev.beginEvent.reqEnded (s.refusedOffline r) s.dev.regs [] := by
  obtain ⟨-, hen, -, -⟩ := State.isReady_spec hready
  have hworking : s.dev.atRequest.req.working = true := RequestUnit.beginWork_working hreq
  rw [Device.answer_eq (s := s) (d := s.dev.atRequest) rfl rfl, hworking]
  exact Device.onReq_eq_reqEnded (d := s.dev.beginEvent) hen fun q =>
    (q.beginWork.give [completionOf s s.dev.stampNow true r.slot r.tag .offline 0]).nextSlot

/-- Outside ONLINE no owner does any work. -/
theorem Device.carryOut_offline {s : State} {r : Request} (hready : s.isReady = true)
    (hoff : s.dev.engine.state ≠ .online) (hreq : s.dev.req.handedRequest = some r) (body : Device → Device) :
    s.dev.beginEvent.carryOut r body = s.dev.beginEvent.reqEnded (s.refusedOffline r) s.dev.regs [] := by
  rw [← Device.answer_offline hready hreq]
  exact congrArg (Device.onReq · RequestUnit.nextSlot) (if_neg hoff)

/-- Outside ONLINE a RELOAD reads nothing. -/
theorem Device.carryOutReload_offline {s : State} {r : Request} (hready : s.isReady = true)
    (hoff : s.dev.engine.state ≠ .online) (hreq : s.dev.req.handedRequest = some r) (run : PortRun) :
    s.dev.beginEvent.carryOutReload r run = (s.dev.beginEvent.reqEnded (s.refusedOffline r) s.dev.regs [], run) := by
  rw [← Device.answer_offline hready hreq]
  exact congrArg (fun res : Device × PortRun => (res.1.onReq RequestUnit.nextSlot, res.2)) (if_neg hoff)

/-- What a request row does outside ONLINE, for every row but RELOAD. -/
theorem State.request_offline {s : State} {r : Request} {fits : Byte → Bool} {body : Request → Device → Device}
    (hready : s.isReady = true) (hoff : s.dev.engine.state ≠ .online) (hreq : s.dev.req.handedRequest = some r)
    (hf : fits r.kind = true) :
    ∃ t, t = s.request fits body ∧ Answered r .offline 0 s t ∧ Journaled [] s t ∧ EventChanges [.req] s t := by
  obtain ⟨t, ht, hq, hstamp, h⟩ := State.reqEvent_outcome (Block.agrees_of_sameRegs s) hready (.inr rfl) hf
    (body := fun d => d.carryOut r (body r)) (Device.carryOut_offline hready hoff hreq (body r))
  refine ⟨t, ?_, .of_give hreq rfl hstamp hq, h⟩
  rw [ht, State.request, hreq]

/-- What RELOAD does outside ONLINE. -/
theorem State.reload_offline {s : State} {r : Request} {bus : Bus} (hready : s.isReady = true)
    (hoff : s.dev.engine.state ≠ .online) (hreq : s.hasRequest 14#8 r) :
    ∃ t, exec (.reload bus) s = .next t ∧ Answered r .offline 0 s t ∧ Journaled [] s t ∧ EventChanges [.req] s t := by
  obtain ⟨hhanded, hkind⟩ := hreq
  obtain ⟨t, ht, hm, hq, -, hstamp, hj, hc⟩ := State.reqPortEvent_outcome (bus := bus)
    (Block.agrees_of_sameRegs s) hready (.inr rfl) (decide_eq_true hkind) (body := fun d run => d.carryOutReload r run)
    (Device.carryOutReload_offline hready hoff hhanded _)
  have hmem : Block.mem.agrees s t := hm
  refine ⟨t, ?_, .of_give hhanded rfl hstamp hq, hj, OnlyChanges.unname hc hmem (by decide)⟩
  show execReload bus s = _
  rw [ht, execReload, hhanded]

/-! ## The row of a kind (R176, R196) -/

/-- A kind outside 1 to 14 is none of the fourteen (R176). -/
theorem isRequestKind_eq_false {k : Byte} (h : k = 0#8 ∨ 14 < k.toNat) : isRequestKind k = false := by
  rcases h with rfl | h
  · rfl
  · exact decide_eq_false (by omega)

/-- A command is the row of a kind: that of a request which the kind fits, or RELOAD on a quiet bus. -/
def IsRowOf (k : Byte) (c : Instr) : Prop :=
  (∃ (fits : Byte → Bool) (body : Request → Device → Device),
    (∀ s, exec c s = .next (s.request fits body)) ∧ fits k = true) ∨ (k = 14#8 ∧ c = .reload [])

/-- The row that a test of the kind picks. -/
theorem IsRowOf.ite {k n : Byte} {c c' : Instr} (hpos : k = n → IsRowOf k c) (hneg : k ≠ n → IsRowOf k c') :
    IsRowOf k (if k = n then c else c') := by
  split
  · next h => exact hpos h
  · next h => exact hneg h

/-- The row of one kind. -/
theorem IsRowOf.request {k n : Byte} {c : Instr} {body : Request → Device → Device}
    (hexec : ∀ s, exec c s = .next (s.request (fun x => decide (x = n)) body)) (h : k = n) : IsRowOf k c :=
  .inl ⟨_, body, hexec, decide_eq_true h⟩

/-- Every kind has its row (R176, R196). -/
theorem requestCommand_isRowOf (k : Byte) : IsRowOf k (requestCommand k) := by
  unfold requestCommand
  refine .ite (.request fun _ => rfl) fun h1 => .ite (.request fun _ => rfl) fun h2 =>
    .ite (.request fun _ => rfl) fun h3 => .ite (.request fun _ => rfl) fun h4 =>
    .ite (.request fun _ => rfl) fun h5 => .ite (.request fun _ => rfl) fun h6 =>
    .ite (.request fun _ => rfl) fun h7 => .ite (.request fun _ => rfl) fun h8 =>
    .ite (.request fun _ => rfl) fun h9 => .ite (.request fun _ => rfl) fun h10 =>
    .ite (.request fun _ => rfl) fun h11 => .ite (.request fun _ => rfl) fun h12 =>
    .ite (.request fun _ => rfl) fun h13 => .ite (fun h => .inr ⟨h, rfl⟩) fun h14 =>
    .inl ⟨_, _, fun _ => rfl, ?_⟩
  have hunknown : k = 0#8 ∨ 14 < k.toNat := by bv_omega
  rw [isRequestKind_eq_false hunknown]
  rfl

/-- Settles O39: outside ONLINE a row only answers, whatever its kind; ONLINE the row of unknown kinds does. -/
theorem requestsOutsideOnlineAreRefused : Obligations.RequestsOutsideOnlineAreRefused := by
  intro s r hreq
  refine ⟨fun hready hoff => ?_, fun hon hkind => ?_⟩
  · rcases requestCommand_isRowOf r.kind with ⟨fits, body, hexec, hf⟩ | ⟨hkind, hreload⟩
    · obtain ⟨t, ht, h⟩ := State.request_offline (body := body) hready hoff hreq hf
      exact ⟨t, (hexec s).trans (congrArg _ ht.symm), h⟩
    · rw [hreload]
      exact State.reload_offline hready hoff ⟨hreq, hkind⟩
  · obtain ⟨t, ht, h⟩ := State.request_only_answered (fits := fun k => !isRequestKind k)
      (body := fun r d => d.answer r .unknown r.kind.toNat) hon hreq (by rw [isRequestKind_eq_false hkind]; rfl) rfl
    exact ⟨t, congrArg _ ht.symm, h⟩

end Sys2Proof.Machine
end

section
/-! NOTICE, the beginning of a scan, and the scan's visit to a slot (R174, R175, R178, R179). -/
namespace Sys2Proof.Machine

open Sys2Proof

/-! ## NOTICE and SCAN_BEGIN (R174) -/

/-- NOTICE sets notice pending. -/
theorem State.notice_outcome {s : State} (hready : s.isReady = true) (w : RegWrite) :
    ∃ t, exec (.notice w) s = .next t ∧ t.dev.req = { s.dev.req with notice := true } ∧ Journaled [] s t
      ∧ EventChanges [.req] s t := by
  obtain ⟨-, hen, -, -⟩ := State.isReady_spec hready
  obtain ⟨t, ht, hq, -, h⟩ := State.reqEvent_outcome (Block.agrees_of_sameRegs s) hready (.inr rfl) rfl
    (body := fun d => d.onReq fun q => { q with notice := true })
    (Device.onReq_eq_reqEnded (d := s.dev.beginEvent) hen _)
  exact ⟨t, congrArg _ ht.symm, hq, h⟩

/-- A scan begins when notice is pending, none runs, and the engine is ONLINE or DRAINING. -/
theorem Device.scanDue_iff (d : Device) :
    d.scanDue = true ↔ d.req.notice = true ∧ d.req.scan = none ∧
      (d.engine.state = .online ∨ d.engine.state = .draining) := by
  simp [Device.scanDue, EngineState.isRunning_eq, and_assoc]

/-- A scan that is due begins at slot 0. -/
theorem State.scanBegin_outcome {s : State} (hready : s.isReady = true) (hdue : s.dev.scanDue = true) :
    ∃ t, exec .scanBegin s = .next t
      ∧ t.dev.req = { s.dev.req with notice := false, scan := some { slot := 0, phase := .visiting } }
      ∧ Journaled [] s t ∧ EventChanges [.req] s t := by
  obtain ⟨-, hen, -, -⟩ := State.isReady_spec hready
  obtain ⟨t, ht, hq, -, h⟩ := State.reqEvent_outcome (Block.agrees_of_sameRegs s) hready (.inr rfl) hdue
    (body := fun d => d.onReq fun q => { q with notice := false, scan := some { slot := 0, phase := .visiting } })
    (Device.onReq_eq_reqEnded (d := s.dev.beginEvent) hen _)
  exact ⟨t, congrArg _ ht.symm, hq, h⟩

/-! ## A visit, by what it finds (R175, R178, R179) -/

/-- The slot may be taken: no request of it is in flight, and no completion of it is still to be written (R175,
R178). -/
def Device.slotFree (d : Device) (n : Fin 8) : Prop :=
  d.change.inFlight n = false ∧ (∀ x ∈ d.req.retries, x.completion.slot ≠ n) ∧ ∀ c ∈ d.req.completions, c.slot ≠ n

/-- What the visit tests before it takes a slot. -/
theorem Device.slotFree_iff (d : Device) (n : Fin 8) :
    d.slotFree n ↔ (d.change.inFlight n || d.req.holdsCompletion n) = false := by
  simp [Device.slotFree, RequestUnit.holdsCompletion, RequestUnit.awaitsRetry]

section Visit

variable {d : Device} {n : Fin 8} {run run' : PortRun} {bs : List Byte}

/-- A visit whose read failed. -/
theorem Device.visitSlot_unread (hread : portRead run (rigAddress d (slotOffset d n)) 20 = (none, run')) :
    d.visitSlot n run = ((d.slotFailure n (slotOffset d n)).onReq RequestUnit.nextSlot, run') := by
  unfold Device.visitSlot
  rw [hread]

variable (hread : portRead run (rigAddress d (slotOffset d n)) 20 = (some bs, run'))
include hread

/-- A visit that passes the slot over. -/
theorem Device.visitSlot_passed (h : ¬ d.slotFree n ∨ fieldAt bs 0 1 ≠ 1) :
    d.visitSlot n run = (d.onReq fun q => (q.markRun n false).nextSlot, run') := by
  have hpassed : (d.change.inFlight n || d.req.holdsCompletion n || decide (fieldAt bs 0 1 ≠ 1)) = true := by
    rw [Device.slotFree_iff, Bool.not_eq_false] at h
    rw [Bool.or_eq_true, decide_eq_true_eq]
    exact h
  unfold Device.visitSlot
  rw [hread]
  exact if_pos hpassed

/-- A visit to a POSTED slot that may be taken. -/
theorem Device.visitSlot_posted (hfree : d.slotFree n) (hposted : fieldAt bs 0 1 = 1) :
    d.visitSlot n run = (d.onReq (·.markRun n false)).takeSlot n bs run' := by
  have htaken : ¬ (d.change.inFlight n || d.req.holdsCompletion n || decide (fieldAt bs 0 1 ≠ 1)) = true := by
    rw [(Device.slotFree_iff d n).1 hfree, hposted]
    decide
  unfold Device.visitSlot
  rw [hread]
  exact if_neg htaken

end Visit

/-! ## The write of TAKEN (R175, R179) -/

/-- The bus at the next access, when one is given. -/
theorem busHead_cons (b : BusAccess) (bus : Bus) : busHead (b :: bus) = b := rfl

/-- An accepted write is the same whether or not a failure would have left bytes behind. -/
theorem portWriteWhole_accepted {run : PortRun} {addr : Nat} {bytes : List Byte}
    (h : (portWrite run addr bytes).1 = true) :
    portWriteWhole run addr bytes = (true, (portWrite run addr bytes).2) := by
  have hfails : (busHead run.bus).fails = false := by simpa [portWrite] using h
  simp [portWriteWhole, portWrite, busHead_cons, hfails]

/-- A failed write leaves the host's stores alone. -/
theorem portWriteWhole_failed {run : PortRun} {addr : Nat} {bytes : List Byte}
    (h : (portWrite run addr bytes).1 = false) :
    ∃ run', portWriteWhole run addr bytes = (false, run') ∧
      run'.mem = memHostWrites run.mem (busHead run.bus).hostWrites := by
  have hfails : (busHead run.bus).fails = true := by simpa [portWrite] using h
  simp [portWriteWhole, portWrite, busHead] at hfails ⊢
  simp [hfails, memWriteBytes]

section Take

variable {d : Device} {n : Fin 8} {run : PortRun} (bs : List Byte)

/-- A slot taken: TAKEN is written, and the request is kept as read. -/
theorem Device.takeSlot_taken (h : (portWrite run (rigAddress d (slotOffset d n)) [2#8]).1 = true) :
    d.takeSlot n bs run =
      (d.onReq fun q => { q with scan := some { slot := n.val, phase := .handed (requestOf n bs) } },
        (portWrite run (rigAddress d (slotOffset d n)) [2#8]).2) := by
  unfold Device.takeSlot
  rw [portWriteWhole_accepted h]

/-- A slot that stays POSTED, its write having failed. -/
theorem Device.takeSlot_failed (h : (portWrite run (rigAddress d (slotOffset d n)) [2#8]).1 = false) :
    ∃ run', d.takeSlot n bs run = ((d.slotFailure n (slotOffset d n)).onReq RequestUnit.nextSlot, run') ∧
      run'.mem = memHostWrites run.mem (busHead run.bus).hostWrites := by
  obtain ⟨run', hfailed, hmem⟩ := portWriteWhole_failed h
  refine ⟨run', ?_, hmem⟩
  unfold Device.takeSlot
  rw [hfailed]

end Take

/-! ## The visit's event -/

section VisitEvent

variable {s : State} {bus : Bus} {n : Fin 8} (hon : s.isOnline = true) (hdue : s.dev.req.visitDue = some n)
  {run : PortRun}
include hon hdue

/-- A visit that leaves a request unit and nothing else. -/
theorem State.slotVisit_outcome {f : RequestUnit → RequestUnit}
    (hvisit : s.dev.beginEvent.visitSlot n { mem := s.mem, bus := bus } = (s.dev.beginEvent.onReq f, run)) :
    ∃ t, exec (.slotVisit bus) s = .next t ∧ t.mem = run.mem ∧ t.dev.req = f s.dev.req ∧ Journaled [] s t
      ∧ EventChanges [.req, .mem] s t := by
  obtain ⟨-, -, hen, -⟩ := State.isOnline_spec hon
  obtain ⟨t, ht, hm, hq, -, -, h⟩ := State.reqPortEvent_outcome (Block.agrees_of_sameRegs s)
    (State.isReady_of_isOnline hon) (.inr rfl) rfl (body := fun d run => d.visitSlot n run)
    (hvisit.trans (congrArg (·, run) (Device.onReq_eq_reqEnded (d := s.dev.beginEvent) hen f)))
  refine ⟨t, ?_, hm, hq, h⟩
  show execSlotVisit bus s = _
  rw [ht, execSlotVisit, hdue]

/-- A visit with a failed access, after work on the request unit: MEMORY, and an entry for the first failure of the
slot's run as it then stands (R179). -/
theorem State.slotVisit_failed {f : RequestUnit → RequestUnit}
    (hvisit : s.dev.beginEvent.visitSlot n { mem := s.mem, bus := bus } =
      (((s.dev.beginEvent.onReq f).slotFailure n (slotOffset s.dev n)).onReq RequestUnit.nextSlot, run)) :
    ∃ t, exec (.slotVisit bus) s = .next t ∧ t.mem = run.mem
      ∧ t.dev.req = ((f s.dev.req).markRun n true).nextSlot ∧ FaultRaised .memory s t
      ∧ Journaled (if (f s.dev.req).failRun[n] then [] else [.memory (slotOffset s.dev n) .requestSlot]) s t
      ∧ EventChanges [.req, .mem, .faults, .causes, .attnPulse] s t := by
  obtain ⟨-, hst, hen, -⟩ := State.isOnline_spec hon
  rw [Device.slotFailure_eq (d := s.dev.beginEvent.onReq f) hen] at hvisit
  obtain ⟨t, ht, hm, hq, hregs, -, h⟩ := State.reqPortEvent_outcome
    (regs := s.dev.regs.setFault s.dev.now .memory) (Block.agrees_of_setFault s s.dev.now .memory)
    (State.isReady_of_isOnline hon) (.inl (by rw [hst]; rfl)) rfl (body := fun d run => d.visitSlot n run) hvisit
  refine ⟨t, ?_, hm, hq, .of_setFault hregs, h⟩
  show execSlotVisit bus s = _
  rw [ht, execSlotVisit, hdue]

end VisitEvent

/-- A mark of a run that is written twice stands as written last. -/
theorem RequestUnit.markRun_markRun (q : RequestUnit) (n : Fin 8) (a b : Bool) :
    (q.markRun n a).markRun n b = q.markRun n b := by
  simp [RequestUnit.markRun]

/-- Settles O38: NOTICE and the scan's beginning by the test of R174, and a visit by its read, its tests and its
write. -/
theorem scansTakePostedSlots : Obligations.ScansTakePostedSlots := by
  constructor
  · intro s w hready
    refine ⟨State.notice_outcome hready w, fun hnotice hscan hrun => ?_, fun hnot => ?_⟩
    · exact State.scanBegin_outcome hready ((Device.scanDue_iff _).2 ⟨hnotice, hscan, hrun⟩)
    · have hwaits : s.dev.scanDue = false := by
        rw [← Bool.not_eq_true, Device.scanDue_iff]
        rintro ⟨hnotice, hscan, hrun⟩
        simp [hnotice, hscan] at hnot
        exact hrun.elim hnot.1 hnot.2
      exact congrArg _ (State.event_not_due s _ _ (.inr hwaits))
  · intro s bus n hon hdue addr read free
    have isRead {o : Option (List Byte)} (h : read.1 = o) : portRead { mem := s.mem, bus := bus }
        (rigAddress s.dev.beginEvent (slotOffset s.dev.beginEvent n)) 20 = (o, read.2) := Prod.ext h rfl
    refine ⟨fun bs hbs hfree hposted hok => ?_, fun bs hbs hfree hposted hfail => ?_, fun bs hbs hpassed => ?_,
      fun hnone => ?_⟩
    · exact State.slotVisit_outcome hon hdue
        (f := fun q => { q.markRun n false with scan := some { slot := n.val, phase := .handed (requestOf n bs) } })
        ((Device.visitSlot_posted (isRead hbs) hfree hposted).trans
          (Device.takeSlot_taken (d := s.dev.beginEvent.onReq (·.markRun n false)) bs hok))
    · obtain ⟨run, htake, hmem⟩ :=
        Device.takeSlot_failed (d := s.dev.beginEvent.onReq (·.markRun n false)) bs hfail
      obtain ⟨t, hexec, hm, hq, hfault, hj, hc⟩ := State.slotVisit_failed hon hdue
        ((Device.visitSlot_posted (isRead hbs) hfree hposted).trans htake)
      have hfirst : (s.dev.req.markRun n false).failRun[n] = false := by simp [RequestUnit.markRun]
      rw [RequestUnit.markRun_markRun] at hq
      rw [hfirst] at hj
      exact ⟨t, hexec, hm.trans hmem, hq, hfault, hj, hc⟩
    · exact State.slotVisit_outcome hon hdue (Device.visitSlot_passed (isRead hbs) hpassed)
    · exact State.slotVisit_failed (f := id) hon hdue (Device.visitSlot_unread (isRead hnone))

end Sys2Proof.Machine
end

section
/-! The writes of a completion, and their retry (R177, R179). -/
namespace Sys2Proof.Machine

open Sys2Proof

/-! ## The writes, by their outcome -/

section Writes

variable {d : Device} {run run' : PortRun}

/-- A completion whose writes are accepted is whole. -/
theorem Device.writeCompletion_whole {c : Completion} (hrun : portWriteAll run (completionWrites c) = (true, run')) :
    d.writeCompletion c run =
      ((d.onReq fun q =>
        (({ q with completions := q.completions.erase c }).markRun c.slot false).endScan).latch .slotDone, run') := by
  unfold Device.writeCompletion
  rw [hrun]
  rfl

/-- A completion of which a write failed joins the retry list. -/
theorem Device.writeCompletion_failed {c : Completion} (hrun : portWriteAll run (completionWrites c) = (false, run')) :
    d.writeCompletion c run =
      ((((d.onReq fun q => { q with completions := q.completions.erase c }).slotFailure c.slot c.offset).onReq fun q =>
        (q.retryLater { completion := c, dueAt := after d.now 1000 }).endScan), run') := by
  unfold Device.writeCompletion
  rw [hrun]
  rfl

/-- A retry whose writes are accepted is whole. -/
theorem Device.retryCompletion_whole {r : Retry}
    (hrun : portWriteAll run (completionWrites r.completion) = (true, run')) :
    d.retryCompletion r run =
      ((d.onReq fun q => ({ q with retries := q.retries.erase r }).markRun r.completion.slot false).latch .slotDone,
        run') := by
  unfold Device.retryCompletion
  rw [hrun]
  rfl

/-- A retry of which a write failed waits again, without an entry. -/
theorem Device.retryCompletion_failed {r : Retry}
    (hrun : portWriteAll run (completionWrites r.completion) = (false, run')) :
    d.retryCompletion r run =
      ((d.onReq fun q => ({ q with retries := q.retries.erase r }).retryLater
        { r with dueAt := after d.now 1000 }).setFault .memory, run') := by
  unfold Device.retryCompletion
  rw [hrun]
  rfl

end Writes

/-! ## The commands -/

/-- The blocks that a latched cause touches (R190). -/
theorem Block.agrees_of_latch (s : State) (now : Word) (c : Cause) (b : Block) :
    b ∈ [Block.causes, .attnPulse] ∨
      b.agrees s { s with dev := { s.dev with regs := s.dev.regs.latch now c } } := by
  cases b <;> simp [Block.agrees, Registers.latch]

/-- A completion of a slot is written while none of the slot awaits a retry (R173; log 37). -/
theorem exec_slotCompletion {s : State} {slot : Fin 8} {c : Completion}
    (hfirst : s.dev.req.completions.find? (fun c => decide (c.slot = slot)) = some c) (bus : Bus) :
    exec (.slotCompletion slot bus) s =
      .next (s.portEvent (!s.dev.req.awaitsRetry slot) bus fun d run => d.writeCompletion c run) := by
  show execSlotCompletion slot bus s = _
  rw [execSlotCompletion, hfirst]

/-- A retry is made at its moment, in every engine state (R179). -/
theorem exec_completionRetry {s : State} {slot : Fin 8} {r : Retry} (hdue : s.dev.retryDue slot = some r) (bus : Bus) :
    exec (.completionRetry slot bus) s = .next (s.portEvent true bus fun d run => d.retryCompletion r run) := by
  show execCompletionRetry slot bus s = _
  rw [execCompletionRetry, hdue]

/-- A retry that is due for a slot is one of its completions. -/
theorem Device.retryDue_slot {d : Device} {slot : Fin 8} {r : Retry} (h : d.retryDue slot = some r) :
    r.completion.slot = slot := by
  have := List.find?_some h
  simp only [Bool.and_eq_true, decide_eq_true_eq] at this
  exact this.1

section WriteEvent

variable {s : State} {bus : Bus} {due : Bool} {body : Device → PortRun → Device × PortRun} {run : PortRun}
  (hready : s.isReady = true) (hdue : due = true)
include hready hdue

/-- A write of a completion that is accepted: SLOT_DONE is latched. -/
theorem State.slotDone_outcome {f : RequestUnit → RequestUnit}
    (hb : body s.dev.beginEvent { mem := s.mem, bus := bus } = ((s.dev.beginEvent.onReq f).latch .slotDone, run)) :
    ∃ t, t = s.portEvent due bus body ∧ t.mem = run.mem ∧ t.dev.req = f s.dev.req
      ∧ t.dev.regs.causes = s.dev.regs.causes ||| 1#3 ∧ Journaled [] s t
      ∧ EventChanges [.req, .mem, .causes, .attnPulse] s t := by
  obtain ⟨-, hen, -, -⟩ := State.isReady_spec hready
  rw [Device.onReq_eq_reqEnded (d := s.dev.beginEvent) hen] at hb
  obtain ⟨t, ht, hm, hq, hregs, -, h⟩ := State.reqPortEvent_outcome (regs := s.dev.regs.latch s.dev.now .slotDone)
    (Block.agrees_of_latch s s.dev.now .slotDone) hready (.inr rfl) hdue hb
  exact ⟨t, ht, hm, hq, by rw [hregs]; rfl, h⟩

/-- A write of a completion that failed: MEMORY is set, with the entries that are handed over. -/
theorem State.slotFault_outcome {q : RequestUnit} {es : List Entry}
    (hrun : s.dev.engine.state.isRunning = true ∨ es = [])
    (hb : body s.dev.beginEvent { mem := s.mem, bus := bus } =
      (s.dev.beginEvent.reqEnded q (s.dev.regs.setFault s.dev.now .memory) es, run)) :
    ∃ t, t = s.portEvent due bus body ∧ t.mem = run.mem ∧ t.dev.req = q ∧ FaultRaised .memory s t ∧ Journaled es s t
      ∧ EventChanges [.req, .mem, .faults, .causes, .attnPulse] s t := by
  obtain ⟨t, ht, hm, hq, hregs, -, h⟩ := State.reqPortEvent_outcome
    (Block.agrees_of_setFault s s.dev.now .memory) hready hrun hdue hb
  exact ⟨t, ht, hm, hq, .of_setFault hregs, h⟩

end WriteEvent

/-- Settles O40: a completion and a retry, each whole or failed. -/
theorem completionsAreWritten : Obligations.CompletionsAreWritten := by
  intro s slot bus hready
  obtain ⟨-, hen, -, -⟩ := State.isReady_spec hready
  constructor
  · intro c hfirst run q alone
    have hslot : c.slot = slot := by simpa using List.find?_some hfirst
    subst hslot
    rw [exec_slotCompletion hfirst]
    have written (h : alone) : (!s.dev.req.awaitsRetry c.slot) = true := by
      rw [RequestUnit.awaitsRetry_eq_false.2 h]; rfl
    refine ⟨fun halone hok => ?_, fun halone hfail honline => ?_, fun hwaits => ?_⟩
    · obtain ⟨t, ht, h⟩ := State.slotDone_outcome hready (written halone)
        (body := fun d run => d.writeCompletion c run)
        (Device.writeCompletion_whole (d := s.dev.beginEvent) (Prod.ext hok rfl))
      exact ⟨t, congrArg _ ht.symm, h⟩
    · have hbody := Device.writeCompletion_failed (d := s.dev.beginEvent) (Prod.ext hfail rfl)
      rw [Device.slotFailure_eq (d := s.dev.beginEvent.onReq _) hen] at hbody
      obtain ⟨t, ht, h⟩ := State.slotFault_outcome hready (written halone) (.inl (by rw [honline]; rfl))
        (body := fun d run => d.writeCompletion c run) hbody
      exact ⟨t, congrArg _ ht.symm, h⟩
    · have hawaits : s.dev.req.awaitsRetry c.slot = true := by
        rw [← Bool.not_eq_false, RequestUnit.awaitsRetry_eq_false]
        exact hwaits
      rw [hawaits, State.portEvent, if_pos (by simp)]
  · intro r hdue run q
    obtain rfl := Device.retryDue_slot hdue
    rw [exec_completionRetry hdue]
    refine ⟨fun hok => ?_, fun hfail => ?_⟩
    · obtain ⟨t, ht, h⟩ := State.slotDone_outcome hready rfl (body := fun d run => d.retryCompletion r run)
        (Device.retryCompletion_whole (d := s.dev.beginEvent) (Prod.ext hok rfl))
      exact ⟨t, congrArg _ ht.symm, h⟩
    · have hbody := Device.retryCompletion_failed (d := s.dev.beginEvent) (Prod.ext hfail rfl)
      rw [Device.onReq_eq_reqEnded (d := s.dev.beginEvent) hen] at hbody
      obtain ⟨t, ht, h⟩ := State.slotFault_outcome hready rfl (.inr rfl)
        (body := fun d run => d.retryCompletion r run) hbody
      exact ⟨t, congrArg _ ht.symm, h⟩

end Sys2Proof.Machine
end

section
/-! The rewrite of the state page: whole, failed, and made again (R181, R182). -/
namespace Sys2Proof.Machine

open Sys2Proof

/-- The part after work on the page writer, with its registers and the entries that it hands over. -/
def Device.pageEnded (d : Device) (p : PageWriter) (regs : Registers) (es : List Entry) : Device :=
  { d with page := p, regs := regs, stage := { d.stage with entries := es } }

/-- Work on the page writer alone. -/
theorem Device.onPage_eq_pageEnded {d : Device} (h : d.stage.entries = []) (f : PageWriter → PageWriter) :
    d.onPage f = d.pageEnded (f d.page) d.regs [] := by
  simp [Device.onPage, Device.pageEnded, ← h]

/-! ## What ends the event -/

/-- An event that notes no cause, leaves the engine where it was, and changes no field causes no rewrite (R181). -/
theorem Device.pageSettle_of_unchanged {d before : Device} (hcause : d.pageCause = false)
    (hengine : d.engine = before.engine) (hfields : d.pageFields = before.pageFields) :
    d.pageSettle before = { d with pageCause := false } := by
  have hdue : d.pageDue before = false := by simp [Device.pageDue, hcause, hengine, hfields]
  simp [Device.pageSettle, hdue]

section Ended

variable {s : State} (hready : s.isReady = true) (p : PageWriter) (m : Mem)
include hready

/-- The event of a failed rewrite leaves the page writer as its work does: the whole next state (R182). -/
theorem State.settleUnpaged_pageEnded {regs : Registers} {es : List Entry}
    (hrun : s.dev.engine.state.isRunning = true ∨ es = []) :
    s.settleUnpaged (s.dev.beginEvent.pageEnded p regs es) m =
      { s with
        mem := m
        dev :=
          { s.dev with
            eventStamp := s.dev.stampNow, page := p, regs := regs
            jw := { s.dev.jw with
              queue := s.dev.jw.queue ++ s.dev.jw.hand s.dev.stampNow es
              rearm := s.dev.jw.rearm && es.isEmpty } } } := by
  obtain ⟨-, hen, hpc, hover⟩ := State.isReady_spec hready
  have hstage : { s.dev.stage with entries := [] } = s.dev.stage := by simp [← hen]
  have hover' : (s.dev.beginEvent.pageEnded p regs es).drainOver = false := hover
  have hhanded : (s.dev.beginEvent.pageEnded p regs es).restamp.handedOver s.dev.engine.state = es := by
    rcases hrun with h | h <;> simp [Device.handedOver, Device.restamp, Device.pageEnded, h]
  rw [State.settleUnpaged, State.endEvent_not_over m _ hover', Device.afterHanding, Device.journalSettle_eq, hhanded]
  simp [Device.pageEnded, Device.restamp, Device.stampHere, Device.beginEvent, hstage, hpc]
  exact ⟨rfl, rfl⟩

/-- An event that touches the page writer alone is no cause of a further rewrite: the whole next state (R181). -/
theorem State.settle_pageEnded :
    s.settle (s.dev.beginEvent.pageEnded p s.dev.regs []) m =
      { s with mem := m, dev := { s.dev with eventStamp := s.dev.stampNow, page := p } } := by
  obtain ⟨-, hen, hpc, hover⟩ := State.isReady_spec hready
  have hover' : (s.dev.beginEvent.pageEnded p s.dev.regs []).drainOver = false := hover
  have hpaged := Device.pageSettle_of_unchanged (before := s.dev)
    (d := (s.dev.beginEvent.pageEnded p s.dev.regs []).afterHanding s.dev.engine.state) hpc rfl rfl
  have hunpaged := State.settleUnpaged_pageEnded hready p m (regs := s.dev.regs) (.inr rfl)
  rw [State.settleUnpaged, State.endEvent_not_over m _ hover'] at hunpaged
  rw [State.settle, State.endEvent_not_over m _ hover', hpaged, hunpaged]
  simp [JournalWriter.hand]

/-- What the event of a whole rewrite, or of its beginning, leaves (R181). -/
theorem State.settle_pageEnded_outcome :
    (s.settle (s.dev.beginEvent.pageEnded p s.dev.regs []) m).dev.page = p
      ∧ Journaled [] s (s.settle (s.dev.beginEvent.pageEnded p s.dev.regs []) m)
      ∧ EventChanges [.mem] s (s.settle (s.dev.beginEvent.pageEnded p s.dev.regs []) m) := by
  rw [State.settle_pageEnded hready]
  refine ⟨rfl, by simp [Journaled], onlyChanges_of_forall fun b => ?_⟩
  cases b <;> simp [Block.agrees, bookkeeping]

/-- What the event of a failed rewrite leaves (R182). -/
theorem State.settleUnpaged_pageEnded_outcome {es : List Entry}
    (hrun : s.dev.engine.state.isRunning = true ∨ es = []) {t : State}
    (ht : t = s.settleUnpaged (s.dev.beginEvent.pageEnded p (s.dev.regs.setFault s.dev.now .memory) es) m) :
    t.mem = m ∧ t.dev.page = p ∧ FaultRaised .memory s t ∧ Journaled es s t
      ∧ EventChanges [.mem, .faults, .causes, .attnPulse] s t := by
  rw [State.settleUnpaged_pageEnded hready p m hrun] at ht
  refine ⟨by rw [ht], by rw [ht], .of_setFault (by rw [ht]), ?_, onlyChanges_of_forall fun b => ?_⟩
  · simp [ht, Journaled, JournalWriter.hand]
  · rw [ht]
    cases b <;> simp [Block.agrees, bookkeeping]

end Ended

/-! ## The work of a rewrite -/

/-- The page writer as a rewrite of the part's fields begins: the next edit count, and nothing owed (R181). -/
def PageWriter.begun (p : PageWriter) (d : Device) : PageWriter :=
  { p with
    editCount := p.editCount + 1, owed := false, retryAt := none, running := some (d.pageImage (p.editCount + 1)) }

/-- The page writer after a whole rewrite: one owed begins at once (R181). -/
def PageWriter.whole (p : PageWriter) (d : Device) : PageWriter :=
  if p.owed then { p.begun d with failRun := false } else { p with running := none, failRun := false }

section Work

variable {d : Device} (h : d.stage.entries = [])
include h

/-- A rewrite that begins touches the page writer alone. -/
theorem Device.beginRewrite_eq : d.beginRewrite = d.pageEnded (d.page.begun d) d.regs [] :=
  Device.onPage_eq_pageEnded h fun _ => d.page.begun d

/-- So does one that ends whole. -/
theorem Device.rewriteWhole_eq : d.rewriteWhole = d.pageEnded (d.page.whole d) d.regs [] := by
  unfold Device.rewriteWhole PageWriter.whole
  dsimp only
  split
  · exact Device.onPage_eq_pageEnded h fun _ => { d.page.begun d with failRun := false }
  · exact Device.onPage_eq_pageEnded h fun p => { p with running := none, failRun := false }

/-- A rewrite that fails ONLINE: the fault, an entry for the first failure after a whole rewrite, and the retry
(R182). -/
theorem Device.rewriteFailed_eq (honline : d.engine.state = .online) (bus : Bus) :
    d.rewriteFailed bus =
      d.pageEnded { d.page with running := none, failRun := true, retryAt := some (after d.now 1000) }
        (d.regs.setFault d.now .memory)
        (if d.page.failRun then [] else [.memory (d.failedPageOffset bus) .statePage]) := by
  unfold Device.rewriteFailed
  dsimp only
  split
  · simp [Device.pageEnded, Device.onPage, Device.setFault, honline, EngineState.retriesPage, Config.retryTime, ← h]
  · simp [Device.pageEnded, Device.onPage, Device.setFault, Device.emit, Stage.emit, honline, EngineState.retriesPage,
      Config.retryTime, h]

end Work

/-- Settles O51: a rewrite by the outcome of its accesses, and the retry as a rewrite that begins. -/
theorem statePageIsRewritten : Obligations.StatePageIsRewritten := by
  intro s hready
  obtain ⟨hr, hen, -, -⟩ := State.isReady_spec hready
  constructor
  · intro bus image himage run
    have hexec : exec (.statePageRewrite bus) s = .next (s.rewritePage image bus) := by
      show execStatePageRewrite bus s = _
      simp [execStatePageRewrite, himage, hr]
    refine ⟨fun hok => ?_, fun hfail honline => ?_⟩
    · have hwhole : s.rewritePage image bus =
          s.settle (s.dev.beginEvent.pageEnded (s.dev.page.whole s.dev) s.dev.regs []) run.2.mem := by
        have hwrite : portWriteAll { mem := s.mem, bus := bus } (pageWrites s.dev.pageAddress image) = (true, run.2) :=
          Prod.ext hok rfl
        rw [State.rewritePage, hwrite]
        exact congrArg (s.settle · run.2.mem) (Device.rewriteWhole_eq (d := s.dev.beginEvent) hen)
      obtain ⟨hpage, h⟩ := State.settle_pageEnded_outcome hready (s.dev.page.whole s.dev) run.2.mem
      refine ⟨_, hexec.trans (congrArg _ hwhole), ?_, hpage, h⟩
      rw [State.settle_pageEnded hready]
    · refine ⟨_, hexec, State.settleUnpaged_pageEnded_outcome hready _ _ (.inl (by rw [honline]; rfl)) ?_⟩
      have hwrite : portWriteAll { mem := s.mem, bus := bus } (pageWrites s.dev.pageAddress image) = (false, run.2) :=
        Prod.ext hfail rfl
      rw [State.rewritePage, hwrite]
      exact congrArg (s.settleUnpaged · run.2.mem) (Device.rewriteFailed_eq (d := s.dev.beginEvent) hen honline bus)
  · intro m hnone hretry hreached
    have hexec : exec .statePageRetry s =
        .next (s.settle (s.dev.beginEvent.pageEnded (s.dev.page.begun s.dev) s.dev.regs []) s.mem) := by
      have hdue : (timerDue s.dev.now s.dev.page.retryAt && s.dev.page.running.isNone) = true := by
        rw [hretry, hnone]
        exact congrArg (· && true) hreached
      show execStatePageRetry s = _
      rw [execStatePageRetry, hdue, State.event_due hr]
      exact congrArg (fun d => Host.Outcome.next (s.settle d s.mem))
        (Device.beginRewrite_eq (d := s.dev.beginEvent) hen)
    obtain ⟨hpage, hj, hc⟩ := State.settle_pageEnded_outcome hready (s.dev.page.begun s.dev) s.mem
    refine ⟨_, hexec, hpage, hj, OnlyChanges.unname (b := .mem) hc ?_ (by decide)⟩
    rw [State.settle_pageEnded hready]
    exact rfl

end Sys2Proof.Machine
end

section
/-! The writes of the register bus: the command of each address, CONTROL without a change of the enable, AREA and ACK
(R184 to R186, R191, R192, R201, R202). -/
namespace Sys2Proof.Machine

open Sys2Proof

/-! ## The register map (R184, R201) -/

/-- The address of a register's word, from the byte addresses within it (R202). -/
theorem wordAddress_eq {addr : Word} {base : Nat} (hbase : base % 4 = 0) (hlo : base ≤ addr.toNat)
    (hhi : addr.toNat < base + 4) : wordAddress addr = base := by
  unfold wordAddress
  omega

/-- An address outside the words of CONTROL, AREA, NOTICE and ACK takes no writes. -/
theorem isWritableRegister_eq_false {addr : Word}
    (h : addr.toNat < 4 ∨ (16 ≤ addr.toNat ∧ addr.toNat < 20) ∨ 24 ≤ addr.toNat) : isWritableRegister addr = false := by
  simp [isWritableRegister, wordAddress]
  omega

section Map

variable {addr : Word} (w : RegWrite) (cut : ResetCut)

/-- A write to CONTROL, by its word: the reset bit before the enable (R186). -/
theorem registerWriteCommand_control (hlo : 4 ≤ addr.toNat) (hhi : addr.toNat < 8) :
    registerWriteCommand addr w cut = controlCommand w cut :=
  if_pos (wordAddress_eq rfl hlo hhi)

/-- A write to AREA. -/
theorem registerWriteCommand_area (hlo : 8 ≤ addr.toNat) (hhi : addr.toNat < 12) :
    registerWriteCommand addr w cut = .area w := by
  rw [registerWriteCommand, wordAddress_eq rfl hlo hhi]
  rfl

/-- A write to NOTICE. -/
theorem registerWriteCommand_notice (hlo : 12 ≤ addr.toNat) (hhi : addr.toNat < 16) :
    registerWriteCommand addr w cut = .notice w := by
  rw [registerWriteCommand, wordAddress_eq rfl hlo hhi]
  rfl

/-- A write to ACK. -/
theorem registerWriteCommand_ack (hlo : 20 ≤ addr.toNat) (hhi : addr.toNat < 24) :
    registerWriteCommand addr w cut = .ack w := by
  rw [registerWriteCommand, wordAddress_eq rfl hlo hhi]
  rfl

/-- A write to a register that takes none is ignored. -/
theorem registerWriteCommand_ignored (h : isWritableRegister addr = false) :
    registerWriteCommand addr w cut = .ignoredRegisterWrite addr w := by
  simp [isWritableRegister, and_assoc] at h
  obtain ⟨hcontrol, harea, hnotice, hack⟩ := h
  rw [registerWriteCommand, if_neg hcontrol, if_neg harea, if_neg hnotice, if_neg hack]

/-- The CONTROL row of a word spells it. -/
theorem controlCommand_wellFormed {w : RegWrite} {cut : ResetCut} (hlanes : lanesWritten w = true)
    (hcut : cutShortOfEnd cut = true) : (controlCommand w cut).wellFormed = true := by
  unfold controlCommand isResetWord
  split
  · simp_all [Instr.wellFormed]
  · split <;> simp_all [Instr.wellFormed]

/-- The command of a write on the register bus spells its row. -/
theorem registerWriteCommand_wellFormed {w : RegWrite} {cut : ResetCut} (hlanes : lanesWritten w = true)
    (hcut : cutShortOfEnd cut = true) : (registerWriteCommand addr w cut).wellFormed = true := by
  unfold registerWriteCommand
  split_ifs with hcontrol harea hnotice hack
  · exact controlCommand_wellFormed hlanes hcut
  · exact hlanes
  · exact hlanes
  · exact hlanes
  · simp [Instr.wellFormed, isWritableRegister, *]

end Map

/-! ## Writes to CONTROL, AREA and ACK -/

/-- A CONTROL write that leaves the enable as it was touches the registers alone (R186). -/
theorem Device.writeControl_sameEnable {d : Device} {v : Word} (h : v.getLsbD 0 = d.regs.control.getLsbD 0) :
    d.writeControl v = { d with regs := d.regs.writeControl v } := by
  have hsame : d.regs.enable = v.getLsbD 0 := h.symm
  simp [Device.writeControl, hsame]

/-- The four rows of CONTROL without the reset bit are one write (log 25). -/
theorem exec_controlRow (s : State) (w : RegWrite) {c : Instr}
    (h : c = .controlEnableSet w ∨ c = .controlEnableClear w ∨ c = .attentionMode w ∨ c = .causeEnable w) :
    exec c s = .next (s.controlWrite w ResetCut.clean) := by
  rcases h with rfl | rfl | rfl | rfl <;> rfl

section Writes

variable {s : State} (hready : s.isReady = true) {w : RegWrite}
include hready

/-- An event that touches the registers alone. -/
theorem State.regsEvent_outcome {regs : Registers} {bs : List Block} {due : Bool} {body : Device → Device}
    (hregs : ∀ b : Block, b ∈ bs ∨ b.agrees s { s with dev := { s.dev with regs := regs } }) (hdue : due = true)
    (hb : body s.dev.beginEvent = { s.dev.beginEvent with regs := regs }) :
    ∃ t, t = s.event due body ∧ t.dev.regs = regs ∧ EventChanges bs s t := by
  obtain ⟨hr, hen, hpc, hover⟩ := State.isReady_spec hready
  have hframe (b : Block) : b ∈ bs ∨ b ∈ [Block.entries, .eventStamp, .page, .pageCause] ∨
      b.agrees s { s with dev := { s.dev.beginEvent with regs := regs } } := by
    have h := hregs b
    revert h
    cases b <;> simp [Block.agrees, Device.beginEvent]
  obtain ⟨t, ht, ⟨p, q, hs⟩, -, hc⟩ :=
    State.event_outcome _ [] bs hdue hr hen hpc (.inr rfl) hb hen rfl hover hframe
  exact ⟨t, ht, by rw [hs], hc⟩

/-- A CONTROL write that leaves the enable as it was (R186, R191). -/
theorem State.controlWrite_sameEnable (cut : ResetCut) (hnoReset : (regWord w).getLsbD 31 = false)
    (hsame : (regWord w).getLsbD 0 = s.dev.regs.control.getLsbD 0) :
    ∃ t, t = s.controlWrite w cut ∧ t.dev.regs = s.dev.regs.writeControl (regWord w)
      ∧ EventChanges [.control, .attnPulse] s t := by
  obtain ⟨hr, -, -, -⟩ := State.isReady_spec hready
  obtain ⟨t, ht, h⟩ := State.regsEvent_outcome hready (regs := s.dev.regs.writeControl (regWord w))
    (bs := [.control, .attnPulse]) (fun b => by cases b <;> simp [Block.agrees, Registers.writeControl]) rfl
    (body := fun d => d.writeControl (regWord w)) (Device.writeControl_sameEnable (d := s.dev.beginEvent) hsame)
  have hnone : isResetWord (regWord w) = false := hnoReset
  refine ⟨t, ?_, h⟩
  rw [ht, State.controlWrite, hr, hnone]
  rfl

end Writes

/-- Settles O54: the register map by the word of the address, and each write as an event of the registers alone. -/
theorem registerWritesAreTaken : Obligations.RegisterWritesAreTaken := by
  constructor
  · intro addr w cut c a
    exact ⟨registerWriteCommand_control w cut, registerWriteCommand_area w cut, registerWriteCommand_notice w cut,
      registerWriteCommand_ack w cut, fun h => registerWriteCommand_ignored w cut (isWritableRegister_eq_false h),
      registerWriteCommand_wellFormed⟩
  · intro s w hready
    refine ⟨fun c hc hnoReset hsame => ?_, fun htakes => ?_, fun hkeeps => ?_, ?_, fun addr => rfl⟩
    · obtain ⟨t, ht, hregs, h⟩ := State.controlWrite_sameEnable hready ResetCut.clean hnoReset hsame
      exact ⟨t, (exec_controlRow s w hc).trans (congrArg _ ht.symm), by rw [hregs]; rfl, by rw [hregs]; rfl, h⟩
    · have hdue : s.dev.engine.state.takesArea = true := by rcases htakes with h | h <;> rw [h] <;> rfl
      obtain ⟨t, ht, hregs, h⟩ := State.regsEvent_outcome hready
        (regs := { s.dev.regs with area := areaWord (regWord w) }) (bs := [.area])
        (fun b => by cases b <;> simp [Block.agrees]) hdue
        (body := fun d => { d with regs := { d.regs with area := areaWord (regWord w) } }) rfl
      exact ⟨t, congrArg _ ht.symm, by rw [hregs]; rfl, h⟩
    · have hnot : s.dev.engine.state.takesArea = false := by rcases hkeeps with h | h | h <;> rw [h] <;> rfl
      exact congrArg _ (State.event_not_due s _ _ (.inr hnot))
    · obtain ⟨t, ht, hregs, h⟩ := State.regsEvent_outcome hready (regs := s.dev.regs.acknowledge (regWord w))
        (bs := [.causes, .faults, .fieldCode]) (fun b => by cases b <;> simp [Block.agrees, Registers.acknowledge]) rfl
        (body := fun d => { d with regs := d.regs.acknowledge (regWord w) }) rfl
      refine ⟨t, congrArg _ ht.symm, fun n hn => ?_, fun n hn => ?_, by rw [hregs]; rfl, h⟩
      · rw [hregs]
        simp [Registers.acknowledge, hn]
      · rw [hregs]
        simp [Registers.acknowledge, hn]

end Sys2Proof.Machine
end

section
/-! What leaves the register window as it is: the work of the tempo generator, the click unit, the change unit, the feeders,
the pedals and the owners of requests (R185). One lemma for each operation that branches, in the order of the model; those
that other operations are built from are `simp` lemmas. -/
namespace Sys2Proof.Machine

open Sys2Proof

section Frames

variable (d : Device)

/-! ## The tempo generator (R63 to R77) -/

@[simp] theorem Device.makeCurrent_regs (v : Nat) (cause : TempoCause) : (d.makeCurrent v cause).regs = d.regs := by
  unfold makeCurrent
  dsimp only
  split <;> rfl

@[simp] theorem Device.applyPendingTempo_regs : d.applyPendingTempo.regs = d.regs := by
  unfold applyPendingTempo
  split
  · rfl
  · exact makeCurrent_regs _ _ _

@[simp] theorem Device.cancelGlide_regs : d.cancelGlide.regs = d.regs := by
  unfold cancelGlide
  split <;> rfl

@[simp] theorem Device.writePendingTempo_regs (v : Nat) (cause : TempoCause) :
    (d.writePendingTempo v cause).regs = d.regs := by
  unfold writePendingTempo
  dsimp only
  split <;> simp

@[simp] theorem Device.writeTempo_regs (v g : Nat) (cause : TempoCause) : (d.writeTempo v g cause).regs = d.regs := by
  unfold writeTempo writeGlide
  split
  · simp
  · split <;> simp

@[simp] theorem Device.setSource_regs (src : TempoSource) : (d.setSource src).regs = d.regs := by
  unfold setSource
  split
  · rfl
  · cases src <;> simp

@[simp] theorem Device.followRead_regs : d.followRead.regs = d.regs := by
  unfold followRead
  split
  · split <;> simp
  · rfl

@[simp] theorem Device.stepGlide_regs (g : Glide) : (d.stepGlide g).regs = d.regs := by
  unfold stepGlide
  dsimp only
  split <;> rfl

@[simp] theorem Device.beatWork_regs : d.beatWork.regs = d.regs := by
  unfold beatWork
  split
  · simp
  · simp
  · split <;> simp

@[simp] theorem Device.advanceTick_regs : d.advanceTick.regs = d.regs := by
  unfold advanceTick
  split
  · rfl
  · split <;> rfl

@[simp] theorem Device.startTick_regs : d.startTick.regs = d.regs := by
  have hbeat : (if d.tempo.atBeat then d.beatWork.causePage else d).regs = d.regs := by split <;> simp
  unfold startTick
  dsimp only
  split <;> exact hbeat

@[simp] theorem Device.stopTempo_regs (cause : TransportCause) : (d.stopTempo cause).regs = d.regs := by
  unfold stopTempo
  split <;> simp

/-! ## The click unit (R104 to R113) -/

@[simp] theorem Device.onLines_regs (f : Fin 4 → ClickLine → Stage → ClickLine × Stage) :
    (d.onLines f).regs = d.regs := by
  unfold onLines
  generalize List.finRange 4 = ns
  induction ns generalizing d with
  | nil => rfl
  | cons n ns ih => exact ih (d.onLine n (f n))

@[simp] theorem Device.clickStop_regs : d.clickStop.regs = d.regs := d.onLines_regs _

@[simp] theorem Device.toggleMute_regs : d.toggleMute.regs = d.regs := by
  unfold toggleMute
  dsimp only
  split <;> simp

@[simp] theorem Device.beginTick_regs : d.beginTick.regs = d.regs := by
  unfold beginTick clickTick
  simp

@[simp] theorem Device.startTransport_regs (bars : Nat) (cause : TransportCause) :
    (d.startTransport bars cause).regs = d.regs := by
  unfold startTransport
  split <;> simp

/-! ## The change unit (R116 to R133, R141) -/

@[simp] theorem Device.handTiming_regs (sc : SceneCopy) : (d.handTiming sc).regs = d.regs := by
  have hsettings : (((d.onTempo (·.handMeter sc.meter)).handClick sc.subdivisions sc.accents).setSource sc.source).regs =
      d.regs := by
    simp [handClick]
  unfold handTiming
  dsimp only
  generalize (((d.onTempo (·.handMeter sc.meter)).handClick sc.subdivisions sc.accents).setSource sc.source)
    = d2 at hsettings
  have htempo : (if sc.tempo = 0 then d2
      else if sc.source = .follow then d2.emit (.tempoIgnored sc.number sc.tempo)
      else d2.writeTempo sc.tempo sc.glideBeats .scene).regs = d.regs := by
    split
    · exact hsettings
    · split <;> simp [hsettings]
  generalize (if sc.tempo = 0 then d2 else _) = d3 at htempo ⊢
  split <;> simp [htempo]

@[simp] theorem Device.completeGo_regs (g : Option GoFlight) (code : ResultCode) (value : Nat) :
    (d.completeGo g code value).regs = d.regs := by
  unfold completeGo
  split <;> rfl

@[simp] theorem Device.completeCue_regs (o : CueOrigin) (code : ResultCode) (value : Nat) :
    (d.completeCue o code value).regs = d.regs := by
  cases o <;> rfl

@[simp] theorem Device.switchTo_regs (sc : SceneCopy) (moment : Moment) : (d.switchTo sc moment).regs = d.regs := by
  unfold switchTo
  simp

@[simp] theorem Device.makeSwitch_regs (moment : Moment) : (d.makeSwitch moment).regs = d.regs := by
  unfold makeSwitch
  split <;> simp

@[simp] theorem Device.arm_regs : d.arm.regs = d.regs := by
  unfold arm
  split
  · rfl
  · split_ifs <;> simp

@[simp] theorem Device.changeBoundary_regs : d.changeBoundary.regs = d.regs := by
  unfold changeBoundary
  split
  · split <;> split <;> simp
  · rfl

@[simp] theorem Device.changeStop_regs : d.changeStop.regs = d.regs := by
  unfold changeStop
  split <;> simp

@[simp] theorem Device.abandonCue_regs (code : ResultCode) : (d.abandonCue code).regs = d.regs := by
  unfold abandonCue
  split <;> simp

@[simp] theorem Device.cancelChange_regs : d.cancelChange.regs = d.regs := by
  unfold cancelChange
  simp

@[simp] theorem Device.drainChange_regs : d.drainChange.regs = d.regs := by
  unfold drainChange
  simp

@[simp] theorem Device.copyFailed_regs (ld : Load) (code : ResultCode) (value : Nat) :
    (d.copyFailed ld code value).regs = d.regs := by
  unfold copyFailed
  dsimp only
  split <;> simp

@[simp] theorem Device.copyFormed_regs (ld : Load) (sc : SceneCopy) : (d.copyFormed ld sc).regs = d.regs := by
  unfold copyFormed
  dsimp only
  split
  · split <;> simp
  · simp
  · simp

@[simp] theorem Device.setListEntryRead_regs (ld : Load) (entry : Nat) : (d.setListEntryRead ld entry).regs = d.regs := by
  unfold setListEntryRead
  split <;> simp

@[simp] theorem Device.sceneRecordRead_regs (ld : Load) (n : BitVec 7) (rec : List Byte) :
    (d.sceneRecordRead ld n rec).regs = d.regs := by
  unfold sceneRecordRead tornRead
  dsimp only
  split
  · split <;> simp
  · split <;> simp

/-! ## The feeders (R85 to R97) -/

@[simp] theorem Device.takeTap_regs : d.takeTap.1.regs = d.regs := by
  have hoffered (d : Device) (v : Nat) : (d.offerTap v).1.regs = d.regs := by
    unfold offerTap
    split
    · simp
    · split <;> simp
  unfold takeTap
  split
  · rfl
  · dsimp only
    split
    · rfl
    · split
      · rfl
      · exact hoffered _ _

@[simp] theorem Device.setEstimate_regs (average : Nat) : (d.setEstimate average).regs = d.regs := by
  unfold setEstimate
  dsimp only
  split <;> rfl

@[simp] theorem Device.gatherEdge_regs (i : Nat) : (d.gatherEdge i).regs = d.regs := by
  unfold gatherEdge syncLock
  dsimp only
  split <;> simp

@[simp] theorem Device.lockedEdge_regs (i : Nat) : (d.lockedEdge i).regs = d.regs := by
  unfold lockedEdge
  dsimp only
  split <;> simp

@[simp] theorem Device.acceptEdge_regs : d.acceptEdge.regs = d.regs := by
  unfold acceptEdge
  cases d.sync.state <;> simp

@[simp] theorem Device.takeEdge_regs : d.takeEdge.regs = d.regs := by
  unfold takeEdge
  split
  · rfl
  · split
    · simp
    · split <;> simp

/-! ## The pedals (R144 to R152) -/

@[simp] theorem Device.dispatchPress_regs (n : Fin 8) : (d.dispatchPress n).1.regs = d.regs := by
  have hstep (dir : Direction) : (d.stepPress n dir).1.regs = d.regs := by
    unfold stepPress
    split
    · rfl
    · split <;> rfl
  unfold dispatchPress
  cases d.pedals[n].setup.function with
  | next => exact hstep .next
  | prev => exact hstep .prev
  | go =>
    show (d.goPress n).1.regs = d.regs
    unfold goPress goReport
    cases d.change.state with
    | loading => dsimp only; split <;> rfl
    | cued => exact arm_regs _
    | _ => rfl
  | hold =>
    show (d.holdPress n).1.regs = d.regs
    unfold holdPress goReport
    split
    · rfl
    · split
      · rfl
      · exact arm_regs _
    · rfl
  | tap => exact d.takeTap_regs
  | clickMute => exact d.toggleMute_regs
  | _ => rfl

@[simp] theorem Device.dispatchRelease_regs (n : Fin 8) : (d.dispatchRelease n).1.regs = d.regs := by
  unfold dispatchRelease
  cases d.pedals[n].setup.function <;> rfl

@[simp] theorem Device.pedalEdge_regs (n : Fin 8) (edge : PedalEdge) (cause : PedalCause) :
    (d.pedalEdge n edge cause).regs = d.regs := by
  show (d.dispatchEdge n edge).1.regs = d.regs
  unfold dispatchEdge
  split
  · split <;> rfl
  · cases edge <;> simp

@[simp] theorem Device.reloadPedal_regs (n : Fin 8) (setup : PedalSetup) : (d.reloadPedal n setup).regs = d.regs := by
  unfold reloadPedal
  dsimp only
  split
  · rfl
  · split <;> simp

@[simp] theorem Device.reloadPedals_regs (bs : List Byte) : (d.reloadPedals bs).regs = d.regs := by
  unfold reloadPedals
  generalize List.finRange 8 = ns
  induction ns generalizing d with
  | nil => rfl
  | cons n ns ih => exact (ih _).trans (reloadPedal_regs _ _ _)

/-! ## The owners of requests (R172, R176) -/

variable (r : Request)

@[simp] theorem Device.answer_regs (code : ResultCode) (value : Nat) : (d.answer r code value).regs = d.regs := rfl

theorem Device.cueSceneRequest_regs : (Device.cueSceneRequest r d).regs = d.regs := by
  unfold cueSceneRequest
  split_ifs <;> rfl

theorem Device.cuePositionRequest_regs : (Device.cuePositionRequest r d).regs = d.regs := by
  unfold cuePositionRequest
  split_ifs <;> rfl

theorem Device.goRequest_regs : (Device.goRequest r d).regs = d.regs := by
  unfold goRequest
  cases d.change.state with
  | loading => dsimp only; split <;> rfl
  | cued => exact arm_regs _
  | _ => rfl

theorem Device.holdRequest_regs : (Device.holdRequest r d).regs = d.regs := by
  unfold holdRequest
  split <;> rfl

theorem Device.resumeRequest_regs : (Device.resumeRequest r d).regs = d.regs := by
  unfold resumeRequest
  split
  · rfl
  · split
    · rfl
    · exact arm_regs _
  · rfl

theorem Device.cancelRequest_regs : (Device.cancelRequest r d).regs = d.regs := by
  unfold cancelRequest
  split <;> simp

theorem Device.startRequest_regs : (Device.startRequest r d).regs = d.regs := by
  unfold startRequest
  dsimp only
  split <;> simp

theorem Device.stopRequest_regs : (Device.stopRequest r d).regs = d.regs := by
  unfold stopRequest
  dsimp only
  split <;> simp

theorem Device.locateRequest_regs : (Device.locateRequest r d).regs = d.regs := by
  unfold locateRequest
  dsimp only
  split_ifs <;> rfl

theorem Device.setTempoRequest_regs : (Device.setTempoRequest r d).regs = d.regs := by
  unfold setTempoRequest
  dsimp only
  split <;> simp

theorem Device.applySyncRequest_regs : (Device.applySyncRequest r d).regs = d.regs := by
  unfold applySyncRequest
  split
  · rfl
  · split <;> simp

/-- A taken request leaves what its owner's work leaves. -/
theorem Device.carryOut_regs {body : Device → Device} (hb : ∀ d : Device, (body d).regs = d.regs) :
    (d.carryOut r body).regs = d.regs := by
  unfold carryOut
  dsimp only
  split
  · exact hb _
  · rfl

theorem Device.applySection_regs (sec : Section) (bs : List Byte) : (d.applySection sec bs).regs = d.regs := by
  cases sec with
  | click => exact d.onLines_regs _
  | pedals => exact d.reloadPedals_regs bs
  | _ => rfl

@[simp] theorem Device.sectionRead_regs (sec : Section) (bs : List Byte) : (d.sectionRead r sec bs).regs = d.regs := by
  unfold sectionRead
  dsimp only
  split
  · rfl
  · exact d.applySection_regs sec bs

end Frames

end Sys2Proof.Machine
end

section
/-! Every step keeps the bits of CONTROL and AREA that read as 0 (R185, R201, R202): three kinds of command write the two
registers, and every other leaves both as they are. -/
namespace Sys2Proof.Machine

open Sys2Proof

/-! ## The two registers that keep what the host writes -/

/-- The words of CONTROL and AREA. -/
def Registers.hostWords (r : Registers) : Word × Word := (r.control, r.area)

/-- The bits of CONTROL and AREA that read as 0 are 0. -/
def Registers.isClean (r : Registers) : Prop := r.control &&& ~~~controlMask = 0 ∧ r.area &&& 0x0000000F#32 = 0

/-- A machine's registers are clean when those of its part are. -/
theorem State.registersClean_iff (s : State) : s.registersClean ↔ s.dev.regs.isClean := Iff.rfl

/-- Registers with the same two words are as clean. -/
theorem Registers.isClean_of_hostWords {r r' : Registers} (hwords : r'.hostWords = r.hostWords) (h : r.isClean) :
    r'.isClean := by
  obtain ⟨hcontrol, harea⟩ := Prod.mk.inj hwords
  rw [isClean, hcontrol, harea]
  exact h

/-- A sticky fault is no change of the two words. -/
@[simp] theorem Registers.setFault_hostWords (r : Registers) (now : Word) (f : StickyFault) :
    (r.setFault now f).hostWords = r.hostWords := by
  simp [hostWords]

/-- Nor is a cause. -/
@[simp] theorem Registers.latch_hostWords (r : Registers) (now : Word) (c : Cause) :
    (r.latch now c).hostWords = r.hostWords := rfl

/-- A write to CONTROL keeps the named bits alone. -/
theorem Registers.writeControl_isClean {r : Registers} (h : r.isClean) (w : Word) : (r.writeControl w).isClean := by
  obtain ⟨-, harea⟩ := h
  refine ⟨?_, harea⟩
  show w &&& controlMask &&& ~~~controlMask = 0
  rw [BitVec.and_assoc, BitVec.and_not_self]
  exact BitVec.and_zero

/-- A write to AREA keeps the four lowest bits at 0. -/
theorem areaWord_clean (w : Word) : areaWord w &&& 0x0000000F#32 = 0 := by
  rw [areaWord, BitVec.and_assoc, show 0xFFFFFFF0#32 &&& 0x0000000F#32 = 0#32 by decide, BitVec.and_zero]
  rfl

/-! ## Work that may set a fault or the field code (R170, R185, R190) -/

section Words

variable (d : Device)

/-- A failed access sets its fault. -/
@[simp] theorem Device.memoryFailure_hostWords (off : Nat) (user : MemoryUser) :
    (d.memoryFailure off user).regs.hostWords = d.regs.hostWords :=
  Registers.setFault_hostWords _ _ _

/-- A set list entry that was read, or not. -/
theorem Device.setListRead_hostWords (rd : CopyRead) (p : Nat) (run : PortRun) :
    (d.setListRead rd p run).1.regs.hostWords = d.regs.hostWords := by
  unfold setListRead
  dsimp only
  split
  · dsimp only
    split <;> simp
  · simp
  · dsimp only
    split <;> simp
  · rfl

/-- A scene record that was read, or not. -/
theorem Device.sceneRead_hostWords (rd : CopyRead) (n : BitVec 7) (run : PortRun) :
    (d.sceneRead rd n run).1.regs.hostWords = d.regs.hostWords := by
  unfold sceneRead
  dsimp only
  split
  · dsimp only
    split <;> simp
  · simp
  · dsimp only
    split <;> simp
  · rfl

/-- A line fault sets its fault. -/
theorem Device.keyByte_hostWords (port : Fin 4) (byte : Byte) (stopBit : Bool) :
    (d.keyByte port byte stopBit).regs.hostWords = d.regs.hostWords := by
  unfold keyByte reportLineFault
  dsimp only
  split <;> simp

/-- A failed access at a slot sets its fault. -/
@[simp] theorem Device.slotFailure_hostWords (slot : Fin 8) (offset : Nat) :
    (d.slotFailure slot offset).regs.hostWords = d.regs.hostWords := by
  unfold slotFailure
  dsimp only
  split <;> simp

/-- A visit to a slot. -/
theorem Device.visitSlot_hostWords (slot : Fin 8) (run : PortRun) :
    (d.visitSlot slot run).1.regs.hostWords = d.regs.hostWords := by
  unfold visitSlot takeSlot
  split
  · simp
  · dsimp only
    split
    · rfl
    · split <;> simp

/-- The writes of a completion. -/
theorem Device.writeCompletion_hostWords (c : Completion) (run : PortRun) :
    (d.writeCompletion c run).1.regs.hostWords = d.regs.hostWords := by
  unfold writeCompletion slotWhole
  dsimp only
  split <;> simp

/-- And their retry. -/
theorem Device.retryCompletion_hostWords (r : Retry) (run : PortRun) :
    (d.retryCompletion r run).1.regs.hostWords = d.regs.hostWords := by
  unfold retryCompletion slotWhole
  dsimp only
  split <;> simp

/-- A RELOAD as the scan took it. -/
theorem Device.carryOutReload_hostWords (r : Request) (run : PortRun) :
    (d.carryOutReload r run).1.regs.hostWords = d.regs.hostWords := by
  have hreload (d : Device) : (Device.reloadRequest r run d).1.regs.hostWords = d.regs.hostWords := by
    unfold reloadRequest
    split
    · rfl
    · split <;> simp
  unfold carryOutReload
  dsimp only
  split
  · exact hreload _
  · rfl

/-- The taking of a journal entry sets causes and faults alone. -/
theorem Device.takeEntry_hostWords (h : Handed) (run : PortRun) :
    (d.takeEntry h run).1.regs.hostWords = d.regs.hostWords := by
  rw [(d.takeEntry_spec h run).regs]
  rfl

/-- The header read of an abandoned LOADING. -/
theorem Device.abandonedRead_hostWords (run : PortRun) : (d.abandonedRead run).1.regs.hostWords = d.regs.hostWords := by
  unfold abandonedRead
  dsimp only
  split <;> simp

/-- The reads of LOADING. -/
theorem Device.loadHeader_hostWords (run : PortRun) : (d.loadHeader run).1.regs.hostWords = d.regs.hostWords := by
  have hfailed (f : StickyFault) (code : Nat) : (d.loadingFailed f code).regs.hostWords = d.regs.hostWords :=
    Registers.setFault_hostWords _ _ _
  have honline (d : Device) (h : List Byte) (page : Option (List Byte)) : (d.enterOnline h page).regs = d.regs := rfl
  unfold loadHeader
  split
  · exact hfailed _ _
  · split
    · exact hfailed _ _
    · unfold loadPage
      split <;> simp [honline]

/-- A rewrite that ends whole. -/
theorem Device.rewriteWhole_hostWords : d.rewriteWhole.regs.hostWords = d.regs.hostWords := by
  unfold rewriteWhole
  dsimp only
  split <;> rfl

/-- A rewrite that fails. -/
theorem Device.rewriteFailed_hostWords (bus : Bus) : (d.rewriteFailed bus).regs.hostWords = d.regs.hostWords := by
  unfold rewriteFailed
  dsimp only
  split <;> simp

/-- A drain that begins leaves the register window. -/
theorem Device.beginDrain_regs : d.beginDrain.regs = d.regs := by
  unfold beginDrain
  simp

/-- The enable set: LOADING may clear the field code. -/
theorem Device.enableSet_hostWords : d.enableSet.regs.hostWords = d.regs.hostWords := by
  unfold enableSet
  cases d.engine.state <;> rfl

/-- The enable cleared. -/
theorem Device.enableCleared_hostWords : d.enableCleared.regs.hostWords = d.regs.hostWords := by
  unfold enableCleared
  cases d.engine.state with
  | online => exact congrArg Registers.hostWords d.beginDrain_regs
  | _ => rfl

/-- What a write to CONTROL leaves of the two words is what it does to the registers (R186). -/
theorem Device.writeControl_hostWords (w : Word) :
    (d.writeControl w).regs.hostWords = (d.regs.writeControl w).hostWords := by
  unfold writeControl
  dsimp only
  split
  · exact enableSet_hostWords _
  · split
    · exact enableCleared_hostWords _
    · rfl

end Words

/-! ## The kinds of command -/

/-- What ends a failed rewrite's event leaves the two words, as every event's end does (R182). -/
theorem State.settleUnpaged_hostWords (s : State) (d : Device) (m : Mem) :
    (s.settleUnpaged d m).dev.regs.hostWords = d.regs.hostWords := by
  unfold State.settleUnpaged
  cases hover : d.drainOver
  · rw [State.endEvent_not_over m _ hover]
    rfl
  · rw [State.endEvent_over m _ hover, Device.endDrain_eq, State.drainTaken_eq]
    rfl

/-- An event leaves the registers as clean as its work does. -/
theorem State.settle_registersClean {s : State} {d : Device} {m : Mem} (h : d.regs.isClean) :
    (s.settle d m).registersClean := by
  obtain ⟨hcontrol, harea, -⟩ := s.settle_regs d m
  exact Registers.isClean_of_hostWords (Prod.ext hcontrol harea) h

/-- After a device reset both registers are 0 (R193). -/
theorem State.deviceReset_registersClean (s : State) (cut : ResetCut) (clock : Word) (low : Bool) :
    (s.deviceReset cut clock low).registersClean :=
  (State.registersClean_iff _).2 (show Registers.reset.isClean from ⟨by decide, by decide⟩)

section Commands

variable {s : State} (h : s.registersClean)
include h

/-- A command that touches no memory, whose work leaves the registers clean. -/
theorem State.event_registersClean_of_body {due : Bool} {body : Device → Device}
    (hb : (body s.dev.beginEvent).regs.isClean) : (s.event due body).registersClean := by
  unfold State.event
  split
  · exact h
  · exact State.settle_registersClean hb

/-- One whose work leaves the two words. -/
theorem State.event_registersClean {due : Bool} {body : Device → Device}
    (hb : (body s.dev.beginEvent).regs.hostWords = s.dev.regs.hostWords) : (s.event due body).registersClean :=
  State.event_registersClean_of_body h (Registers.isClean_of_hostWords hb h)

/-- A command with accesses of the memory port, whose work leaves the two words. -/
theorem State.portEvent_registersClean {due : Bool} {bus : Bus} {body : Device → PortRun → Device × PortRun}
    (hb : ∀ run, (body s.dev.beginEvent run).1.regs.hostWords = s.dev.regs.hostWords) :
    (s.portEvent due bus body).registersClean := by
  unfold State.portEvent
  split
  · exact h
  · exact State.settle_registersClean (Registers.isClean_of_hostWords (hb _) h)

/-- An arrival, whose row leaves the register window. -/
theorem State.arrival_registersClean {port : Fin 4} {fits : Message → Bool} {body : Message → Device → Device}
    (hb : ∀ (m : Message) (d : Device), (body m d).regs = d.regs) : (s.arrival port fits body).registersClean := by
  unfold State.arrival
  split
  · exact h
  · exact State.event_registersClean h (congrArg Registers.hostWords (hb _ _))

/-- A request, whose owner leaves the register window. -/
theorem State.request_registersClean {fits : Byte → Bool} {body : Request → Device → Device}
    (hb : ∀ (d : Device) (r : Request), (body r d).regs = d.regs) : (s.request fits body).registersClean := by
  unfold State.request
  split
  · exact h
  · exact State.event_registersClean h
      (congrArg Registers.hostWords (Device.carryOut_regs _ _ fun d => hb d _))

/-- A write to CONTROL (R186, R201). -/
theorem State.controlWrite_registersClean (w : RegWrite) (cut : ResetCut) : (s.controlWrite w cut).registersClean := by
  unfold State.controlWrite
  split
  · exact h
  · split
    · exact State.deviceReset_registersClean s cut _ false
    · exact State.event_registersClean_of_body h
        (Registers.isClean_of_hostWords (Device.writeControl_hostWords _ _) (Registers.writeControl_isClean h _))

/-- A write to AREA (R185, R201). -/
theorem State.areaWrite_registersClean (w : RegWrite) (due : Bool) :
    (s.event due fun d => { d with regs := { d.regs with area := areaWord (regWord w) } }).registersClean := by
  obtain ⟨hcontrol, -⟩ := (State.registersClean_iff s).1 h
  exact State.event_registersClean_of_body h ⟨hcontrol, areaWord_clean _⟩

/-- The rewrite of the state page (R181, R182). -/
theorem State.rewritePage_registersClean (image : List Byte) (bus : Bus) :
    (s.rewritePage image bus).registersClean := by
  unfold State.rewritePage
  split
  · exact State.settle_registersClean (Registers.isClean_of_hostWords (Device.rewriteWhole_hostWords _) h)
  · exact Registers.isClean_of_hostWords
      ((State.settleUnpaged_hostWords _ _ _).trans (Device.rewriteFailed_hostWords _ bus)) h

end Commands

/-! ## Every command -/

/-- An outcome that, where it goes on, leaves the registers clean. -/
def LeavesClean (o : Host.Outcome State Fault Refusal) : Prop := ∀ t, o = .next t → t.registersClean

/-- The machine goes on with its registers clean. -/
theorem LeavesClean.next {t : State} (h : t.registersClean) : LeavesClean (.next t) := by
  intro t' e
  cases e
  exact h

section Arms

variable {s : State} (h : s.registersClean)
include h

/-- The reads of the change unit (R12, R14). -/
theorem copyRead_leavesClean (bus : Bus) :
    LeavesClean (execSetListReadCompletion bus s) ∧ LeavesClean (execSceneReadCompletion bus s) := by
  unfold execSetListReadCompletion execSceneReadCompletion
  constructor
  · split
    · exact .next (State.portEvent_registersClean h (Device.setListRead_hostWords _ _ _))
    · exact .next h
  · split
    · exact .next (State.portEvent_registersClean h (Device.sceneRead_hostWords _ _ _))
    · exact .next h

/-- SLOT_VISIT (R175) and RELOAD (R172). -/
theorem slotRead_leavesClean (bus : Bus) : LeavesClean (execSlotVisit bus s) ∧ LeavesClean (execReload bus s) := by
  unfold execSlotVisit execReload
  constructor
  · split
    · exact .next h
    · exact .next (State.portEvent_registersClean h (Device.visitSlot_hostWords _ _))
  · split
    · exact .next h
    · exact .next (State.portEvent_registersClean h (Device.carryOutReload_hostWords _ _))

/-- SLOT_COMPLETION (R177) and COMPLETION_RETRY (R179). -/
theorem slotWrite_leavesClean (slot : Fin 8) (bus : Bus) :
    LeavesClean (execSlotCompletion slot bus s) ∧ LeavesClean (execCompletionRetry slot bus s) := by
  unfold execSlotCompletion execCompletionRetry
  constructor
  · split
    · exact .next h
    · exact .next (State.portEvent_registersClean h (Device.writeCompletion_hostWords _ _))
  · split
    · exact .next h
    · exact .next (State.portEvent_registersClean h (Device.retryCompletion_hostWords _ _))

/-- STATE_PAGE_REWRITE (R181). -/
theorem statePageRewrite_leavesClean (bus : Bus) : LeavesClean (execStatePageRewrite bus s) := by
  unfold execStatePageRewrite
  split
  · exact .next h
  · refine .next ?_
    split
    · exact h
    · exact State.rewritePage_registersClean h _ bus

/-- JOURNAL_WRITE_COMPLETION (R157). -/
theorem journalWriteCompletion_leavesClean (bus : Bus) : LeavesClean (execJournalWriteCompletion bus s) := by
  unfold execJournalWriteCompletion
  split
  · exact .next h
  · exact .next (State.portEvent_registersClean h (Device.takeEntry_hostWords _ _))

/-- HEADER_READ_COMPLETION (R170, R187). -/
theorem headerReadCompletion_leavesClean (bus : Bus) : LeavesClean (execHeaderReadCompletion bus s) := by
  unfold execHeaderReadCompletion
  split
  · exact .next (State.portEvent_registersClean h (Device.abandonedRead_hostWords _))
  · exact .next (State.portEvent_registersClean h (Device.loadHeader_hostWords _))

/-- PEDAL_INPUT_CHANGE (R144). -/
theorem pedalInputChange_leavesClean (pedal : Fin 8) (high : Bool) :
    LeavesClean (execPedalInputChange pedal high s) := by
  unfold execPedalInputChange
  split
  · exact .next h
  · exact .next (State.event_registersClean h rfl)

/-- Every command keeps the registers clean, by its kind: a write of CONTROL or AREA, a device reset, or work that leaves
both words. -/
theorem exec_leavesClean (c : Instr) : LeavesClean (exec c s) := by
  cases c with
  -- what writes CONTROL or AREA
  | controlEnableSet w => exact .next (State.controlWrite_registersClean h w _)
  | controlEnableClear w => exact .next (State.controlWrite_registersClean h w _)
  | attentionMode w => exact .next (State.controlWrite_registersClean h w _)
  | causeEnable w => exact .next (State.controlWrite_registersClean h w _)
  | controlReset w cut => exact .next (State.controlWrite_registersClean h w cut)
  | area w => exact .next (State.areaWrite_registersClean h w _)
  | powerOn cut => exact .next (s.deviceReset_registersClean cut 0 _)
  | resetPinAssert cut => exact .next (s.deviceReset_registersClean cut _ true)
  -- arrivals at the routing unit
  | keyDown port => exact .next (State.arrival_registersClean h fun _ _ => rfl)
  | keyUp port => exact .next (State.arrival_registersClean h fun _ _ => rfl)
  | damperArrival port => exact .next (State.arrival_registersClean h fun _ _ => rfl)
  | controlArrival port => exact .next (State.arrival_registersClean h fun _ _ => rfl)
  | programArrival port =>
    refine .next (State.arrival_registersClean h fun m d => ?_)
    unfold Device.programArrival Device.programSelect
    split_ifs <;> rfl
  -- requests
  | cueScene => exact .next (State.request_registersClean h Device.cueSceneRequest_regs)
  | cuePosition => exact .next (State.request_registersClean h Device.cuePositionRequest_regs)
  | go => exact .next (State.request_registersClean h Device.goRequest_regs)
  | hold => exact .next (State.request_registersClean h Device.holdRequest_regs)
  | resume => exact .next (State.request_registersClean h Device.resumeRequest_regs)
  | cancel => exact .next (State.request_registersClean h Device.cancelRequest_regs)
  | unlockZones => exact .next (State.request_registersClean h fun _ _ => rfl)
  | start => exact .next (State.request_registersClean h Device.startRequest_regs)
  | stop => exact .next (State.request_registersClean h Device.stopRequest_regs)
  | locate => exact .next (State.request_registersClean h Device.locateRequest_regs)
  | setTempo => exact .next (State.request_registersClean h Device.setTempoRequest_regs)
  | applySync => exact .next (State.request_registersClean h Device.applySyncRequest_regs)
  | releaseAll => exact .next (State.request_registersClean h fun _ _ => rfl)
  | unknownRequest => exact .next (State.request_registersClean h fun _ _ => rfl)
  -- accesses of the memory port
  | setListReadCompletion bus => exact (copyRead_leavesClean h bus).1
  | sceneReadCompletion bus => exact (copyRead_leavesClean h bus).2
  | slotVisit bus => exact (slotRead_leavesClean h bus).1
  | reload bus => exact (slotRead_leavesClean h bus).2
  | slotCompletion slot bus => exact (slotWrite_leavesClean h slot bus).1
  | completionRetry slot bus => exact (slotWrite_leavesClean h slot bus).2
  | statePageRewrite bus => exact statePageRewrite_leavesClean h bus
  | journalWriteCompletion bus => exact journalWriteCompletion_leavesClean h bus
  | headerReadCompletion bus => exact headerReadCompletion_leavesClean h bus
  -- events whose work branches, or sets a fault
  | keyByteArrival port byte stopBit =>
    exact .next (State.event_registersClean h (Device.keyByte_hostWords _ port byte stopBit))
  | tick =>
    exact .next (State.event_registersClean h (by simp [Device.takeTick]))
  | debounceExpiry pedal =>
    exact .next (State.event_registersClean h (congrArg Registers.hostWords (Device.pedalEdge_regs _ _ _ _)))
  | syncEdge => exact .next (State.event_registersClean h (congrArg Registers.hostWords (Device.takeEdge_regs _)))
  | syncLost => exact .next (State.event_registersClean h (Registers.setFault_hostWords _ _ _))
  | drainLimit => exact .next (State.event_registersClean h (Registers.setFault_hostWords _ _ _))
  | pedalInputChange pedal high => exact pedalInputChange_leavesClean h pedal high
  -- what is no event
  | ignoredRegisterWrite addr w => exact .next h
  | resetPinRelease => exact .next h
  -- every other command is an event that leaves both words as it leaves the block they stand in
  | _ => exact .next (State.event_registersClean h rfl)

end Arms

/-- Settles O7: every command keeps the registers clean, and a microsecond leaves them. -/
theorem registersStayClean : Obligations.RegistersStayClean := fun _ _ h ht =>
  step_keeps (P := State.registersClean) (fun _ _ h => h) (fun _ t c h => exec_leavesClean h c t) (fun _ h => h) h ht

end Sys2Proof.Machine
end

section
/-! The RESET pin held low: no event is taken, whatever its kind, and the registers read as after reset (R193; log 3). -/
namespace Sys2Proof.Machine

open Sys2Proof

section InReset

variable {s : State} (hlow : s.resetLow = true)
include hlow

/-- In reset no event is taken. -/
theorem State.event_inReset (due : Bool) (body : Device → Device) : s.event due body = s :=
  s.event_not_due due body (.inl hlow)

/-- Nor one with accesses of the memory port. -/
theorem State.portEvent_inReset (due : Bool) (bus : Bus) (body : Device → PortRun → Device × PortRun) :
    s.portEvent due bus body = s := by
  simp [State.portEvent, hlow]

/-- Nor an arrival. -/
theorem State.arrival_inReset (port : Fin 4) (fits : Message → Bool) (body : Message → Device → Device) :
    s.arrival port fits body = s := by
  unfold State.arrival
  split
  · rfl
  · exact State.event_inReset hlow _ _

/-- Nor a request. -/
theorem State.request_inReset (fits : Byte → Bool) (body : Request → Device → Device) : s.request fits body = s := by
  unfold State.request
  split
  · rfl
  · exact State.event_inReset hlow _ _

/-- And a write to CONTROL is not, its reset bit set or not. -/
theorem State.controlWrite_inReset (w : RegWrite) (cut : ResetCut) : s.controlWrite w cut = s := if_pos hlow

/-- In reset no command but the four that act there changes anything. -/
theorem exec_inReset {c : Instr} (hc : actsInReset c = false) : exec c s = .next s := by
  have hport := State.portEvent_inReset hlow
  cases c with
  -- the four that act in reset
  | powerOn cut => cases hc
  | resetPinAssert cut => cases hc
  | resetPinRelease => cases hc
  | pedalInputChange pedal high => cases hc
  -- arrivals at the routing unit
  | keyDown port => exact congrArg _ (State.arrival_inReset hlow _ _ _)
  | keyUp port => exact congrArg _ (State.arrival_inReset hlow _ _ _)
  | damperArrival port => exact congrArg _ (State.arrival_inReset hlow _ _ _)
  | controlArrival port => exact congrArg _ (State.arrival_inReset hlow _ _ _)
  | programArrival port => exact congrArg _ (State.arrival_inReset hlow _ _ _)
  -- requests
  | cueScene => exact congrArg _ (State.request_inReset hlow _ _)
  | cuePosition => exact congrArg _ (State.request_inReset hlow _ _)
  | go => exact congrArg _ (State.request_inReset hlow _ _)
  | hold => exact congrArg _ (State.request_inReset hlow _ _)
  | resume => exact congrArg _ (State.request_inReset hlow _ _)
  | cancel => exact congrArg _ (State.request_inReset hlow _ _)
  | unlockZones => exact congrArg _ (State.request_inReset hlow _ _)
  | start => exact congrArg _ (State.request_inReset hlow _ _)
  | stop => exact congrArg _ (State.request_inReset hlow _ _)
  | locate => exact congrArg _ (State.request_inReset hlow _ _)
  | setTempo => exact congrArg _ (State.request_inReset hlow _ _)
  | applySync => exact congrArg _ (State.request_inReset hlow _ _)
  | releaseAll => exact congrArg _ (State.request_inReset hlow _ _)
  | unknownRequest => exact congrArg _ (State.request_inReset hlow _ _)
  -- writes to CONTROL, and one that is ignored
  | controlEnableSet w => exact congrArg _ (State.controlWrite_inReset hlow w _)
  | controlEnableClear w => exact congrArg _ (State.controlWrite_inReset hlow w _)
  | attentionMode w => exact congrArg _ (State.controlWrite_inReset hlow w _)
  | causeEnable w => exact congrArg _ (State.controlWrite_inReset hlow w _)
  | controlReset w cut => exact congrArg _ (State.controlWrite_inReset hlow w cut)
  | ignoredRegisterWrite addr w => rfl
  -- accesses of the memory port, whatever is under way
  | setListReadCompletion bus =>
    simp only [exec, execSetListReadCompletion, hport]
    split <;> rfl
  | sceneReadCompletion bus =>
    simp only [exec, execSceneReadCompletion, hport]
    split <;> rfl
  | slotVisit bus =>
    simp only [exec, execSlotVisit, hport]
    split <;> rfl
  | reload bus =>
    simp only [exec, execReload, hport]
    split <;> rfl
  | slotCompletion slot bus =>
    simp only [exec, execSlotCompletion, hport]
    split <;> rfl
  | completionRetry slot bus =>
    simp only [exec, execCompletionRetry, hport]
    split <;> rfl
  | statePageRewrite bus =>
    simp only [exec, execStatePageRewrite, hlow]
    split <;> rfl
  | journalWriteCompletion bus =>
    simp only [exec, execJournalWriteCompletion, hport]
    split <;> rfl
  | headerReadCompletion bus =>
    simp only [exec, execHeaderReadCompletion, hport]
    split <;> rfl
  -- every other command is an event that touches no memory
  | _ => exact congrArg _ (State.event_inReset hlow _ _)

/-- In reset a read shows what it shows right after power-on. -/
theorem readRegister_inReset (addr : Word) : readRegister s addr = readRegister State.reset addr := if_pos hlow

end InReset

/-- Settles O9: every kind of command does nothing in reset, and a read shows the reset values. -/
theorem resetPinHoldsThePart : Obligations.ResetPinHoldsThePart := fun _ _ hlow hc =>
  ⟨exec_inReset hlow hc, readRegister_inReset hlow⟩

end Sys2Proof.Machine
end

section
/-! What the registers read as out of reset, and the ATTN line (R185, R191, R201, R202). -/
namespace Sys2Proof.Machine

open Sys2Proof

/-! ## STATUS, field by field (R201) -/

/-- A bit of a number as a word. -/
theorem getElem_ofNat_eq_testBit {w n i : Nat} (hi : i < w) : (BitVec.ofNat w n)[i] = n.testBit i := by
  rw [← BitVec.getLsbD_eq_getElem, BitVec.getLsbD_ofNat, decide_eq_true hi, Bool.true_and]

/-- The code of an engine state fits its three bits. -/
theorem EngineState.code_testBit (e : EngineState) {i : Nat} (hi : 3 ≤ i) : e.code.testBit i = false := by
  have hcode : e.code < 2 ^ 3 := by cases e <;> decide
  exact Nat.testBit_lt_two_pow (hcode.trans_le (Nat.pow_le_pow_right (by decide) hi))

section Status

variable (r : Registers) (e : EngineState)

/-- A bit of STATUS: that of the engine state, or of a field shifted to its place. -/
theorem statusWord_getLsbD {i : Nat} (hi : i < 32) :
    (statusWord r e).getLsbD i =
      (e.code.testBit i || (!decide (i < 4) && r.causes.getLsbD (i - 4))
        || (!decide (i < 8) && r.faults.getLsbD (i - 8)) || (!decide (i < 16) && r.fieldCode.getLsbD (i - 16))) := by
  simp [statusWord, getElem_ofNat_eq_testBit, hi]

/-- Bits 0-2 are the engine state. -/
theorem statusWord_engine : (statusWord r e).extractLsb' 0 3 = BitVec.ofNat 3 e.code := by
  refine BitVec.eq_of_getLsbD_eq fun i hi => ?_
  rw [BitVec.getLsbD_extractLsb', statusWord_getLsbD r e (by omega)]
  have h4 : i < 4 := by omega
  have h8 : i < 8 := by omega
  have h16 : i < 16 := by omega
  simp [getElem_ofNat_eq_testBit, hi, h4, h8, h16]

/-- Bits 4-6 are the causes. -/
theorem statusWord_causes : (statusWord r e).extractLsb' 4 3 = r.causes := by
  refine BitVec.eq_of_getLsbD_eq fun i hi => ?_
  rw [BitVec.getLsbD_extractLsb', statusWord_getLsbD r e (by omega), e.code_testBit (by omega)]
  have h8 : 4 + i < 8 := by omega
  have h16 : 4 + i < 16 := by omega
  simp [hi, h8, h16]

/-- Bits 8-13 are the sticky faults, above the three causes. -/
theorem statusWord_faults : (statusWord r e).extractLsb' 8 6 = r.faults := by
  refine BitVec.eq_of_getLsbD_eq fun i hi => ?_
  rw [BitVec.getLsbD_extractLsb', statusWord_getLsbD r e (by omega), e.code_testBit (by omega),
    BitVec.getLsbD_of_ge r.causes _ (by omega)]
  have h16 : 8 + i < 16 := by omega
  simp [hi, h16]

/-- Bits 16-18 are the field code, above the six sticky faults. -/
theorem statusWord_fieldCode : (statusWord r e).extractLsb' 16 3 = r.fieldCode := by
  refine BitVec.eq_of_getLsbD_eq fun i hi => ?_
  rw [BitVec.getLsbD_extractLsb', statusWord_getLsbD r e (by omega), e.code_testBit (by omega),
    BitVec.getLsbD_of_ge r.causes _ (by omega), BitVec.getLsbD_of_ge r.faults _ (by omega)]
  simp [hi]

/-- An address beyond the six registers reads as 0. -/
theorem readRegisterAt_beyond {addr : Word} (h : 24 ≤ addr.toNat) : readRegisterAt r e addr = 0 := by
  have hword : 24 ≤ wordAddress addr := by
    unfold wordAddress
    omega
  unfold readRegisterAt
  dsimp only
  rw [if_neg (by omega), if_neg (by omega), if_neg (by omega), if_neg (by omega)]

/-! ## ATTN (R191) -/

/-- In LEVEL mode ATTN is low exactly while some cause is latched and enabled. -/
theorem Registers.attnHigh_level (hlevel : r.control.getLsbD 1 = false) :
    r.attnHigh = false ↔ ∃ n : Nat, n < 3 ∧ r.causes.getLsbD n = true ∧ r.control.getLsbD (4 + n) = true := by
  have hmode : r.pulseMode = false := hlevel
  have hnone : r.causes &&& r.control.extractLsb' 4 3 = 0 ↔
      ∀ n : Nat, n < 3 → r.causes.getLsbD n = true → r.control.getLsbD (4 + n) = false := by
    rw [BitVec.eq_of_getLsbD_eq_iff]
    refine forall₂_congr fun n hn => ?_
    simp [hn]
  rw [Registers.attnHigh, hmode, if_neg (by decide), decide_eq_false_iff_not, hnone]
  simp

/-- In PULSE mode it is low during a pulse. -/
theorem Registers.attnHigh_pulse (hpulse : r.control.getLsbD 1 = true) :
    r.attnHigh = false ↔ r.attnPulse ≠ none := by
  have hmode : r.pulseMode = true := hpulse
  simp [Registers.attnHigh, hmode, Option.isSome_iff_ne_none]

end Status

/-- Settles O55: out of reset a read is the register's own word, STATUS field by field, and ATTN follows its mode. -/
theorem registersReadBack : Obligations.RegistersReadBack := by
  intro s hr
  have hread (addr : Word) : readRegister s addr = readRegisterAt s.dev.regs s.dev.engine.state addr := by
    rw [readRegister, hr]
    rfl
  have hattn : attnHigh s = s.dev.regs.attnHigh := by
    rw [attnHigh, hr]
    rfl
  have hstatus : readRegister s 0x10 = statusWord s.dev.regs s.dev.engine.state := hread _
  rw [hstatus, hattn]
  exact ⟨hread _, hread _, hread _, hread _, hread _, statusWord_engine _ _, statusWord_causes _ _, statusWord_faults _ _,
    statusWord_fieldCode _ _, fun addr h => (hread addr).trans (readRegisterAt_beyond _ _ h),
    Registers.attnHigh_level _, Registers.attnHigh_pulse _⟩

end Sys2Proof.Machine
end

section
/-! The changes of the enable outside ONLINE (R187). -/
namespace Sys2Proof.Machine

open Sys2Proof

/-! ## What the enable does to the part -/

/-- The part as a write to CONTROL leaves it that moves the engine, with the field code and the page writer of a LOADING
that begins (R182, R185, R187). -/
def State.engineMoved (s : State) (w : RegWrite) (e : Engine) (code : BitVec 3) (p : PageWriter) : Device :=
  { s.controlWritten w with
    engine := e, page := p, regs := { s.dev.regs.writeControl (regWord w) with fieldCode := code } }

section Part

variable {s : State} {w : RegWrite}

/-- Setting the enable is the engine's own event. -/
theorem State.writeControl_setsEnable (hset : (regWord w).getLsbD 0 = true)
    (hoff : s.dev.regs.control.getLsbD 0 = false) :
    s.dev.beginEvent.writeControl (regWord w) = (s.controlWritten w).enableSet := by
  have henable : s.dev.beginEvent.regs.enable = false := hoff
  simp only [Device.writeControl, hset, henable]
  rfl

/-- So is clearing it. -/
theorem State.writeControl_clearsEnable (hclear : (regWord w).getLsbD 0 = false)
    (hon : s.dev.regs.control.getLsbD 0 = true) :
    s.dev.beginEvent.writeControl (regWord w) = (s.controlWritten w).enableCleared := by
  have henable : s.dev.beginEvent.regs.enable = true := hon
  simp only [Device.writeControl, hclear, henable]
  rfl

/-- From OFFLINE the engine begins LOADING. -/
theorem State.enableSet_offline (h : s.dev.engine.state = .offline) :
    ∃ p, (s.controlWritten w).enableSet = s.engineMoved w { s.dev.engine with state := .loading } 0 p := by
  have hstate : (s.controlWritten w).engine.state = .offline := h
  unfold Device.enableSet
  rw [hstate]
  exact ⟨_, rfl⟩

/-- DRAINING takes the restart mark. -/
theorem State.enableSet_draining (h : s.dev.engine.state = .draining) :
    (s.controlWritten w).enableSet =
      s.engineMoved w { s.dev.engine with restart := true } s.dev.regs.fieldCode s.dev.page := by
  have hstate : (s.controlWritten w).engine.state = .draining := h
  unfold Device.enableSet
  rw [hstate]
  rfl

/-- DRAINING loses it. -/
theorem State.enableCleared_draining (h : s.dev.engine.state = .draining) :
    (s.controlWritten w).enableCleared =
      s.engineMoved w { s.dev.engine with restart := false } s.dev.regs.fieldCode s.dev.page := by
  have hstate : (s.controlWritten w).engine.state = .draining := h
  unfold Device.enableCleared
  rw [hstate]
  rfl

/-- LOADING is abandoned, and FAULTED left: the engine is OFFLINE. -/
theorem State.enableCleared_toOffline (h : s.dev.engine.state = .loading ∨ s.dev.engine.state = .faulted) :
    ∃ n, (s.controlWritten w).enableCleared =
      s.engineMoved w { s.dev.engine with state := .offline, abandonedLoads := n } s.dev.regs.fieldCode s.dev.page := by
  unfold Device.enableCleared
  rcases h with h | h
  · have hstate : (s.controlWritten w).engine.state = .loading := h
    rw [hstate]
    exact ⟨_, rfl⟩
  · have hstate : (s.controlWritten w).engine.state = .faulted := h
    rw [hstate]
    exact ⟨_, rfl⟩

end Part

/-! ## The event -/

section Event

variable {s : State} {w : RegWrite} {e : Engine} {code : BitVec 3} {p : PageWriter} (hready : s.isReady = true)
  (hnoReset : (regWord w).getLsbD 31 = false)
  (hmoves : s.dev.beginEvent.writeControl (regWord w) = s.engineMoved w e code p)
include hready hnoReset hmoves

/-- A write that moves the engine, but does not begin a drain. -/
theorem State.controlWrite_movesEngine (hstate : e.state ≠ .draining ∨ e.state = s.dev.engine.state) :
    ∃ t, t = s.controlWrite w ResetCut.clean ∧ t.dev.engine = e ∧ t.dev.regs.fieldCode = code
      ∧ t.dev.regs.control = regWord w &&& 0x00000073#32
      ∧ EventChanges [.fieldCode, .control, .attnPulse, .engine] s t := by
  obtain ⟨hr, hen, hpc, hquiet⟩ := State.isReady_spec hready
  have hover : (s.engineMoved w e code p).drainOver = false := by
    rcases hstate with hstate | hstate
    · exact Device.drainOver_of_state hstate
    · rw [← hquiet]
      exact congrArg (fun x => decide (x = .draining) && s.dev.stage.isQuiet) hstate
  obtain ⟨t, ht, ⟨page, q, hs⟩, -, hc⟩ := State.event_outcome (body := fun d => d.writeControl (regWord w)) _ []
    [.fieldCode, .control, .attnPulse, .engine] rfl hr hen hpc (.inr rfl) hmoves hen rfl hover fun b => by
      cases b <;> simp [Block.agrees, State.engineMoved, State.controlWritten, Registers.writeControl]
  have hword : isResetWord (regWord w) = false := hnoReset
  refine ⟨t, ?_, by rw [hs]; rfl, by rw [hs]; rfl, by rw [hs]; rfl, hc⟩
  rw [ht, State.controlWrite, hr, hword]
  rfl

/-- One that leaves the field code as well. -/
theorem State.controlWrite_movesEngineAlone (hstate : e.state ≠ .draining ∨ e.state = s.dev.engine.state)
    (hcode : code = s.dev.regs.fieldCode) :
    ∃ t, t = s.controlWrite w ResetCut.clean ∧ t.dev.engine = e ∧ t.dev.regs.control = regWord w &&& 0x00000073#32
      ∧ EventChanges [.control, .attnPulse, .engine] s t := by
  obtain ⟨t, ht, he, hfield, hcontrol, hc⟩ := State.controlWrite_movesEngine hready hnoReset hmoves hstate
  exact ⟨t, ht, he, hcontrol, hc.of_agrees (hfield.trans hcode)⟩

end Event

/-- Settles O56: each change of the enable by the state that it finds the engine in. -/
theorem enableMovesTheEngine : Obligations.EnableMovesTheEngine := by
  intro s w hready hnoReset
  refine ⟨fun hset hoff => ⟨fun hoffline => ?_, fun hdraining => ?_⟩,
    fun hclear hon => ⟨fun hbefore => ?_, fun hdraining => ?_⟩⟩
  · obtain ⟨p, hp⟩ := State.enableSet_offline (w := w) hoffline
    obtain ⟨t, ht, he, hfield, hcontrol, hc⟩ := State.controlWrite_movesEngine hready hnoReset
      ((State.writeControl_setsEnable hset hoff).trans hp) (.inl (by simp))
    exact ⟨t, congrArg _ ht.symm, he, hfield, hcontrol, OnlyChanges.mono hc (by decide)⟩
  · obtain ⟨t, ht, he, -, hc⟩ := State.controlWrite_movesEngineAlone hready hnoReset
      ((State.writeControl_setsEnable hset hoff).trans (State.enableSet_draining hdraining)) (.inr rfl) rfl
    exact ⟨t, congrArg _ ht.symm, he, hc⟩
  · obtain ⟨n, hn⟩ := State.enableCleared_toOffline (w := w) hbefore
    obtain ⟨t, ht, he, hcontrol, hc⟩ := State.controlWrite_movesEngineAlone hready hnoReset
      ((State.writeControl_clearsEnable hclear hon).trans hn) (.inl (by simp)) rfl
    exact ⟨t, congrArg _ ht.symm, by rw [he], hcontrol, hc⟩
  · obtain ⟨t, ht, he, -, hc⟩ := State.controlWrite_movesEngineAlone hready hnoReset
      ((State.writeControl_clearsEnable hclear hon).trans (State.enableCleared_draining hdraining)) (.inr rfl) rfl
    exact ⟨t, congrArg _ ht.symm, he, hc⟩

end Sys2Proof.Machine
end

section
/-! Device reset as a whole (R193): the memory keeps what was written, and an operation of which no access was made has left
nothing behind (log 22). -/
namespace Sys2Proof.Machine

open Sys2Proof

/-! ## An operation struck at its first access -/

section Struck

variable (m : Mem)

/-- Without accesses made, an operation meets the memory as it stands, and its first access fails. -/
theorem cutOperation_nil (op : PortRun → PortRun) : cutOperation op [] m = (op (struckRun [] m)).mem := by
  simp [cutOperation]

/-- A read that is struck gives nothing and leaves the memory. -/
theorem portRead_struck (addr n : Nat) :
    portRead (struckRun [] m) addr n = (none, { mem := m, bus := [] }) := rfl

/-- A write that is struck leaves nothing behind. -/
theorem portWrite_struck (addr : Nat) (bytes : List Byte) :
    portWrite (struckRun [] m) addr bytes = (false, { mem := m, bus := [] }) := rfl

/-- So do the writes of an operation. -/
theorem portWriteAll_struck (ws : List (Nat × List Byte)) : (portWriteAll (struckRun [] m) ws).2.mem = m := by
  cases ws with
  | nil => rfl
  | cons w ws =>
    unfold portWriteAll
    rw [portWrite_struck]
    rfl

/-- A rewrite or a completion of which no write was made. -/
theorem cutWrites_nil (ws : List (Nat × List Byte)) : cutWrites ws [] m = m :=
  (cutOperation_nil m _).trans (portWriteAll_struck m ws)

/-- A journal entry's body that is struck is not written. -/
theorem Device.writeBody_struck (d : Device) (h : Handed) (body : List Byte) (c : Option Word) :
    d.writeBody h body c (struckRun [] m) = (false, d, { mem := m, bus := [] }) := rfl

/-- An entry struck at its own body, or lost for want of room. -/
theorem Device.writeOwn_struck (d : Device) (h : Handed) (c : Option Word) :
    (d.writeOwn h c (struckRun [] m)).2.mem = m := by
  unfold writeOwn
  split
  · rw [writeBody_struck]
  · rfl

/-- One struck at its GAP, when one is due, or at its own body. -/
theorem Device.writeEntry_struck_nil (d : Device) (h : Handed) (c : Option Word) :
    (d.writeEntry h c (struckRun [] m)).2.mem = m := by
  unfold writeEntry
  split
  · exact d.writeOwn_struck m h c
  · rw [writeBody_struck]

/-- The taking of an entry: in STOP mode its first access is the read of the consumed count (R158). -/
theorem Device.takeEntry_struck (d : Device) (h : Handed) : (d.takeEntry h (struckRun [] m)).2.mem = m := by
  unfold takeEntry recordEntry
  dsimp only
  split
  · split
    · exact writeEntry_struck_nil m _ h none
    · rw [portRead_struck]
  · rfl

end Struck

/-! ## What a reset cuts short (log 22) -/

/-- Operations cut short one after another leave a memory that each of them leaves. -/
theorem foldl_cut_eq {α : Type} {f : Mem → α → Mem} {m : Mem} (hf : ∀ a, f m a = m) (as : List α) :
    as.foldl f m = m := by
  induction as with
  | nil => rfl
  | cons a as ih => rw [List.foldl_cons, hf, ih]

section Cut

variable (d : Device) (m : Mem)

/-- A reset that finds no access made touches no memory. -/
theorem cutShort_clean : cutShort d { page := [], slots := [], retries := [], journal := [] } m = m := by
  have hpage : cutPage d [] m = m := by
    unfold cutPage
    split
    · rfl
    · exact cutWrites_nil m _
  have hjournal : cutJournal d [] m = m := by
    unfold cutJournal
    split
    · rfl
    · exact (cutOperation_nil m _).trans (d.takeEntry_struck m _)
  simp [cutShort, hpage, hjournal]

/-- Nor does one that finds nothing under way, whatever accesses it is given. -/
theorem cutShort_idle (cut : ResetCut) (hpage : d.page.running = none) (hslots : d.req.completions = [])
    (hretries : ∀ k : Fin 8, d.retryDue k = none) (hqueue : d.jw.queue = []) : cutShort d cut m = m := by
  have hcutPage : cutPage d cut.page m = m := by rw [cutPage, hpage]
  have hcutSlot (c : Fin 8 × Bus) : cutSlot d m c = m := by rw [cutSlot, hslots]; rfl
  have hcutRetry (c : Fin 8 × Bus) : cutRetry d m c = m := by rw [cutRetry, hretries]
  rw [cutShort, hcutPage, foldl_cut_eq hcutSlot, foldl_cut_eq hcutRetry, cutJournal, hqueue]

end Cut

/-- A CONTROL write with its reset bit, out of reset, is a device reset (R186). -/
theorem State.controlWrite_resets {s : State} {w : RegWrite} (hr : s.resetLow = false)
    (hreset : (regWord w).getLsbD 31 = true) (cut : ResetCut) :
    s.controlWrite w cut = s.deviceReset cut s.dev.now false := by
  have hword : isResetWord (regWord w) = true := hreset
  rw [State.controlWrite, hr, hword]
  rfl

/-- Settles O60: the three resets are one device reset with their own clock and pin, and what it cuts short is in the
memory. -/
theorem deviceResetIsWhole : Obligations.DeviceResetIsWhole := by
  intro s cut w reset
  refine ⟨rfl, rfl, rfl, fun hr hreset => ?_, cutShort_clean s.dev s.mem, cutShort_idle s.dev s.mem cut⟩
  show (.next (s.controlWrite w cut) : Host.Outcome State Fault Refusal) = _
  rw [State.controlWrite_resets hr hreset, ← hr]
  rfl

end Sys2Proof.Machine
end

section
/-! The step and the queue in front of it (log 2). -/
namespace Sys2Proof.Machine

open Sys2Proof

/-- While a command waits, a step is that command's effect on the machine with the queue's rest, and runs nothing that
is due. -/
theorem step_of_pending {s : State} {c : Instr} {rest : List Instr} (h : s.pending = c :: rest) :
    step s = exec c { s with pending := rest } := by
  rw [step, h]

/-- Settles O1: a command put in front of the queue is the one that waits, and the queue's rest is the queue before. -/
theorem stepRunsFrontCommand : Obligations.StepRunsFrontCommand := fun c s =>
  step_of_pending (s.withCommand_pending c)

end Sys2Proof.Machine
end
